-- ==== Sys2Proof/Word.lean ====
section
/-! DEFINITION. The word types of the OKF-3120 model: the bytes of telegrams and images, and the fields the
manual gives in 8, 16 or 32 bits. -/

namespace Sys2Proof

/-- A byte of a telegram, of a recipe image or of the configuration image. -/
abbrev Byte := BitVec 8

/-- A two-byte field: variant, lot, a CRC, a watch count. -/
abbrev Half := BitVec 16

/-- A board serial (R4). -/
abbrev Serial := BitVec 32

/-- The cell seconds counter and the time stamps taken from it (R221). -/
abbrev Seconds := BitVec 32

/-- A set of coat steps 1..4, bit k - 1 for step k, the bit order of section 11.6. -/
abbrev Steps := BitVec 4

/-- A set of hold reasons, bit n for reason code n of section 11.6 (R9). -/
abbrev Reasons := BitVec 20

end Sys2Proof
end

