-- ==== Sys2Proof/Syntax.lean ====
section
/-! DEFINITION. The commands of the OKF-3120: one constructor for each row of spec/opcode_table.json, with the operands
the rows' rules need (the table gives none: log 4). -/

namespace Sys2Proof

/-- The eleven board positions, in conveyor order (R1). -/
inductive Position where
  | entry | transport | spray | gate
  | tunnel0 | tunnel1 | tunnel2 | tunnel3 | tunnel4 | tunnel5
  | exit
deriving DecidableEq, Repr

/-- The three conveyor moves the board tracker and spray sequencer start (R12). -/
inductive ConvMove where
  /-- ENTRY to TRANSPORT -/
  | toTransport
  /-- TRANSPORT to SPRAY -/
  | toSpray
  /-- SPRAY to GATE -/
  | toGate
deriving DecidableEq, Repr

/-- The thermal zones (R129). -/
inductive Zone where
  | a | b | c
deriving DecidableEq, Repr

/-- The direction an encoder count arrives with (R66, R85). -/
inductive Direction where
  | forward | reverse
deriving DecidableEq, Repr

/-- What the ID reader port hands over for a request (R18). -/
inductive IdAnswer where
  /-- a serial, a variant and a lot read from the label -/
  | read (serial : Serial) (variant lot : Half)
  /-- the reader's no-read answer -/
  | noRead
  /-- an answer that fails the reader port's check -/
  | badCheck
deriving DecidableEq, Repr

/-- What the temperature converter's answer holds (R143). -/
inductive ProbeAnswer where
  /-- a temperature in 0.1 °C -/
  | value (t : Int)
  /-- the converter's error answer -/
  | error
  /-- an answer that fails the probe port's check -/
  | badCheck
deriving DecidableEq, Repr

/-- A telegram's destination, source, kind and payload bytes, as received or as posted (R207). -/
structure Telegram where
  dst : Byte
  src : Byte
  kind : Byte
  payload : List Byte
deriving DecidableEq, Repr

/-- The moments of a telegram of another station: its bytes arrive (R207), and its acceptance slot begins and ends (R210, R211,
log 51). -/
inductive HeardEvent where
  /-- the next bytes have arrived, and whether a stop bit in any of them was found dominant -/
  | arrive (bytes : List Byte) (stopFault : Bool)
  /-- the last CRC byte has arrived, and the slot begins -/
  | slotBegins
  /-- the slot ends -/
  | slotEnds
deriving DecidableEq, Repr

/-- The commands, in the order of spec/opcode_table.json. -/
inductive Instr where
  | coldReset
  /-- the bytes the loader read from the configuration memory (R219) -/
  | configurationLoad (image : List Byte)
  /-- the filtered levels at the sample of the scan: bit k of `positions` for the k-th position from ENTRY, bit k of `racks` for
  rack position k, 1 for occupied (R21) -/
  | clearOutScan (positions : BitVec 11) (racks : BitVec 8)
  | occupiedEdge (p : Position)
  | emptyEdge (p : Position)
  | moveStart (m : ConvMove)
  /-- `request` is the request number the reader echoes (R18) -/
  | idReadAnswer (request : Nat) (answer : IdAnswer)
  | entryReadTimeout
  | orphanWaitExpiry
  | offer
  | accept
  | decline
  | received
  | answerWaitExpiry
  | reOfferWaitExpiry
  | upstreamTransferTimeout
  /-- `i` is the entry's place in the arrival list, oldest first (R36) -/
  | downstreamTransferTimeout (i : Fin 2)
  | receivedRepost
  | recipePart
  | recipeActivate
  | recipeDrop
  /-- `datum` is the datum sensor's raw level at the count, true for occupied (R69) -/
  | transportEncoderCount (dir : Direction) (datum : Bool)
  | claimRequest
  | passStart
  /-- `rising` tells the edge of the count track (R84); `elapsed` is the advance of the 0.1 ms time base since the event before
  (R105, log 18) -/
  | sprayEncoderCount (dir : Direction) (rising : Bool) (elapsed : Nat)
  | passStallTimeout
  | speedWindowEnd
  | purgeClaimRequest
  | purgeTimerExpiry
  | supplyClaim (source : Byte) (payload : List Byte)
  | supplyDone (source : Byte) (payload : List Byte)
  | ownClaimReadback (refused : Bool)
  | ownDoneReadback (refused : Bool)
  | supplyTick
  /-- `station` is the source of the entry that has run out (R119) -/
  | claimEntryExpiry (station : Byte)
  | claimGranted
  | learningTimeEnd
  | reClaimTimerExpiry
  | cureTick
  | potLifeExpiry
  | dwellExpiry
  | indexStart
  | indexDone
  | indexTimeout
  /-- `zone` and `request` are the numbers the converter echoes (R143) -/
  | probeReadDone (zone : Zone) (request : Nat) (answer : ProbeAnswer)
  | probeReadTimeout
  | diversionStart
  | rackOccupiedEdge (r : Fin 8)
  | rackEmptyEdge (r : Fin 8)
  | release
  | lotHold
  | lotLift
  | watchClear
  | statusQuery
  | guardOpening
  | guardClosing
  | settleTimeExpiry
  /-- `opened` is the first filtered level of the guard input, true for open (R222) -/
  | guardFirstLevel (opened : Bool)
  | linkIdle
  /-- `slot` is the access-slot count at the boundary (R208) -/
  | sendStart (slot : Nat)
  | clash
  /-- `refused` tells whether the pair was found dominant in the acceptance slot (R210) -/
  | sendEnd (refused : Bool)
  /-- the slot of a good telegram (R207, R210, R211) -/
  | telegramTaken (e : HeardEvent)
  /-- the slot of a telegram with a CRC or stop-bit fault (R207, R210) -/
  | faultyTelegram (e : HeardEvent)
  | telegramAbandoned
  | heldTelegramEntered
  | cellSecondsTick
  /-- `present` is the channel's new filtered level, a mask seen (R72) -/
  | maskChannelEdge (k : Fin 32) (present : Bool)
  | startBitHeard
deriving DecidableEq, Repr

end Sys2Proof
end

