-- ==== Sys2Proof/Config.lean ====
section
/-! DEFINITION. What the part fixes for good (times, capacities) and the values the manual leaves open. -/

namespace Sys2Proof.Config

/-- The value of a byte that a command's payload is too short to hold, where the answer must carry it "as it was
read" (R50, R176) or where a misfitting OFFER must be declined with its number and serial (R35). The manual states no
value. FREE VALUE: it has no body, and it is applied to the count of free values used so far (log 15). -/
opaque freeByte : Nat → Byte

/-- Telegrams each queue of the link holds (R212, R213). -/
def queueRoom : Nat := 8

/-- Longest payload of a telegram (R207). -/
def maxPayload : Nat := 64

/-- Bytes of the longest telegram: delimiter, address, source, kind, length, payload and CRC (R207). -/
def maxTelegram : Nat := 71

/-- Entries the arrival list holds (R36). -/
def arrivalRoom : Nat := 2

/-- Intervals the spray schedule holds (R92). -/
def scheduleRoom : Nat := 128

/-- Bytes of the configuration image (section 11.8). -/
def imageBytes : Nat := 97

/-- The largest value of a 32-bit saturating count (R141, R160). -/
def max32 : Nat := 2 ^ 32 - 1

/-- Read timer of the ID reader, ms (R18). -/
def readTime : Nat := 500

/-- Answer wait of an OFFER, ms (R30). -/
def answerTime : Nat := 50

/-- Re-offer wait, ms (R30). -/
def reOfferTime : Nat := 500

/-- Delay before a refused RECEIVED is posted again, ms (R37). -/
def repostTime : Nat := 50

/-- Most postings of one RECEIVED (R37). -/
def maxPostings : Nat := 8

/-- Settle time after the guard closes, ms (R25). -/
def settleTime : Nat := 2000

/-- Pass stall timer, ms (R100). -/
def stallTime : Nat := 200

/-- Speed window, ms (R86). -/
def windowTime : Nat := 16

/-- Supply tick, ms (R119). -/
def supplyTickTime : Nat := 10

/-- Re-claim timer, ms (R124). -/
def reClaimTime : Nat := 50

/-- Cure tick, ms (R131). -/
def cureTickTime : Nat := 1000

/-- Index timeout, ms (R129). -/
def indexTime : Nat := 10000

/-- Probe read timeout, ms (R129). -/
def probeTime : Nat := 250

/-- Reverse travel that breaks a measurement when exceeded, counts (R73). -/
def rockBack : Nat := 64

end Sys2Proof.Config
end

