-- ==== Sys2Proof/Machine/State.lean ====
section
/-! DEFINITION. The state of the OKF-3120: every record, list, queue, counter, mark and timer the manual gives the part, block by
block, as plain data, and the state after cold reset. Times are in milliseconds unless a rule says otherwise. A timer is an
`Option Nat`: absent while stopped, the time left while running or suspended. -/

namespace Sys2Proof.Machine

/-! ## Values by place -/

/-- One value for each of the eleven positions (R1). -/
structure PerPos (α : Type) where
  entry : α
  transport : α
  spray : α
  gate : α
  tunnel0 : α
  tunnel1 : α
  tunnel2 : α
  tunnel3 : α
  tunnel4 : α
  tunnel5 : α
  exit : α
deriving DecidableEq, Repr

/-- One value for each zone (R129). -/
structure PerZone (α : Type) where
  a : α
  b : α
  c : α
deriving DecidableEq, Repr

/-! ## Records of boards (chapter 1) -/

/-- The sides of a board (R4). -/
inductive Side where
  | top | bottom
deriving DecidableEq, Repr

/-- The 20 hold reasons, in the order of their codes (R9, section 11.6). -/
inductive Reason where
  | maskMissing | maskUnchecked | length | noRecipe | stepMissing | idMismatch | noTraveller | duplicateSerial
  | sprayAborted | scheduleFull | filmThin | filmThick | potLife | cureShort | overcure | overtemp | cureDataGap
  | lotHold | auditSample | stranded
deriving DecidableEq, Repr

/-- One entry of the coat results list (R6). -/
structure CoatResult where
  step : Byte
  cell : Byte
  filmMin : Half
  filmMax : Half
  dose : Half
deriving DecidableEq, Repr

/-- The traveller part of a board record (R4). -/
structure Traveller where
  serial : Option Serial
  readSerial : Option Serial
  variant : Half
  lot : Half
  sideUp : Side
  stepsDone : Steps
  reasons : Reasons
  length : Option Half
  snapshot : Option (BitVec 4)
  results : List CoatResult
deriving DecidableEq, Repr

/-- A zone's verdict (R7). -/
inductive Verdict where
  | pending | watching | verified | missing | uncheckable
deriving DecidableEq, Repr

/-- How far spraying of a record has gone (R7). -/
inductive SprayState where
  | notDue | waitingSupply | spraying | done | skipped | aborted
deriving DecidableEq, Repr

/-- The first clip of a schedule (R91). -/
structure FirstClip where
  valve : Nat
  x : Nat
  zone : Nat
deriving DecidableEq, Repr

/-- What zone exclusion took from the schedule (R7, R91). -/
structure ClipRecord where
  count : Nat
  first : Option FirstClip
deriving DecidableEq, Repr

/-- The film the pass laid down (R108). -/
structure FilmResult where
  min : Nat
  max : Nat
  margin : Int
deriving DecidableEq, Repr

/-- The ways an OFFERED record waits (section 2.2); `due` is an OFFER not yet handed to the queue because the cell is
STOPPED (R30, R44). -/
inductive OfferWait where
  | due
  | posting
  | answer (timer : Nat)
  | reOffer (timer : Nat)
deriving DecidableEq, Repr

/-- The handoff state of a record at EXIT (R7, section 2.2). A record released into the line end has no handoff number (R34). -/
inductive Handoff where
  | offered (number : Byte) (wait : OfferWait)
  | transferring (number : Option Byte) (cleared received : Bool) (timer : Option Nat)
deriving DecidableEq, Repr

/-- The diversion state of a record at EXIT (R168). -/
inductive Diversion where
  | waitingRack
  | diverting (target : Fin 8)
deriving DecidableEq, Repr

/-- One board record (R4, R7). Its position field is the place it stands in in the table (log 32). -/
structure Record where
  trav : Traveller
  recipe : Option (Fin 12)
  verdicts : List Verdict
  spray : SprayState
  clip : ClipRecord
  film : Option FilmResult
  sprayEnd : Option Seconds
  elapsed : Nat
  dose : Nat
  tickWeight : Option Nat
  handoff : Option Handoff
  diversion : Option Diversion
deriving DecidableEq, Repr

/-- The board table (R1): at most one record a position. -/
abbrev Table := PerPos (Option Record)

/-! ## Inputs (R11, R222) -/

/-- A filtered input: the raw level of its pin, its raw level at the last filter-clock sample, and its filtered level. -/
structure Filter where
  raw : Bool
  last : Option Bool
  level : Option Bool
deriving DecidableEq, Repr

/-- The filtered inputs and the time left to the next filter-clock sample. A guard level of true is open. -/
structure Inputs where
  pos : PerPos Filter
  mask : Vector Filter 32
  rack : Vector Filter 8
  indexDone : Filter
  guard : Filter
  clock : Nat
deriving DecidableEq, Repr

/-! ## The board tracker (chapters 1 and 2) -/

/-- The conveyor moves under way (R12). -/
structure Moves where
  toTransport : Bool
  toSpray : Bool
  toGate : Bool
deriving DecidableEq, Repr

/-- The outcome of an entry read (R18). -/
inductive ReadOutcome where
  | read (serial : Serial) (variant lot : Half)
  | noRead
deriving DecidableEq, Repr

/-- A board at ENTRY without a record: its entry read is PENDING, or has ended and the orphan wait runs (R18, R41). -/
inductive Arrival where
  | reading (timer : Nat)
  | orphan (outcome : ReadOutcome) (timer : Nat)
deriving DecidableEq, Repr

/-- One entry of the arrival list (R36). -/
structure ArrivalEntry where
  trav : Traveller
  source : Byte
  number : Byte
  acceptedAt : Seconds
  timer : Nat
deriving DecidableEq, Repr

/-- A refused RECEIVED that waits to be posted again (R37). -/
structure Repost where
  dst : Byte
  number : Byte
  serial : Option Serial
  postings : Nat
  timer : Nat
deriving DecidableEq, Repr

/-- The board tracker's own state (R12, R17, R18, R24, R25, R27, R36, R37). -/
structure Tracker where
  moves : Moves
  stopLowered : Bool
  arrival : Option Arrival
  idRequest : Nat
  arrivals : List ArrivalEntry
  handoffCounter : Byte
  reposts : List Repost
  hold : Bool
  settle : Option Nat
deriving DecidableEq, Repr

/-! ## The recipe store (chapter 3) -/

/-- The side a recipe matches (R46). -/
inductive RecipeSide where
  | top | bottom | either
deriving DecidableEq, Repr

/-- The rate of a segment, by its mode (R47). -/
inductive Rate where
  | spray (flow : Nat)
  | jet (pitch dotVolume : Nat)
deriving DecidableEq, Repr

/-- A path one valve covers along the board (R47). -/
structure Segment where
  valve : Nat
  xOpen : Nat
  xClose : Nat
  rate : Rate
deriving DecidableEq, Repr

/-- The kinds of zone (R47). -/
inductive ZoneKind where
  | noCoat | masked
deriving DecidableEq, Repr

/-- A rectangle of the board (R47). -/
structure BoardZone where
  kind : ZoneKind
  x0 : Nat
  x1 : Nat
  y0 : Nat
  y1 : Nat
deriving DecidableEq, Repr

/-- The fields of a recipe record (R46, R47). -/
structure Recipe where
  base : Half
  mask : Half
  side : RecipeSide
  step : Nat
  prereq : Steps
  lenMin : Nat
  lenMax : Nat
  clearance : Nat
  hMin : Nat
  hMax : Nat
  tRef : Int
  tOn : Int
  tMax : Int
  cureMin : Nat
  cureMax : Nat
  flashMin : Nat
  potMax : Nat
  passLimit : Nat
  segments : List Segment
  zones : List BoardZone
  crc : Half
deriving DecidableEq, Repr

/-- A recipe record of the store with its state (R48). -/
inductive RecipeCell where
  | free
  | assembled (r : Recipe)
  | staged (r : Recipe)
  | active (r : Recipe)
  | retiring (r : Recipe)
deriving DecidableEq, Repr

/-- The references of a recipe slot (R49). -/
structure RecipeSlot where
  active : Option (Fin 12)
  staged : Option (Fin 12)
deriving DecidableEq, Repr

/-- The assembler (R51). -/
inductive Assembler where
  | idle
  | assembling (slot : Fin 8) (next : Nat) (data : List Byte)
deriving DecidableEq, Repr

/-- The recipe store (R48, R49, R51). -/
structure Store where
  records : Vector RecipeCell 12
  slots : Vector RecipeSlot 8
  assembler : Assembler
deriving DecidableEq, Repr

/-! ## The mask checker (chapter 4) -/

/-- The mask checker's states (R68). -/
inductive MaskPhase where
  | idle | armed | measuring | closed
deriving DecidableEq, Repr

/-- The mask checker (R68, R69, R70, R73). `cand` is the place where the candidate record stands. -/
structure MaskChecker where
  phase : MaskPhase
  cand : Option Position
  x : Int
  high : Int
  accepted : Option Bool
  lastSample : Option Bool
  sampled : List Bool
deriving DecidableEq, Repr

/-! ## The spray sequencer (chapter 5) -/

/-- How far a schedule interval has come in the pass (R96, R97, R105). -/
inductive Progress where
  | armed
  /-- its open event has become due and waits for the close of the valve's previous interval -/
  | due
  /-- its close event has become due before the open fired: the interval is to be passed over; whether its open event has become due
  too (R93, R96, log 66) -/
  | lapsed (openDue : Bool)
  /-- open since the time `since` of the 0.1 ms base; for a JET interval, whether the valve stands open, the pitch counter and
  the dot count -/
  | opened (since : Nat) (jetOn : Bool) (pitchLeft dots : Nat)
  /-- its close event has fired, after an open time in 0.1 ms or with a dot count -/
  | closed (time dots : Nat)
  | passedOver
deriving DecidableEq, Repr

/-- One interval of the schedule (R90, R92). -/
structure Interval where
  valve : Nat
  xOpen : Nat
  xClose : Nat
  rate : Rate
  segment : Nat
  progress : Progress
deriving DecidableEq, Repr

/-- The states of purge work (R109). -/
inductive PurgeState where
  | none | requested | claiming | purging
deriving DecidableEq, Repr

/-- The spray sequencer (R85, R86, R88, R100, R105, R109, R110). -/
structure Sprayer where
  schedule : Option (List Interval)
  travelled : Nat
  abort : Option Nat
  speed : Nat
  windowCount : Nat
  windowMs : Nat
  tenths : Nat
  purgeMark : Bool
  purge : PurgeState
  purgeTimer : Option Nat
deriving DecidableEq, Repr

/-! ## The supply view (chapter 6) -/

/-- One claim entry (R116), its remaining duration in 10 ms units. -/
structure ClaimEntry where
  station : Byte
  serial : Option Serial
  remaining : Nat
deriving DecidableEq, Repr

/-- The own claim states (R120). -/
inductive OwnClaim where
  | none | queued | sending | waiting | granted | refusedWait | ending
deriving DecidableEq, Repr

/-- What the own claim is made for (R120). -/
inductive Holder where
  | board | purge
deriving DecidableEq, Repr

/-- The supply view (R116, R119, R120, R121, R123 to R125). -/
structure Supply where
  view : List ClaimEntry
  own : OwnClaim
  holder : Option Holder
  claimSerial : Option Serial
  claimDuration : Nat
  doneRead : Bool
  reClaim : Option Nat
  learning : Option Nat
  tickMs : Nat
deriving DecidableEq, Repr

/-! ## The cure tunnel controller (chapter 7) -/

/-- The tunnel's phases (R130). -/
inductive Phase where
  | dwell | indexPending | indexing
deriving DecidableEq, Repr

/-- The tunnel's run states (R130). -/
inductive RunState where
  | running | stopped | fault
deriving DecidableEq, Repr

/-- A zone's value in use and miss count (R144); its status is computed from them. -/
structure ZoneState where
  value : Option Int
  miss : Nat
deriving DecidableEq, Repr

/-- The read under way on the probe port (R143). -/
structure ProbeRead where
  zone : Zone
  timer : Nat
deriving DecidableEq, Repr

/-- The cure tunnel controller (R130, R137, R140, R143, R144). -/
structure Tunnel where
  phase : Phase
  dwell : Nat
  extensionUsed : Nat
  fault : Bool
  drive : Bool
  timeout : Option Nat
  carriesGate : Bool
  zones : PerZone ZoneState
  poll : Option ProbeRead
  probeRequest : Nat
  cureMs : Nat
deriving DecidableEq, Repr

/-! ## The hold manager (chapter 9) -/

/-- The states of a hold-list entry (R166). -/
inductive HoldState where
  | held | releasedRework | releasedScrap
deriving DecidableEq, Repr

/-- One entry of the hold list (R165). Variant and lot are present or absent together (section 11.6, RACK_TAKEN). -/
structure HoldEntry where
  rack : Fin 8
  serial : Option Serial
  variantLot : Option (Half × Half)
  reasons : Reasons
  time : Seconds
  state : HoldState
deriving DecidableEq, Repr

/-- A lot filter (R181). -/
structure LotFilter where
  id : Byte
  variantBase : Half
  variantMask : Half
  lotBase : Half
  lotMask : Half
deriving DecidableEq, Repr

/-- The hold manager (R165, R169, R174, R181). -/
structure Holds where
  list : List HoldEntry
  nearFull : Bool
  filters : Vector (Option LotFilter) 8
  rackSelect : Fin 8
deriving DecidableEq, Repr

/-! ## The watch counters (chapter 10) -/

/-- The sources of events, in the order of their codes (R190, section 11.6). -/
inductive Source where
  | off | cleanExit | clipped | filmMargin | cureMargin | jetDots | holdPlaced
deriving DecidableEq, Repr

/-- The sense of a margin comparison (R193). -/
inductive Compare where
  | atLeast | below
deriving DecidableEq, Repr

/-- The edge modes (R194). -/
inductive EdgeMode where
  | level | edge
deriving DecidableEq, Repr

/-- The actions of a watch counter (R190). -/
inductive WatchAction where
  | none | notice | audit | purge
deriving DecidableEq, Repr

/-- The configured values of a watch counter (R190). -/
structure WatchCfg where
  source : Source
  reload : Half
  threshold : Int
  compare : Compare
  mode : EdgeMode
  action : WatchAction
deriving DecidableEq, Repr

/-- A watch counter (chapter 10, counter parts). -/
structure WatchCounter where
  count : Half
  flag : Bool
  armed : Bool
  edgeMark : Bool
deriving DecidableEq, Repr

/-! ## The cell link controller (chapter 11) -/

/-- What the receiver takes the line for (R206 to R210). -/
inductive Line where
  /-- active, or not yet idle: waiting for the next idle -/
  | busy
  | idle
  /-- a telegram whose start was heard after idle, or the rest of one after a clash (R207, R209): its bytes so far, and whether a stop
  bit in any of them was found dominant -/
  | receiving (bytes : List Byte) (stopFault : Bool)
  /-- the acceptance slot of another station's telegram (R210): the telegram where it is good, and whether this station drives
  the slot -/
  | slot (good : Option Telegram) (driven : Bool)
  /-- this station's own send -/
  | sending
deriving DecidableEq, Repr

/-- A telegram in the outbound queue or held by its block; `postings` counts the postings of a RECEIVED (R37). -/
structure OutEntry where
  tg : Telegram
  postings : Nat
deriving DecidableEq, Repr

/-- The cell link controller (R206 to R215). `owed` tells that a place was freed in STOPPED while an OFFER alone was held, which may not
enter then (R30): the freed place is the OFFER's at the end of STOPPED (R214, log 52). -/
structure Link where
  line : Line
  access : Option Nat
  penalty : Bool
  out : List OutEntry
  held : List OutEntry
  owed : Bool
  withdrawAsked : Bool
  inbound : List Telegram
  noticeLost : Bool
  assemblyBroken : Bool
  barShort : Bool
  clashes : Nat
deriving DecidableEq, Repr

/-! ## The configuration (R219) -/

/-- Which edges of the spray encoder's count track give a count (R84). -/
inductive EncoderEdge where
  | rising | both
deriving DecidableEq, Repr

/-- The six tunnel slots' zones (R129). -/
structure SlotZones where
  s0 : Zone
  s1 : Zone
  s2 : Zone
  s3 : Zone
  s4 : Zone
  s5 : Zone
deriving DecidableEq, Repr

/-- The configuration values, as clamped at the load (R219). -/
structure CellCfg where
  station : Byte
  upstream : Byte
  downstream : Byte
  terminal : Byte
  transferTimeout : Nat
  orphanWait : Nat
  filterClock : Nat
  maskCount : Nat
  maskY0 : Nat
  maskPitch : Nat
  inset : Nat
  maskGuard : Nat
  barToStop : Nat
  largestLength : Nat
  valveCount : Nat
  valveY0 : Nat
  valvePitch : Nat
  swath : Nat
  minOpen : Nat
  stopToBar : Nat
  lagOn : Nat
  lagOff : Nat
  edge : EncoderEdge
  purgeSet : BitVec 16
  purgeTime : Nat
  group : Byte
  limit : Nat
  learningTime : Nat
  zoneCount : Nat
  slotZone : SlotZones
  baseDwell : Nat
  extensionStep : Nat
  maxExtension : Nat
  nearFull : Nat
  watch : Vector WatchCfg 4
deriving DecidableEq, Repr

/-! ## The cell -/

/-- The five cell states (section 2.2 of the scope, R221). -/
inductive CellState where
  | start | clearOut | run | stopped | configFault
deriving DecidableEq, Repr

/-- The state of the cell. -/
structure State where
  /-- the model's queue of commands that wait, first in first out (log 1) -/
  pending : List Instr
  cell : CellState
  /-- the configuration load has been made (R219) -/
  loaded : Bool
  seconds : Seconds
  secondsMs : Nat
  cfg : CellCfg
  inputs : Inputs
  table : Table
  tracker : Tracker
  store : Store
  mask : MaskChecker
  spray : Sprayer
  supply : Supply
  tunnel : Tunnel
  holds : Holds
  watch : Vector WatchCounter 4
  link : Link
  /-- the model's count of free values used so far (log 15) -/
  free : Nat
deriving DecidableEq, Repr

/-- The manual names no event that stops the cell: CONFIG_FAULT (R223) and the tunnel's FAULT (R140) are states it goes on
in. So no command faults, and this type has no constructor. -/
inductive Fault
deriving DecidableEq, Repr

/-- The reasons a command can be refused. -/
inductive Refusal where
  /-- Raised by `exec` alone, for a command that has no meaning yet: safe, the model says nothing about it. No arm of this
  model raises it. -/
  | notModelled (mnemonic : String)
deriving DecidableEq, Repr

/-! ## After cold reset -/

/-- The same value at every position. -/
def PerPos.all {α : Type} (x : α) : PerPos α :=
  { entry := x, transport := x, spray := x, gate := x, tunnel0 := x, tunnel1 := x, tunnel2 := x, tunnel3 := x,
    tunnel4 := x, tunnel5 := x, exit := x }

/-- A filter that holds no level (R11), at an inactive pin (log 7). -/
def Filter.reset : Filter := { raw := false, last := none, level := none }

/-- Every filter without a level (R11, R23, R83, R186). -/
def Inputs.reset : Inputs :=
  { pos := .all .reset, mask := .replicate 32 .reset, rack := .replicate 8 .reset, indexDone := .reset, guard := .reset,
    clock := 0 }

/-- R23 and R43. -/
def Tracker.reset : Tracker :=
  { moves := { toTransport := false, toSpray := false, toGate := false }, stopLowered := false, arrival := none,
    idRequest := 0, arrivals := [], handoffCounter := 0, reposts := [], hold := false, settle := none }

/-- R65. -/
def Store.reset : Store :=
  { records := .replicate 12 .free, slots := .replicate 8 { active := none, staged := none }, assembler := .idle }

/-- R83. -/
def MaskChecker.reset : MaskChecker :=
  { phase := .idle, cand := none, x := 0, high := 0, accepted := none, lastSample := none, sampled := [] }

/-- R113. -/
def Sprayer.reset : Sprayer :=
  { schedule := none, travelled := 0, abort := none, speed := 0, windowCount := 0, windowMs := 0, tenths := 0,
    purgeMark := false, purge := .none, purgeTimer := none }

/-- R128. -/
def Supply.reset : Supply :=
  { view := [], own := .none, holder := none, claimSerial := none, claimDuration := 0, doneRead := false, reClaim := none,
    learning := none, tickMs := 0 }

/-- R152. -/
def Tunnel.reset : Tunnel :=
  { phase := .dwell, dwell := 0, extensionUsed := 0, fault := false, drive := false, timeout := none, carriesGate := false,
    zones := { a := { value := none, miss := 0 }, b := { value := none, miss := 0 }, c := { value := none, miss := 0 } },
    poll := none, probeRequest := 0, cureMs := 0 }

/-- R186. -/
def Holds.reset : Holds := { list := [], nearFull := false, filters := .replicate 8 none, rackSelect := 0 }

/-- R191. -/
def WatchCounter.reset : WatchCounter := { count := 0, flag := false, armed := false, edgeMark := false }

/-- R218. The line counts as busy until the first idle after the load (R206). -/
def Link.reset : Link :=
  { line := .busy, access := none, penalty := false, out := [], held := [], owed := false, withdrawAsked := false, inbound := [],
    noticeLost := false, assemblyBroken := false, barShort := false, clashes := 0 }

/-- The values of a watch counter before a load. DESIGN CHOICE (log 25): no block reads them. -/
def WatchCfg.reset : WatchCfg :=
  { source := .off, reload := 0, threshold := 0, compare := .atLeast, mode := .level, action := .none }

/-- The configuration before a load. DESIGN CHOICE (log 25): the manual states none, and no block reads it. -/
def CellCfg.reset : CellCfg :=
  { station := 0, upstream := 0, downstream := 0, terminal := 0, transferTimeout := 0, orphanWait := 0, filterClock := 0,
    maskCount := 0, maskY0 := 0, maskPitch := 0, inset := 0, maskGuard := 0, barToStop := 0, largestLength := 0,
    valveCount := 0, valveY0 := 0, valvePitch := 0, swath := 0, minOpen := 0, stopToBar := 0, lagOn := 0, lagOff := 0,
    edge := .rising, purgeSet := 0, purgeTime := 0, group := 0, limit := 0, learningTime := 0, zoneCount := 0,
    slotZone := { s0 := .a, s1 := .a, s2 := .a, s3 := .a, s4 := .a, s5 := .a }, baseDwell := 0, extensionStep := 0,
    maxExtension := 0, nearFull := 0, watch := .replicate 4 .reset }

/-- The machine right after cold reset (R23, R43, R65, R83, R113, R128, R152, R186, R191, R218, R219). -/
def State.reset : State :=
  { pending := [], cell := .start, loaded := false, seconds := 0, secondsMs := 0, cfg := .reset, inputs := .reset,
    table := .all none, tracker := .reset, store := .reset, mask := .reset, spray := .reset, supply := .reset,
    tunnel := .reset, holds := .reset, watch := .replicate 4 .reset, link := .reset, free := 0 }

end Sys2Proof.Machine
end

