-- ==== Sys2Proof/Machine/Operands.lean ====
section
/-! DEFINITION. The byte layouts of section 11.6: how the fields of telegrams, of the recipe image and of the configuration image are
read from bytes and written to bytes, whether a payload fits its layout (R217), and the CRC-16 (R207). -/

namespace Sys2Proof.Machine

/-! ## Bytes -/

/-- Byte `i` of a payload. -/
def byteAt (p : List Byte) (i : Nat) : Byte := p.getD i 0

/-- A two-byte field, high byte first (section 11.6). -/
def halfAt (p : List Byte) (i : Nat) : Half := byteAt p i ++ byteAt p (i + 1)

/-- A four-byte field, high byte first (section 11.6). -/
def wordAt (p : List Byte) (i : Nat) : BitVec 32 := halfAt p i ++ halfAt p (i + 2)

/-- A three-byte set of reasons. PRESUMED high byte first, like the fields of 2 and 4 bytes (log 31). -/
def reasonsAt (p : List Byte) (i : Nat) : Reasons := (byteAt p i ++ halfAt p (i + 1) : BitVec 24).setWidth 20

/-- An optional serial: present when bit 0 of the presence byte is set (section 11.6). -/
def serialAt (p : List Byte) (presence i : Nat) : Option Serial :=
  if (byteAt p presence).getLsbD 0 then some (wordAt p i) else none

/-- The two bytes of a field, high byte first. -/
def be16 (h : Half) : List Byte := [h.extractLsb' 8 8, h.extractLsb' 0 8]

/-- The four bytes of a field, high byte first. -/
def be32 (w : BitVec 32) : List Byte := be16 (w.extractLsb' 16 16) ++ be16 (w.extractLsb' 0 16)

/-- The three bytes of a set of reasons (log 31). -/
def be24 (r : Reasons) : List Byte :=
  [(r.extractLsb' 16 4).setWidth 8, r.extractLsb' 8 8, r.extractLsb' 0 8]

/-- A number in one byte. -/
def byteOf (n : Nat) : Byte := BitVec.ofNat 8 n

/-- A number in two bytes. -/
def half16 (n : Nat) : List Byte := be16 (BitVec.ofNat 16 n)

/-- A signed number in two bytes (section 11.6). -/
def signed16 (t : Int) : List Byte := be16 (BitVec.ofInt 16 t)

/-- An absent serial still takes its bytes, which then hold 0 (section 11.6). -/
def optWord (s : Option (BitVec 32)) : List Byte := be32 (s.getD 0)

/-- A byte of flags, the first in bit 0. -/
def flagByte (bits : List Bool) : Byte :=
  byteOf (bits.foldr (fun b n => 2 * n + b.toNat) 0)

/-- The payload, or where it is shorter than `n` bytes, the payload with free values for the bytes it does not hold (log 15). -/
def withFree (p : List Byte) (n used : Nat) : List Byte :=
  p ++ (List.range (n - p.length)).map fun k => Config.freeByte (used + k)

/-! ## CRC-16 (R207) -/

/-- Eight shifts of the register, polynomial x^16 + x^12 + x^5 + 1. -/
def crcShifts : Nat → Half → Half
  | 0, r => r
  | n + 1, r => crcShifts n (if r.msb then (r <<< 1) ^^^ 0x1021#16 else r <<< 1)

/-- One byte fed in, most significant bit first. -/
def crcByte (r : Half) (b : Byte) : Half := crcShifts 8 (r ^^^ (b ++ 0#8 : BitVec 16))

/-- The CRC-16 of a run of bytes: the register starts at FFFFh and is not inverted (R207). -/
def crc16 (bytes : List Byte) : Half := bytes.foldl crcByte 0xFFFF#16

/-! ## Kinds (section 11.6, kind codes) -/

def kindSupplyClaim : Byte := 0x01
def kindSupplyDone : Byte := 0x02
def kindOffer : Byte := 0x41
def kindAccept : Byte := 0x42
def kindDecline : Byte := 0x43
def kindReceived : Byte := 0x44
def kindLotHold : Byte := 0x45
def kindLotLift : Byte := 0x46
def kindRecipePart : Byte := 0x81
def kindRecipeActivate : Byte := 0x82
def kindRecipeDrop : Byte := 0x83
def kindRecipeAnswer : Byte := 0x84
def kindRelease : Byte := 0x85
def kindReleaseAnswer : Byte := 0x86
def kindWatchClear : Byte := 0x87
def kindStatusQuery : Byte := 0x88
def kindStatus : Byte := 0x89
def kindNotice : Byte := 0x8A

/-- The kind table. -/
def kindTable : List Byte :=
  [kindSupplyClaim, kindSupplyDone, kindOffer, kindAccept, kindDecline, kindReceived, kindLotHold, kindLotLift, kindRecipePart,
   kindRecipeActivate, kindRecipeDrop, kindRecipeAnswer, kindRelease, kindReleaseAnswer, kindWatchClear, kindStatusQuery,
   kindStatus, kindNotice]

/-- The class of a kind, in bits 7..6 of its code. -/
def classOf (kind : Byte) : Nat := kind.toNat / 64

/-- The kinds the board tracker owns (R212). -/
def trackerKind (kind : Byte) : Bool :=
  kind == kindOffer || kind == kindAccept || kind == kindDecline || kind == kindReceived

/-- The kinds no block owns (R212). -/
def ownerless (kind : Byte) : Bool :=
  kind == kindRecipeAnswer || kind == kindReleaseAnswer || kind == kindStatus || kind == kindNotice

/-! ## Supply telegrams -/

/-- SUPPLY_CLAIM payload (R115). -/
def claimPayload (group : Byte) (serial : Option Serial) (duration : Nat) : List Byte :=
  group :: flagByte [serial.isSome] :: (optWord serial ++ half16 duration)

/-- SUPPLY_DONE payload (R115). -/
def donePayload (group : Byte) (serial : Option Serial) : List Byte :=
  group :: flagByte [serial.isSome] :: optWord serial

/-! ## Handoff telegrams -/

/-- ACCEPT and RECEIVED payload. -/
def answerPayload (number : Byte) (serial : Option Serial) : List Byte :=
  number :: flagByte [serial.isSome] :: optWord serial

def Side.code : Side → Byte
  | .top => 0
  | .bottom => 1

def coatResultBytes (r : CoatResult) : List Byte :=
  r.step :: r.cell :: (be16 r.filmMin ++ be16 r.filmMax ++ be16 r.dose)

/-- The traveller (section 11.6). -/
def travellerBytes (t : Traveller) : List Byte :=
  flagByte [t.serial.isSome, t.readSerial.isSome, t.length.isSome, t.snapshot.isSome] ::
    (optWord t.serial ++ optWord t.readSerial ++ be16 t.variant ++ be16 t.lot ++
      [t.sideUp.code, t.stepsDone.setWidth 8] ++ be24 t.reasons ++ be16 (t.length.getD 0) ++
      [(t.snapshot.getD 0).setWidth 8, byteOf t.results.length] ++ t.results.flatMap coatResultBytes)

/-- OFFER payload (R27). -/
def offerPayload (number : Byte) (t : Traveller) : List Byte := number :: travellerBytes t

def coatResultAt (p : List Byte) (i : Nat) : CoatResult :=
  { step := byteAt p i, cell := byteAt p (i + 1), filmMin := halfAt p (i + 2), filmMax := halfAt p (i + 4),
    dose := halfAt p (i + 6) }

/-- Whether an OFFER payload fits its layout (R217): its length is the one its result count gives, that count is at most 4, the side
is a listed code, and every bit named as unused is 0. -/
def offerFits (p : List Byte) : Bool :=
  decide (23 ≤ p.length) && decide ((byteAt p 22).toNat ≤ 4) && decide (p.length = 23 + 8 * (byteAt p 22).toNat) &&
    decide ((byteAt p 1).toNat < 16) && decide ((byteAt p 14).toNat ≤ 1) && decide ((byteAt p 15).toNat < 16) &&
    decide ((byteAt p 16).toNat < 16) && decide ((byteAt p 21).toNat < 16)

/-- The traveller an OFFER payload carries. -/
def offerTraveller (p : List Byte) : Traveller :=
  { serial := if (byteAt p 1).getLsbD 0 then some (wordAt p 2) else none
    readSerial := if (byteAt p 1).getLsbD 1 then some (wordAt p 6) else none
    variant := halfAt p 10
    lot := halfAt p 12
    sideUp := if byteAt p 14 = 0 then .top else .bottom
    stepsDone := (byteAt p 15).setWidth 4
    reasons := reasonsAt p 16
    length := if (byteAt p 1).getLsbD 2 then some (halfAt p 19) else none
    snapshot := if (byteAt p 1).getLsbD 3 then some ((byteAt p 21).setWidth 4) else none
    results := (List.range (byteAt p 22).toNat).map fun k => coatResultAt p (23 + 8 * k) }

/-- ACCEPT and RECEIVED have 6 bytes (R217). -/
def answerFits (p : List Byte) : Bool := decide (p.length = 6)

/-- DECLINE has 7 bytes and a listed decline code (R217). -/
def declineFits (p : List Byte) : Bool :=
  decide (p.length = 7) && decide (1 ≤ (byteAt p 6).toNat) && decide ((byteAt p 6).toNat ≤ 7)

/-- The decline codes (section 2.1). -/
inductive DeclineCode where
  | wrongSource | badTraveller | starting | stopped | duplicate | throttled | full
deriving DecidableEq, Repr

def DeclineCode.code : DeclineCode → Byte
  | .wrongSource => 1
  | .badTraveller => 2
  | .starting => 3
  | .stopped => 4
  | .duplicate => 5
  | .throttled => 6
  | .full => 7

/-! ## The recipe image (section 11.6) -/

/-- A segment as the image holds it, before the checks and clamps. -/
structure RawSegment where
  valve : Nat
  mode : Nat
  xOpen : Nat
  xClose : Nat
  flowOrPitch : Nat
  dotVolume : Nat
deriving DecidableEq, Repr

/-- A zone as the image holds it. -/
structure RawZone where
  kind : Nat
  x0 : Nat
  x1 : Nat
  y0 : Nat
  y1 : Nat
deriving DecidableEq, Repr

def imageSegments (im : List Byte) : Nat := (byteAt im 12).toNat
def imageZones (im : List Byte) : Nat := (byteAt im 13).toNat

/-- The recipe CRC in the image's last two bytes. -/
def imageCrc (im : List Byte) : Half := halfAt im (im.length - 2)

def rawSegment (im : List Byte) (k : Nat) : RawSegment :=
  let i := 34 + 8 * k
  { valve := (byteAt im i).toNat, mode := (byteAt im (i + 1)).toNat, xOpen := (halfAt im (i + 2)).toNat,
    xClose := (halfAt im (i + 4)).toNat, flowOrPitch := (byteAt im (i + 6)).toNat, dotVolume := (byteAt im (i + 7)).toNat }

def rawZone (im : List Byte) (k : Nat) : RawZone :=
  let i := 34 + 8 * imageSegments im + 9 * k
  { kind := (byteAt im i).toNat, x0 := (halfAt im (i + 1)).toNat, x1 := (halfAt im (i + 3)).toNat,
    y0 := (halfAt im (i + 5)).toNat, y1 := (halfAt im (i + 7)).toNat }

/-- The form check of R53: true when the image passes. -/
def imageFormOk (im : List Byte) : Bool :=
  decide (34 ≤ im.length) && decide (imageSegments im ≤ 64) && decide (imageZones im ≤ 16) &&
    decide (im.length = 36 + 8 * imageSegments im + 9 * imageZones im) &&
    decide (crc16 (im.take (im.length - 2)) = imageCrc im)

/-- The check codes of R54. -/
inductive CheckCode where
  | step | side | coordinate | lengthWindow | filmWindow | cureWindow | flashPot | valve | order | mode | zeroRate | overlap
  | kind | zoneOrder
deriving DecidableEq, Repr

def CheckCode.code : CheckCode → Byte
  | .step => 1
  | .side => 2
  | .coordinate => 3
  | .lengthWindow => 4
  | .filmWindow => 5
  | .cureWindow => 6
  | .flashPot => 7
  | .valve => 8
  | .order => 9
  | .mode => 10
  | .zeroRate => 11
  | .overlap => 12
  | .kind => 13
  | .zoneOrder => 14

/-- The first check of a list that fails. -/
def firstFailing (checks : List (Bool × CheckCode)) : Option CheckCode := (checks.find? (·.1)).map (·.2)

/-- The scalar checks of R54, in table order. -/
def scalarFault (im : List Byte) : Option CheckCode :=
  let lenMin := (halfAt im 7).toNat
  let lenMax := (halfAt im 9).toNat
  firstFailing
    [(decide (4 < (byteAt im 5).toNat), .step),
     (decide ((byteAt im 4).toNat = 0 ∨ 3 < (byteAt im 4).toNat), .side),
     (decide (8191 < lenMin ∨ 8191 < lenMax), .coordinate),
     (decide (lenMax < lenMin), .lengthWindow),
     (decide ((halfAt im 16).toNat < (halfAt im 14).toNat), .filmWindow),
     (decide ((halfAt im 26).toNat < (halfAt im 24).toNat), .cureWindow),
     (decide ((halfAt im 30).toNat ≤ (halfAt im 28).toNat), .flashPot)]

/-- Two segments of one valve overlap or touch unless one opens past the other's close (R47). -/
def segmentsTouch (s t : RawSegment) : Bool :=
  decide (s.valve = t.valve) && !decide (t.xClose < s.xOpen) && !decide (s.xClose < t.xOpen)

/-- The segment checks of R54, in table order; `earlier` are the segments of lower index. -/
def segmentFault (valveCount : Nat) (earlier : List RawSegment) (s : RawSegment) : Option CheckCode :=
  firstFailing
    [(decide (valveCount ≤ s.valve), .valve),
     (decide (8191 < s.xOpen ∨ 8191 < s.xClose), .coordinate),
     (decide (s.xClose ≤ s.xOpen), .order),
     (decide (s.mode ≠ 1 ∧ s.mode ≠ 2), .mode),
     (decide (s.mode = 1 ∧ s.flowOrPitch = 0 ∨ s.mode = 2 ∧ s.dotVolume = 0), .zeroRate),
     (earlier.any (segmentsTouch s), .overlap)]

/-- The zone checks of R54, in table order. -/
def zoneFault (z : RawZone) : Option CheckCode :=
  firstFailing
    [(decide (z.kind ≠ 1 ∧ z.kind ≠ 2), .kind),
     (decide (8191 < z.x0 ∨ 8191 < z.x1 ∨ 8191 < z.y0 ∨ 8191 < z.y1), .coordinate),
     (decide (z.x1 < z.x0 ∨ z.y1 < z.y0), .zoneOrder)]

/-- The first segment that fails, from index `k` on, with its index. -/
def segmentsFault (valveCount : Nat) : List RawSegment → List RawSegment → Nat → Option (Nat × CheckCode)
  | _, [], _ => none
  | earlier, s :: rest, k =>
    match segmentFault valveCount earlier s with
    | some c => some (k, c)
    | none => segmentsFault valveCount (earlier ++ [s]) rest (k + 1)

/-- The first zone that fails, from zone index `k` on, with its item index 64 + `k`. -/
def zonesFault : List RawZone → Nat → Option (Nat × CheckCode)
  | [], _ => none
  | z :: rest, k =>
    match zoneFault z with
    | some c => some (64 + k, c)
    | none => zonesFault rest (k + 1)

/-- The content check of R54: the item index and check code of the first check that fails. -/
def contentFault (valveCount : Nat) (im : List Byte) : Option (Nat × CheckCode) :=
  match scalarFault im with
  | some c => some (255, c)
  | none =>
    match segmentsFault valveCount [] ((List.range (imageSegments im)).map (rawSegment im)) 0 with
    | some f => some f
    | none => zonesFault ((List.range (imageZones im)).map (rawZone im)) 0

/-- A number clamped to a range. -/
def clamp (lo hi n : Nat) : Nat := min (max n lo) hi

/-- A signed number clamped to a range. -/
def clampInt (lo hi n : Int) : Int := min (max n lo) hi

/-- The pitch clamp of R55: an odd pitch to the even number below, then below 4 to 4. -/
def clampPitch (p : Nat) : Nat := max (p - p % 2) 4

/-- A segment as written into its record (R55). -/
def clampSegment (s : RawSegment) : Segment :=
  { valve := s.valve, xOpen := s.xOpen, xClose := s.xClose,
    rate := if s.mode = 1 then .spray s.flowOrPitch else .jet (clampPitch s.flowOrPitch) s.dotVolume }

/-- A zone as written into its record. -/
def cleanZone (z : RawZone) : BoardZone :=
  { kind := if z.kind = 1 then .noCoat else .masked, x0 := z.x0, x1 := z.x1, y0 := z.y0, y1 := z.y1 }

def sideOfCode (n : Nat) : RecipeSide :=
  if n = 1 then .top else if n = 2 then .bottom else .either

/-- The record an image becomes, after the clamps of R55 in their order. -/
def recipeOf (im : List Byte) : Recipe :=
  let tRef := clampInt 400 2000 (halfAt im 18).toInt
  { base := halfAt im 0
    mask := halfAt im 2
    side := sideOfCode (byteAt im 4).toNat
    step := (byteAt im 5).toNat
    prereq := (byteAt im 6).setWidth 4
    lenMin := (halfAt im 7).toNat
    lenMax := (halfAt im 9).toNat
    clearance := min (byteAt im 11).toNat 100
    hMin := min (halfAt im 14).toNat 1023
    hMax := min (halfAt im 16).toNat 1023
    tRef := tRef
    tOn := min (halfAt im 20).toInt tRef
    tMax := max (halfAt im 22).toInt tRef
    cureMin := (halfAt im 24).toNat
    cureMax := (halfAt im 26).toNat
    flashMin := min (halfAt im 28).toNat 1800
    potMax := min (halfAt im 30).toNat 7200
    passLimit := clamp 1 600 (halfAt im 32).toNat
    segments := (List.range (imageSegments im)).map fun k => clampSegment (rawSegment im k)
    zones := (List.range (imageZones im)).map fun k => cleanZone (rawZone im k)
    crc := imageCrc im }

/-- The clamp set of R55, in the bit order of section 11.6. -/
def clampSet (im : List Byte) : List Byte :=
  let r := recipeOf im
  let pitch := (List.range (imageSegments im)).any fun k =>
    let s := rawSegment im k
    decide (s.mode = 2) && decide (clampPitch s.flowOrPitch ≠ s.flowOrPitch)
  [flagByte [decide (r.passLimit ≠ (halfAt im 32).toNat), pitch],
   flagByte [decide (r.tRef ≠ (halfAt im 18).toInt), decide (r.tOn ≠ (halfAt im 20).toInt), decide (r.tMax ≠ (halfAt im 22).toInt),
     decide (r.clearance ≠ (byteAt im 11).toNat), decide (r.hMin ≠ (halfAt im 14).toNat), decide (r.hMax ≠ (halfAt im 16).toNat),
     decide (r.flashMin ≠ (halfAt im 28).toNat), decide (r.potMax ≠ (halfAt im 30).toNat)]]

/-! ## The configuration image (section 11.8) -/

/-- Why the loader refuses an image, R219: true when it passes. -/
def configImageOk (im : List Byte) : Bool :=
  decide (byteAt im 0 = 0xB7) && decide (byteAt im 1 = 0x31) && decide (byteAt im 2 = 0x01) && decide (halfAt im 3 = 90) &&
    decide (crc16 (im.take 95) = halfAt im 95) && decide (1 ≤ (byteAt im 5).toNat) && decide ((byteAt im 5).toNat ≤ 31)

/-- An address outside 0..31 is taken as 0 (R219). -/
def cleanAddress (b : Byte) : Byte := if b.toNat ≤ 31 then b else 0

/-- The filter clock (R219): 0 as 1, 3 as 4, 5 to 7 and above 8 as 8. -/
def cleanClock (n : Nat) : Nat := if n ≤ 1 then 1 else if n = 2 then 2 else if n ≤ 4 then 4 else 8

def Zone.ofIndex (n : Nat) : Zone := if n = 0 then .a else if n = 1 then .b else .c

/-- A slot zone map entry beyond the zone count is the highest configured zone (R129). -/
def cleanZoneCode (zoneCount : Nat) (b : Byte) : Zone := Zone.ofIndex (min b.toNat (zoneCount - 1))

/-- A near-full threshold of 0 is taken as 6, one above 8 as 8 (R174). -/
def cleanNearFull (n : Nat) : Nat := if n = 0 then 6 else min n 8

/-- A watch counter's source in the configuration image (R190), read with the codes that section 11.6 gives for STATUS and WATCH
(DEDUCED, log 55). -/
def Source.ofCode (n : Nat) : Source :=
  if n = 1 then .cleanExit else if n = 2 then .clipped else if n = 3 then .filmMargin else if n = 4 then .cureMargin
  else if n = 5 then .jetDots else if n = 6 then .holdPlaced else .off

def WatchAction.ofCode (n : Nat) : WatchAction :=
  if n = 1 then .notice else if n = 2 then .audit else if n = 3 then .purge else .none

/-- A watch counter's values as taken by R190, from offset `i` of the image. -/
def watchCfgAt (im : List Byte) (i : Nat) : WatchCfg :=
  { source := Source.ofCode (byteAt im i).toNat
    reload := halfAt im (i + 1)
    threshold := clampInt (-65535) 65535 (wordAt im (i + 3)).toInt
    compare := if byteAt im (i + 7) = 2 then .below else .atLeast
    mode := if byteAt im (i + 8) = 2 then .edge else .level
    action := WatchAction.ofCode (byteAt im (i + 9)).toNat }

/-- The configuration values of an image that passes, with the clamps of R219. -/
def configOf (im : List Byte) : CellCfg :=
  let n (i : Nat) : Nat := (byteAt im i).toNat
  let h (i : Nat) : Nat := (halfAt im i).toNat
  let valveCount := clamp 1 16 (n 23)
  let zoneCount := clamp 1 3 (n 42)
  let zone (i : Nat) : Zone := cleanZoneCode zoneCount (byteAt im i)
  { station := byteAt im 5
    upstream := cleanAddress (byteAt im 6)
    downstream := cleanAddress (byteAt im 7)
    terminal := cleanAddress (byteAt im 8)
    transferTimeout := clamp 1 30 (n 9)
    orphanWait := clamp 1 10 (n 10)
    filterClock := cleanClock (n 11)
    maskCount := clamp 1 32 (n 12)
    maskY0 := clamp 0 8191 (h 13)
    maskPitch := clamp 1 1023 (h 15)
    inset := clamp 1 200 (n 17)
    maskGuard := clamp 0 200 (n 18)
    barToStop := clamp 0 8191 (h 19)
    largestLength := clamp 0 8191 (h 21)
    valveCount := valveCount
    valveY0 := clamp 0 8191 (h 24)
    valvePitch := clamp 1 1023 (h 26)
    swath := clamp 1 1023 (h 28)
    minOpen := n 30
    stopToBar := clamp 0 8191 (h 31)
    lagOn := min (n 33) 200
    lagOff := min (n 34) 200
    edge := if n 35 = 2 then .both else .rising
    purgeSet := halfAt im 36 &&& BitVec.ofNat 16 (2 ^ valveCount - 1)
    purgeTime := clamp 5 100 (n 38)
    group := byteAt im 39
    limit := clamp 1 4 (n 40)
    learningTime := min (n 41) 60
    zoneCount := zoneCount
    slotZone := { s0 := zone 43, s1 := zone 44, s2 := zone 45, s3 := zone 46, s4 := zone 47, s5 := zone 48 }
    baseDwell := clamp 10 600 (h 49)
    extensionStep := clamp 5 120 (n 51)
    maxExtension := min (h 52) 1800
    nearFull := cleanNearFull (n 54)
    watch := #v[watchCfgAt im 55, watchCfgAt im 65, watchCfgAt im 75, watchCfgAt im 85] }

end Sys2Proof.Machine
end

