-- ==== Sys2Proof/Machine/Frame.lean ====
section
/-! DEFINITION. A telegram as bytes on the pair (R207): how a sender forms them, and how a receiver's telegram ends. -/

namespace Sys2Proof.Machine

/-- The first byte of a telegram (R207). -/
def delimiter : Byte := 0x5A

/-- The bytes the CRC-16 is formed over: destination, source, kind, length and payload (R207). -/
def crcPart (t : Telegram) : List Byte := t.dst :: t.src :: t.kind :: byteOf t.payload.length :: t.payload

/-- The bytes of a telegram in the order they are sent, the CRC high byte first (R207). -/
def telegramBytes (t : Telegram) : List Byte := delimiter :: (crcPart t ++ be16 (crc16 (crcPart t)))

/-- How a telegram that was heard ends (R207). -/
inductive Reception where
  /-- its first byte is not the delimiter, its length is above 64, or the line was idle before the last CRC byte -/
  | abandoned
  /-- all bytes arrived, with a stop bit found dominant or a CRC that differs; the fields as received -/
  | faulty (t : Telegram)
  | good (t : Telegram)
deriving DecidableEq, Repr

/-- The ending that bytes received from the first on give (R207); none for bytes that go on behind the last CRC byte, which no telegram
has. -/
def receive (bytes : List Byte) (stopFault : Bool) : Option Reception :=
  match bytes with
  | d :: dst :: src :: kind :: len :: rest =>
    if d ≠ delimiter ∨ Config.maxPayload < len.toNat ∨ rest.length < len.toNat + 2 then some .abandoned
    else if rest.length = len.toNat + 2 then
      let t : Telegram := { dst := dst, src := src, kind := kind, payload := rest.take len.toNat }
      if stopFault = true ∨ crc16 (crcPart t) ≠ halfAt rest len.toNat then some (.faulty t) else some (.good t)
    else none
  | _ => some .abandoned

end Sys2Proof.Machine
end

