-- ==== Sys2Proof/Machine/Flags.lean ====
section
/-! DEFINITION. The conditions and marks the rules read: sets of reasons and steps, what a record counts as, the zone status, the
tunnel's run state, and the codes under which STATUS and NOTICE report them. -/

namespace Sys2Proof.Machine

/-! ## Places -/

/-- The eleven positions in table order (R1). -/
def positions : List Position :=
  [.entry, .transport, .spray, .gate, .tunnel0, .tunnel1, .tunnel2, .tunnel3, .tunnel4, .tunnel5, .exit]

/-- The tunnel's slots, entry side first. -/
def slotPositions : List Position := [.tunnel0, .tunnel1, .tunnel2, .tunnel3, .tunnel4, .tunnel5]

/-- The bit number of a position in STATUS (section 11.6). -/
def positionBit : Position → Nat
  | .entry => 0
  | .transport => 1
  | .spray => 2
  | .gate => 3
  | .tunnel0 => 4
  | .tunnel1 => 5
  | .tunnel2 => 6
  | .tunnel3 => 7
  | .tunnel4 => 8
  | .tunnel5 => 9
  | .exit => 10

/-- The value at a position. -/
def PerPos.get {α : Type} (t : PerPos α) : Position → α
  | .entry => t.entry
  | .transport => t.transport
  | .spray => t.spray
  | .gate => t.gate
  | .tunnel0 => t.tunnel0
  | .tunnel1 => t.tunnel1
  | .tunnel2 => t.tunnel2
  | .tunnel3 => t.tunnel3
  | .tunnel4 => t.tunnel4
  | .tunnel5 => t.tunnel5
  | .exit => t.exit

/-- The same values, but for one position. -/
def PerPos.put {α : Type} (t : PerPos α) (p : Position) (x : α) : PerPos α :=
  match p with
  | .entry => { t with entry := x }
  | .transport => { t with transport := x }
  | .spray => { t with spray := x }
  | .gate => { t with gate := x }
  | .tunnel0 => { t with tunnel0 := x }
  | .tunnel1 => { t with tunnel1 := x }
  | .tunnel2 => { t with tunnel2 := x }
  | .tunnel3 => { t with tunnel3 := x }
  | .tunnel4 => { t with tunnel4 := x }
  | .tunnel5 => { t with tunnel5 := x }
  | .exit => { t with exit := x }

/-- Every position's value changed by one function of the position and the value. -/
def PerPos.mapPos {α β : Type} (t : PerPos α) (f : Position → α → β) : PerPos β :=
  { entry := f .entry t.entry, transport := f .transport t.transport, spray := f .spray t.spray, gate := f .gate t.gate,
    tunnel0 := f .tunnel0 t.tunnel0, tunnel1 := f .tunnel1 t.tunnel1, tunnel2 := f .tunnel2 t.tunnel2,
    tunnel3 := f .tunnel3 t.tunnel3, tunnel4 := f .tunnel4 t.tunnel4, tunnel5 := f .tunnel5 t.tunnel5,
    exit := f .exit t.exit }

/-- The values in table order. -/
def PerPos.toList {α : Type} (t : PerPos α) : List α := positions.map t.get

/-- The zone's value. -/
def PerZone.get {α : Type} (t : PerZone α) : Zone → α
  | .a => t.a
  | .b => t.b
  | .c => t.c

/-- The same values, but for one zone. -/
def PerZone.put {α : Type} (t : PerZone α) (z : Zone) (x : α) : PerZone α :=
  match z with
  | .a => { t with a := x }
  | .b => { t with b := x }
  | .c => { t with c := x }

/-- A zone's place in the order A, B, C (R143). -/
def zoneIndex : Zone → Nat
  | .a => 0
  | .b => 1
  | .c => 2

/-- The zone polled after a zone (R143). -/
def nextZone : Zone → Option Zone
  | .a => some .b
  | .b => some .c
  | .c => none

/-- The zone mapped to a tunnel slot (R129); none at the other positions. -/
def slotZoneOf (m : SlotZones) : Position → Option Zone
  | .tunnel0 => some m.s0
  | .tunnel1 => some m.s1
  | .tunnel2 => some m.s2
  | .tunnel3 => some m.s3
  | .tunnel4 => some m.s4
  | .tunnel5 => some m.s5
  | .entry | .transport | .spray | .gate | .exit => none

/-- The numbers of the rack positions, lowest first. -/
def rackPositions : List (Fin 8) := [0, 1, 2, 3, 4, 5, 6, 7]

/-! ## Sets of reasons and steps -/

/-- The code of a reason (section 11.6). -/
def Reason.code : Reason → Nat
  | .maskMissing => 0
  | .maskUnchecked => 1
  | .length => 2
  | .noRecipe => 3
  | .stepMissing => 4
  | .idMismatch => 5
  | .noTraveller => 6
  | .duplicateSerial => 7
  | .sprayAborted => 8
  | .scheduleFull => 9
  | .filmThin => 10
  | .filmThick => 11
  | .potLife => 12
  | .cureShort => 13
  | .overcure => 14
  | .overtemp => 15
  | .cureDataGap => 16
  | .lotHold => 17
  | .auditSample => 18
  | .stranded => 19

/-- The set that holds one reason. -/
def reasonBit (r : Reason) : Reasons := 1#20 <<< r.code

/-- Whether a reason is in a set. -/
def hasReason (rs : Reasons) (r : Reason) : Bool := rs.getLsbD r.code

/-- A set with a reason added (R9). -/
def addReason (rs : Reasons) (r : Reason) : Reasons := rs ||| reasonBit r

/-- Whether a step 1..4 is in a set of steps. -/
def hasStep (ss : Steps) (step : Nat) : Bool := decide (1 ≤ step) && ss.getLsbD (step - 1)

/-- A set of steps with a step 1..4 added. -/
def addStep (ss : Steps) (step : Nat) : Steps := if 1 ≤ step then ss ||| (1#4 <<< (step - 1)) else ss

/-- A record with a reason added. -/
def Record.addReason (r : Record) (x : Reason) : Record :=
  { r with trav := { r.trav with reasons := Machine.addReason r.trav.reasons x } }

/-- A record with a reason added where a condition holds. -/
def Record.addReasonIf (r : Record) (c : Bool) (x : Reason) : Record := if c then r.addReason x else r

/-- Whether a record's set holds no reason. -/
def Record.clean (r : Record) : Bool := r.trav.reasons == 0

/-- Whether a record's set holds a pre-spray reason (R10): any but MASK_MISSING and MASK_UNCHECKED. -/
def Record.preSpray (r : Record) : Bool :=
  (r.trav.reasons &&& ~~~(reasonBit .maskMissing ||| reasonBit .maskUnchecked)) != 0

/-! ## What a record counts as -/

/-- A record is sprayed here when its spray state is DONE or ABORTED (R8). -/
def Record.sprayedHere (r : Record) : Bool := r.spray == .done || r.spray == .aborted

/-- A record made STRANDED in this cell (R2): at ENTRY its spray state is SKIPPED, which no record made by a match has there
(log 30). -/
def Record.madeStranded (r : Record) : Bool := hasReason r.trav.reasons .stranded && r.spray == .skipped

/-- The recipe a store's record holds. -/
def RecipeCell.recipe : RecipeCell → Option Recipe
  | .free => none
  | .assembled r | .staged r | .active r | .retiring r => some r

def RecipeCell.isFree : RecipeCell → Bool
  | .free => true
  | _ => false

def RecipeCell.isRetiring : RecipeCell → Bool
  | .retiring _ => true
  | _ => false

/-- The recipe a board record is bound to (R62). -/
def Record.bound (r : Record) (st : Store) : Option Recipe := r.recipe.bind fun i => st.records[i].recipe

/-! ## Codes -/

def CellState.code : CellState → Byte
  | .start => 1
  | .clearOut => 2
  | .run => 3
  | .stopped => 4
  | .configFault => 0

def RunState.code : RunState → Byte
  | .stopped => 0
  | .running => 1
  | .fault => 2

def Phase.code : Phase → Byte
  | .dwell => 0
  | .indexPending => 1
  | .indexing => 2

def OwnClaim.code : OwnClaim → Byte
  | .none => 0
  | .queued => 1
  | .sending => 2
  | .waiting => 3
  | .granted => 4
  | .refusedWait => 5
  | .ending => 6

def Source.code : Source → Byte
  | .off => 0
  | .cleanExit => 1
  | .clipped => 2
  | .filmMargin => 3
  | .cureMargin => 4
  | .jetDots => 5
  | .holdPlaced => 6

def HoldState.code : HoldState → Byte
  | .held => 1
  | .releasedRework => 2
  | .releasedScrap => 3

/-! ## The tunnel -/

/-- Zone statuses (R144). -/
inductive ZoneStatus where
  | lost | holding | ok
deriving DecidableEq, Repr

/-- A zone's status, from its value in use and miss count (R144). -/
def ZoneState.status (z : ZoneState) : ZoneStatus :=
  match z.value with
  | none => .lost
  | some _ => if z.miss = 0 then .ok else .holding

def ZoneStatus.code : ZoneStatus → Nat
  | .lost => 0
  | .holding => 1
  | .ok => 2

/-- The tunnel's run state (R130). -/
def State.runState (s : State) : RunState :=
  if s.tunnel.fault then .fault
  else
    match s.cell with
    | .clearOut | .run => if s.tracker.hold then .stopped else .running
    | .start | .stopped | .configFault => .stopped

/-! ## The cell -/

/-- Whether no record stands at a position (R1). -/
def State.isFree (s : State) (p : Position) : Bool := (s.table.get p).isNone

/-- The board count (R1). -/
def State.boardCount (s : State) : Nat := (s.table.toList.filter Option.isSome).length

/-- Whether the board table is empty. -/
def State.tableEmpty (s : State) : Bool := s.table.toList.all Option.isNone

/-- A recipe record's reference count: the records of the table that name it (R49). -/
def State.refCount (s : State) (i : Fin 12) : Nat :=
  (s.table.toList.filter fun r => match r with | some b => b.recipe == some i | none => false).length

/-- Whether the filtered level of a position sensor stands occupied. -/
def State.occupied (s : State) (p : Position) : Bool := (s.inputs.pos.get p).level == some true

/-- Whether the filtered level of a position sensor stands empty. -/
def State.sensorEmpty (s : State) (p : Position) : Bool := (s.inputs.pos.get p).level == some false

/-- Whether a record is TRANSFERRING (R31). -/
def Record.transferring (r : Record) : Bool :=
  match r.handoff with
  | some (.transferring _ _ _ _) => true
  | _ => false

/-- Whether a move under way, or a handoff or diversion that counts as one, involves a position (R14, R31, R169). -/
def State.moveInvolves (s : State) (p : Position) : Bool :=
  match p with
  | .entry => s.tracker.moves.toTransport
  | .transport => s.tracker.moves.toTransport || s.tracker.moves.toSpray
  | .spray => s.tracker.moves.toSpray || s.tracker.moves.toGate
  | .gate => s.tracker.moves.toGate
  | .exit =>
    match s.table.exit with
    | some r => r.transferring || r.diversion.isSome
    | none => false
  | .tunnel0 | .tunnel1 | .tunnel2 | .tunnel3 | .tunnel4 | .tunnel5 => false

/-- Whether an index under way covers a position's sensor (R16). -/
def State.covered (s : State) (p : Position) : Bool :=
  s.tunnel.phase == .indexing &&
    match p with
    | .entry | .transport | .spray => false
    | .gate => s.tunnel.carriesGate
    | .tunnel0 | .tunnel1 | .tunnel2 | .tunnel3 | .tunnel4 | .tunnel5 | .exit => true

/-- The board tracker takes position edges in these cell states (R11); so do the mask checker its counts (R83) and the hold
manager its edges (R167). -/
def State.tracking (s : State) : Bool :=
  s.loaded && (s.cell == .clearOut || s.cell == .run || s.cell == .stopped)

/-- A purge holds the bar from the posting of its claim until it ends (R109). -/
def State.purgeHoldsBar (s : State) : Bool := s.spray.purge == .claiming || s.spray.purge == .purging

/-- Open and close lead (R86). -/
def State.openLead (s : State) : Nat := s.spray.speed * s.cfg.lagOn / 160
def State.closeLead (s : State) : Nat := s.spray.speed * s.cfg.lagOff / 160

/-- The entries ahead of the own entry (R116); none when there is no own entry. -/
def State.entriesAhead (s : State) : Option Nat := s.supply.view.findIdx? fun e => e.station == s.cfg.station

/-- The rack position a diversion under way is for (R168). -/
def State.target (s : State) : Option (Fin 8) :=
  match s.table.exit with
  | some r =>
    match r.diversion with
    | some (.diverting t) => some t
    | _ => none
  | none => none

/-- Whether a rack position is free (R167). -/
def State.rackFree (s : State) (r : Fin 8) : Bool :=
  s.holds.list.all (fun e => e.rack != r) && s.target != some r

/-- The lowest-numbered free rack position (R168). -/
def State.lowestFreeRack (s : State) : Option (Fin 8) := rackPositions.find? s.rackFree

/-- A lot filter matches a variant and lot (R182). -/
def LotFilter.hits (f : LotFilter) (variant lot : Half) : Bool :=
  (variant &&& ~~~f.variantMask) == (f.variantBase &&& ~~~f.variantMask) &&
    (lot &&& ~~~f.lotMask) == (f.lotBase &&& ~~~f.lotMask)

/-- A recipe matches a board (R60). -/
def Recipe.hits (r : Recipe) (variant : Half) (side : Side) : Bool :=
  (variant &&& ~~~r.mask) == (r.base &&& ~~~r.mask) &&
    match r.side, side with
    | .either, _ => true
    | .top, .top => true
    | .bottom, .bottom => true
    | .top, .bottom => false
    | .bottom, .top => false

end Sys2Proof.Machine
end

