-- ==== Sys2Proof/Machine/Queues.lean ====
section
/-! DEFINITION. The queues of the cell link controller (R212 to R214): the order of the outbound queue, posting, displacing, holding,
withdrawing, and the entry of a held telegram into a freed place. -/

namespace Sys2Proof.Machine

/-- The class of an entry of the outbound queue. -/
def OutEntry.cls (e : OutEntry) : Nat := classOf e.tg.kind

/-- The class of the held telegrams that comes first (R214); 3 where none is held. -/
def lowestClass (l : List OutEntry) : Nat := l.foldl (fun n e => min n e.cls) 3

/-- An entry put at its place by class and age: behind every entry of its class (R213). -/
def insertYoungest (e : OutEntry) : List OutEntry → List OutEntry
  | [] => [e]
  | h :: t => if h.cls ≤ e.cls then h :: insertYoungest e t else e :: h :: t

/-- An entry put at its place by class and age: ahead of every entry of its class, the place of the oldest (R209). -/
def insertOldest (e : OutEntry) : List OutEntry → List OutEntry
  | [] => [e]
  | h :: t => if h.cls < e.cls then h :: insertOldest e t else e :: h :: t

/-- The entry whose send is under way: the head, while the station sends (R213). -/
def Link.inSend (l : Link) : Option OutEntry :=
  match l.line with
  | .sending => l.out.head?
  | .busy | .idle | .receiving _ _ | .slot _ _ => none

/-- The outbound queue without the entry in its send. -/
def Link.waitingOut (l : Link) : List OutEntry :=
  match l.line with
  | .sending => l.out.tail
  | .busy | .idle | .receiving _ _ | .slot _ _ => l.out

/-- A link with the part of the outbound queue that is not in its send replaced. -/
def Link.withWaitingOut (l : Link) (q : List OutEntry) : Link := { l with out := l.inSend.toList ++ q }

/-- An entry entered at its place; the head in its send stays the head (R213). -/
def Link.enter (l : Link) (e : OutEntry) : Link := l.withWaitingOut (insertYoungest e l.waitingOut)

/-- A queue without its last class-2 entry, the youngest; none where it holds no class-2 entry. -/
def dropYoungest : List OutEntry → Option (List OutEntry)
  | [] => none
  | h :: t =>
    match dropYoungest t with
    | some t' => some (h :: t')
    | none => if h.cls = 2 then some t else none

/-- A telegram posted by a block (R213). -/
def Link.post (l : Link) (e : OutEntry) : Link :=
  if l.out.length < Config.queueRoom then l.enter e
  else if e.cls = 2 then { l with noticeLost := true }
  else
    match dropYoungest l.waitingOut with
    | some q => { (l.withWaitingOut q).enter e with noticeLost := true }
    | none => { l with held := l.held ++ [e] }

/-- Whether a telegram that was posted entered the queue (R215 asks it of a page-0 STATUS). -/
def Link.hasRoom (l : Link) : Bool := decide (l.out.length < Config.queueRoom)

/-- A held telegram may enter the queue now: while the cell is STOPPED, no OFFER may (R30). -/
def mayEnter (stopped : Bool) (e : OutEntry) : Bool := !(stopped && e.tg.kind == kindOffer)

/-- The held telegram that takes a freed place, of lowest class and held longest, and the others (R214). -/
def takeHeld (stopped : Bool) (held : List OutEntry) : Option (OutEntry × List OutEntry) :=
  let ready := held.filter (mayEnter stopped)
  match held.find? fun e => mayEnter stopped e && e.cls == lowestClass ready with
  | some e => some (e, held.erase e)
  | none => none

/-- A freed place offered to the held telegrams (R214): the one that comes first enters it. Where an OFFER alone is held, and the cell is
STOPPED, the place stays the OFFER's (R30, log 52). -/
def Link.fillPlace (l : Link) (stopped : Bool) : Link :=
  match takeHeld stopped l.held with
  | none => { l with owed := l.owed || !l.held.isEmpty }
  | some (e, rest) => if l.out.length < Config.queueRoom then { l with held := rest }.enter e else l

/-- A place of the queue can be had for a held telegram: one stands free, or one that was freed for it is filled by a class-2 telegram
that it displaces (R213, R214). -/
def Link.canOffer (l : Link) (stopped : Bool) : Bool :=
  decide (l.out.length < Config.queueRoom) || (l.owed && !stopped && (dropYoungest l.waitingOut).isSome)

/-- The held telegrams are offered to the queue with no place freed at this event: at the end of STOPPED, and at HELD_TELEGRAM_ENTERED.
The one that comes first is entered by R213 where a place can be had, and otherwise stays held until one is freed (R214, log 52). -/
def Link.offerHeld (l : Link) (stopped : Bool) : Link :=
  match takeHeld stopped l.held with
  | none => l
  | some (e, rest) =>
    let kept := { l with owed := l.owed && stopped }
    if l.canOffer stopped then { kept with held := rest }.post e else kept

/-- A block withdraws the telegrams of its own that a test names: those whose send has not begun leave the queue or the hold, and
the place is offered to the held telegrams; for one in its send the wish is kept (R214). -/
def Link.withdraw (l : Link) (stopped : Bool) (mine : OutEntry → Bool) : Link :=
  let q := l.waitingOut.filter fun e => !mine e
  let kept := l.held.filter fun e => !mine e
  let l' := { l.withWaitingOut q with
    held := kept
    owed := l.owed && kept.any fun e => e.tg.kind == kindOffer
    withdrawAsked := l.withdrawAsked || l.inSend.any mine }
  if q.length < l.waitingOut.length then l'.fillPlace stopped else l'

/-- The board tracker holds an ACCEPT, DECLINE or RECEIVED for posting (R212). -/
def Link.answerHeld (l : Link) : Bool :=
  l.held.any fun e => e.tg.kind == kindAccept || e.tg.kind == kindDecline || e.tg.kind == kindReceived

/-- Telegrams no block owns are discarded when they reach the head of the inbound queue (R212). -/
def Link.discardOwnerless (l : Link) : Link := { l with inbound := l.inbound.dropWhile fun t => ownerless t.kind }

/-- The head of the inbound queue, if it is of a kind and its block can take it (R212). -/
def Link.headOf (l : Link) (kind : Byte) : Option Telegram :=
  match l.inbound with
  | t :: _ => if t.kind == kind && !(trackerKind kind && l.answerHeld) then some t else none
  | [] => none

/-- The head handed to its block: it leaves the queue, and an ownerless telegram behind it is discarded (R212). -/
def Link.popInbound (l : Link) : Link := { l with inbound := l.inbound.tail }.discardOwnerless

/-- The access position of the head telegram (R208). -/
def accessPosition (station : Byte) (penalty : Bool) (e : OutEntry) : Nat :=
  e.cls * 32 + station.toNat + if penalty then 32 else 0

/-- The station refuses a good telegram (R210): it is addressed here or to all, of class 1 or 2 and of a kind in the table, its source is
another station, and the inbound queue is full. -/
def Link.refusesGood (l : Link) (own : Byte) (t : Telegram) : Bool :=
  (t.dst == own || t.dst == 0) && kindTable.contains t.kind && classOf t.kind != 0 &&
    t.src != own && t.src != 0 && decide (t.src.toNat ≤ 31) && decide (Config.queueRoom ≤ l.inbound.length)

/-- The station refuses a faulty telegram (R210). -/
def refusesFaulty (own : Byte) (t : Telegram) : Bool :=
  (t.dst == own || t.dst == 0) && kindTable.contains t.kind && t.src != own && t.src != 0 && decide (t.src.toNat ≤ 31)

end Sys2Proof.Machine
end

