-- ==== Sys2Proof/Machine/Ops.lean ====
section
/-! DEFINITION. The operations the blocks share: posting telegrams and notices, reporting events to the watch counters, asking for,
granting and ending the own claim, and making and removing records of the board table. -/

namespace Sys2Proof.Machine

/-! ## Posting -/

/-- A telegram of this station, posted once. -/
def State.telegram (s : State) (dst kind : Byte) (payload : List Byte) : OutEntry :=
  { tg := { dst := dst, src := s.cfg.station, kind := kind, payload := payload }, postings := 1 }

/-- A block posts a telegram (R213). -/
def State.post (s : State) (dst kind : Byte) (payload : List Byte) : State :=
  { s with link := s.link.post (s.telegram dst kind payload) }

/-- A NOTICE to the terminal address; with terminal address 0 none is posted (R216). -/
def State.notice (s : State) (code : Byte) (body : List Byte) : State :=
  if s.cfg.terminal = 0 then s else s.post s.cfg.terminal kindNotice (code :: body)

/-- The cell is STOPPED: no OFFER enters the queue (R30). -/
def State.isStopped (s : State) : Bool := s.cell == .stopped

/-- A block withdraws its telegrams of one kind (R214). -/
def State.withdrawKind (s : State) (kind : Byte) : State :=
  { s with link := s.link.withdraw s.isStopped fun e => e.tg.kind == kind }

/-! ## The watch counters (chapter 10) -/

/-- A purge request reaches the sequencer: the mark is set, and NONE becomes REQUESTED (R109, R201). -/
def Sprayer.requestPurge (sp : Sprayer) : Sprayer :=
  { sp with purgeMark := true, purge := if sp.purge = .none then .requested else sp.purge }

/-- The margin sources (R193). -/
def Source.isMargin (s : Source) : Bool := s == .filmMargin || s == .cureMargin

/-- An event is qualified for a counter (R193). -/
def WatchCfg.qualifies (c : WatchCfg) (margin : Int) : Bool :=
  if c.source.isMargin then
    match c.compare with
    | .atLeast => decide (c.threshold ≤ margin)
    | .below => decide (margin < c.threshold)
  else true

/-- An event is counted (R194). -/
def WatchCfg.counts (c : WatchCfg) (w : WatchCounter) (margin : Int) : Bool :=
  c.qualifies margin && !(c.mode == .edge && c.source.isMargin && w.edgeMark)

/-- A counter after an event of its source, before its action: the edge mark takes the qualification (R194), a counted event raises
the count, and an overflow sets the flag and arms it (R195). -/
def WatchCounter.event (w : WatchCounter) (c : WatchCfg) (margin : Int) : WatchCounter :=
  let marked := { w with edgeMark := c.qualifies margin }
  if c.counts w margin then
    if w.count = 0xFFFF then { marked with count := 0, flag := true, armed := true }
    else { marked with count := w.count + 1 }
  else marked

/-- The event overflows the counter while it is not armed, so its action begins (R195). -/
def WatchCounter.begins (w : WatchCounter) (c : WatchCfg) (margin : Int) : Bool :=
  c.counts w margin && decide (w.count = 0xFFFF) && !w.armed

/-- The flags of the four counters, counter 0 first. -/
def State.watchFlags (s : State) : List Bool := s.watch.toList.map (·.flag)

/-- A counter's action begun (R196, R197, R198, R201). The flags of a NOTICE WATCH are those after this counter's overflow and before those of
the counters behind it (log 50). -/
def State.beginAction (s : State) (i : Fin 4) : State :=
  let c := s.cfg.watch[i]
  match c.action with
  | .none => s
  | .audit => s
  | .purge => { s with spray := s.spray.requestPurge }
  | .notice =>
    let s' := s.notice 7 (byteOf i.val :: c.source.code :: (be16 c.reload ++ flagByte s.watchFlags :: be32 s.seconds))
    { s' with watch := s'.watch.set i.val { s'.watch[i] with count := c.reload, armed := false } i.isLt }

/-- An event of a source reaches counter `i` (R192, R203). -/
def State.reportTo (src : Source) (margin : Int) (s : State) (i : Fin 4) : State :=
  let c := s.cfg.watch[i]
  if c.source = src then
    let w := s.watch[i]
    let s' := { s with watch := s.watch.set i.val (w.event c margin) i.isLt }
    if w.begins c margin then s'.beginAction i else s'
  else s

/-- A block reports an event to the watch counters, which take it in counter order, each with its action (R192, R203). That the flag of a
higher counter which the same event overflows does not yet show in a lower counter's NOTICE WATCH is a DESIGN CHOICE (log 50). -/
def State.report (s : State) (src : Source) (margin : Int) : State :=
  [0, 1, 2, 3].foldl (State.reportTo src margin) s

/-- A counter completed by an action: not armed, flag cleared, count reloaded (R198, R201). -/
def WatchCounter.complete (w : WatchCounter) (c : WatchCfg) : WatchCounter :=
  { w with count := c.reload, flag := false, armed := false }

/-- Counter `i` is armed for an action. -/
def State.armedFor (s : State) (a : WatchAction) (i : Fin 4) : Bool := s.watch[i].armed && s.cfg.watch[i].action == a

/-- Every counter armed for an action is completed (R198, R201). -/
def State.completeAction (s : State) (a : WatchAction) : State :=
  { s with watch := s.watch.mapIdx fun i w =>
      if h : i < 4 then if s.armedFor a ⟨i, h⟩ then w.complete s.cfg.watch[i] else w else w }

/-! ## The own claim (chapter 6) -/

/-- The sequencer asks for a claim: the holder is recorded and a SUPPLY_CLAIM posted (R115, R121). -/
def State.askClaim (s : State) (holder : Holder) (serial : Option Serial) (duration : Nat) : State :=
  { s with
    supply := { s.supply with own := .queued, holder := some holder, claimSerial := serial, claimDuration := duration }
    link := s.link.post (s.telegram 0 kindSupplyClaim (claimPayload s.cfg.group serial duration)) }

/-- The SUPPLY_DONE that ends the own claim, posted with the claim's group and serial (R115). -/
def State.postDone (s : State) : State := s.post 0 kindSupplyDone (donePayload s.cfg.group s.supply.claimSerial)

/-- No claim: its holder and timer go with it (R120, R128). -/
def Supply.noClaim (v : Supply) : Supply := { v with own := .none, holder := none, reClaim := none }

/-- The sequencer asks for the own claim to be ended (R125). -/
def State.endClaim (s : State) : State :=
  match s.supply.own with
  | .none => s
  | .queued => { s with supply := s.supply.noClaim }.withdrawKind kindSupplyClaim
  | .sending => { s with supply := { s.supply with own := .ending } }.withdrawKind kindSupplyClaim
  | .waiting | .granted => { s with supply := { s.supply with own := .ending } }.postDone
  | .refusedWait =>
    if s.supply.doneRead then { s with supply := s.supply.noClaim }
    else { s with supply := { s.supply with own := .ending, reClaim := none } }
  | .ending => s

/-- The own claim can be granted (R123): it waits, the learning time has run out, and fewer than L entries stand ahead. -/
def State.grantDue (s : State) : Bool :=
  s.supply.own == .waiting && s.supply.learning.isNone &&
    match s.entriesAhead with
    | some n => decide (n < s.cfg.limit)
    | none => false

/-- The grant test (R123). A grant for a purge opens its valves and starts its timer (R110). -/
def State.tryGrant (s : State) : State :=
  if s.grantDue then
    let s' := { s with supply := { s.supply with own := .granted } }
    if s.supply.holder = some .purge ∧ s.spray.purge = .claiming ∧ s.tracker.hold = false then
      { s' with spray := { s.spray with purge := .purging, purgeTimer := some (s.cfg.purgeTime * 100) } }
    else s'
  else s

/-! ## Records -/

/-- The traveller part of a record made without a traveller (R2). -/
def Traveller.blank : Traveller :=
  { serial := none, readSerial := none, variant := 0, lot := 0, sideUp := .top, stepsDone := 0, reasons := 0, length := none,
    snapshot := none, results := [] }

/-- A record as created, with its traveller part and spray state (R2). -/
def Record.fresh (t : Traveller) (sp : SprayState) : Record :=
  { trav := t, recipe := none, verdicts := [], spray := sp, clip := { count := 0, first := none }, film := none,
    sprayEnd := none, elapsed := 0, dose := 0, tickWeight := none, handoff := none, diversion := none }

/-- A STRANDED record (R2). -/
def Record.strandedRecord : Record := (Record.fresh .blank .skipped).addReason .stranded

/-- A record put at a position. -/
def State.putRecord (s : State) (p : Position) (r : Record) : State := { s with table := s.table.put p (some r) }

/-- The mask checker takes the record at a position as its candidate (R68). -/
def MaskChecker.arm (m : MaskChecker) (p : Position) : MaskChecker :=
  { m with phase := .armed, cand := some p, sampled := [] }

/-- The mask checker without a candidate (R68, R80): the reference, the windows (computed from it) and the sampled marks are dropped. x and the
high mark keep their last values until the next opening, which R80 leaves open (DESIGN CHOICE, log 47). -/
def MaskChecker.drop (m : MaskChecker) : MaskChecker := { m with phase := .idle, cand := none, sampled := [] }

/-- A STRANDED record made at a position (R2). At TRANSPORT it becomes the candidate (R68); at EXIT it is handed for diversion in the
same event (R29, R168). -/
def State.makeStranded (s : State) (p : Position) : State :=
  let r := Record.strandedRecord
  let s' := s.putRecord p (if p = .exit then { r with diversion := some .waitingRack } else r)
  if p = .transport then { s' with mask := s.mask.arm .transport } else s'

/-- The recipe store takes a reference back: a RETIRING record that no record of the table names becomes FREE (R49, R59). -/
def State.handBack (s : State) (i : Option (Fin 12)) : State :=
  match i with
  | none => s
  | some k =>
    if s.store.records[k].isRetiring ∧ s.refCount k = 0 then
      { s with store := { s.store with records := s.store.records.set k.val .free k.isLt } }
    else s

/-- The spray sequencer loses the record at SPRAY: its schedule is discarded and its claim ended (R3, R88, R94). -/
def State.dropSpray (s : State) : State :=
  let s' := { s with spray := { s.spray with schedule := none, abort := none } }
  if s.supply.holder = some .board then s'.endClaim else s'

/-- A record leaves the table (R3): its position is free, its recipe reference handed back, and the blocks that hold work for it are
told. -/
def State.leave (s : State) (p : Position) : State :=
  match s.table.get p with
  | none => s
  | some r =>
    let s1 := { s with table := s.table.put p none }.handBack r.recipe
    let s2 := if s1.mask.cand = some p then { s1 with mask := s1.mask.drop } else s1
    if p = .spray then s2.dropSpray else s2

/-- In CLEAR_OUT, at the event at which the table is empty, the cell state becomes RUN, or STOPPED while the drive hold is in force
(R22, R221). -/
def State.clearOutTest (s : State) : State :=
  if s.cell = .clearOut ∧ s.tableEmpty = true then { s with cell := if s.tracker.hold then .stopped else .run } else s

/-- A record removed because its board was lifted off, with NOTICE BOARD_REMOVED; an OFFER of it is withdrawn (R15, R16). R15 gives no
order of the two: the OFFER is withdrawn first, so the notice can take its place in a full queue (DESIGN CHOICE, log 46). -/
def State.removeLifted (s : State) (p : Position) : State :=
  match s.table.get p with
  | none => s
  | some r =>
    let t := r.trav
    let s1 := s.leave p
    let s2 := match r.handoff with
      | some (.offered _ _) => s1.withdrawKind kindOffer
      | _ => s1
    s2.notice 3
      (byteOf (positionBit p) :: flagByte [t.serial.isSome] ::
        (optWord t.serial ++ be16 t.variant ++ be16 t.lot ++ be24 t.reasons))

/-! ## Events that do not come about -/

/-- A command whose cause does not hold has no effect (log 5). -/
def State.when (s : State) (c : Bool) (f : State → State) : State := if c then f s else s

/-- Before the configuration load and in CONFIG_FAULT no block takes an event (R218, R219, R223). -/
def State.live (s : State) (f : State → State) : State := if s.loaded then f s else s

/-- The outcome of a command that ends in a state. -/
abbrev Result := Host.Outcome State Fault Refusal

end Sys2Proof.Machine
end

