-- ==== Sys2Proof/Machine/MaskCheck.lean ====
section
/-! DEFINITION. The mask checker (chapter 4): the datum, the measurement, the zones' verdicts and the closes. -/

namespace Sys2Proof.Machine

/-! ## Zones and channels (R70, R71) -/

/-- The window of a zone, [x0 + inset, x1 - inset] (R70). -/
def windowStart (inset : Nat) (z : BoardZone) : Int := z.x0 + inset
def windowEnd (inset : Nat) (z : BoardZone) : Int := (z.x1 : Int) - inset

/-- A channel qualifies for a zone (R71). -/
def qualifies (c : CellCfg) (z : BoardZone) (k : Nat) : Bool :=
  let y : Int := c.maskY0 + k * c.maskPitch
  decide (k < c.maskCount) && decide ((z.y0 : Int) + c.inset ≤ y) && decide (y ≤ (z.y1 : Int) - c.inset)

/-- The numbers of the mask channels. -/
def channels : List (Fin 32) := List.finRange 32

/-- Whether a channel's filtered level shows a mask; a filter without a level reads absent (R72). -/
def State.maskPresent (s : State) (k : Fin 32) : Bool := s.inputs.mask[k].level == some true

/-- A qualifying channel of a zone reads absent (R73, step 2). -/
def State.maskAbsent (s : State) (z : BoardZone) : Bool :=
  channels.any fun k => qualifies s.cfg z k.val && !s.maskPresent k

/-- The verdict of a zone at the opening count (R70). -/
def State.openVerdict (s : State) (z : BoardZone) (v : Verdict) : Verdict :=
  match z.kind with
  | .noCoat => v
  | .masked =>
    if (channels.all fun k => !qualifies s.cfg z k.val) ∨ (z.x1 : Int) - z.x0 ≤ 2 * s.cfg.inset then .uncheckable else v

/-- A zone still being judged: PENDING or WATCHING (R73). -/
def Verdict.unjudged : Verdict → Bool
  | .pending | .watching => true
  | .verified | .missing | .uncheckable => false

/-- Step 1 of R73. -/
def stepWatch (inset : Nat) (x : Int) (z : BoardZone) (v : Verdict) : Verdict :=
  if x = windowStart inset z ∧ v = .pending then .watching else v

/-- The zone is WATCHING and x lies within its window (R73, step 2). -/
def watched (inset : Nat) (x : Int) (z : BoardZone) (v : Verdict) : Bool :=
  v == .watching && decide (windowStart inset z ≤ x) && decide (x ≤ windowEnd inset z)

/-- Step 3 of R73, decided by R75. -/
def stepDone (inset : Nat) (x : Int) (z : BoardZone) (sampled : Bool) (v : Verdict) : Verdict :=
  if v = .watching ∧ x = windowEnd inset z then (if sampled then .verified else .uncheckable) else v

/-- One zone at a sampling count: its verdict and sampled mark after the steps of R73 (R74, R75). `seen` is the datum sample. -/
def State.sampleZone (s : State) (x : Int) (seen : Bool) (z : BoardZone) (v : Verdict) (mark : Bool) : Verdict × Bool :=
  match z.kind, v.unjudged with
  | .masked, true =>
    let v1 := stepWatch s.cfg.inset x z v
    let reads := seen && watched s.cfg.inset x z v1
    let mark' := mark || reads
    let v2 := if reads = true ∧ s.maskAbsent z = true then .missing else v1
    (stepDone s.cfg.inset x z mark' v2, mark')
  | _, _ => (v, mark)

/-- The reasons new verdicts bring: MASK_MISSING where a zone becomes MISSING, MASK_UNCHECKED where one becomes UNCHECKABLE. -/
def Record.withVerdicts (r : Record) (vs : List Verdict) : Record :=
  let became (v : Verdict) : Bool := (r.verdicts.zip vs).any fun p => p.1 != v && p.2 == v
  ({ r with verdicts := vs }.addReasonIf (became .missing) .maskMissing).addReasonIf (became .uncheckable) .maskUnchecked

/-! ## The candidate -/

/-- The candidate record, if the checker holds one. -/
def State.candidate (s : State) : Option Record := s.mask.cand.bind s.table.get

/-- The zones of a record's recipe; none without a recipe. -/
def State.zonesOf (s : State) (r : Record) : List BoardZone :=
  match r.bound s.store with
  | some rc => rc.zones
  | none => []

/-- The candidate record replaced. -/
def State.setCandidate (s : State) (r : Record) : State :=
  match s.mask.cand with
  | some p => s.putRecord p r
  | none => s

/-! ## Closes (R76 to R79) -/

/-- The verdict of a zone at a close without a trailing edge (R78). -/
def cutVerdict (z : BoardZone) (v : Verdict) : Verdict :=
  match z.kind, v.unjudged with
  | .masked, true => .uncheckable
  | _, _ => v

/-- A record closed without a trailing edge (R78): its unjudged MASKED zones become UNCHECKABLE, and a bound record gets LENGTH. -/
def State.closeCut (s : State) (r : Record) (length : Option Half) : Record :=
  let vs := (s.zonesOf r).zipWith cutVerdict r.verdicts
  ({ r with trav := { r.trav with length := length } }.withVerdicts vs).addReasonIf r.recipe.isSome .length

/-- The verdict of a zone at the trailing edge (R77). -/
def trailingVerdict (length : Nat) (z : BoardZone) (v : Verdict) : Verdict :=
  match z.kind, v with
  | .masked, .pending | .masked, .watching | .masked, .verified => if length < z.x1 then .uncheckable else v
  | _, _ => v

/-- A record closed at the trailing edge with its measured length (R76, R77, R79). -/
def State.closeTrailing (s : State) (r : Record) (length : Nat) : Record :=
  let vs := (s.zonesOf r).zipWith (trailingVerdict length) r.verdicts
  let outside := match r.bound s.store with
    | some rc => decide (length < rc.lenMin ∨ rc.lenMax < length)
    | none => false
  ({ r with trav := { r.trav with length := some (BitVec.ofNat 16 length) } }.withVerdicts vs).addReasonIf outside .length

/-- The checker CLOSED, with its candidate closed by a function (R76, R78). -/
def State.closeWith (s : State) (f : Record → Record) : State :=
  match s.candidate with
  | some r => { s.setCandidate (f r) with mask := { s.mask with phase := .closed } }
  | none => { s with mask := { s.mask with phase := .closed } }

/-- CUT_SHORT and IDLE, at the event at which the candidate's move into SPRAY completes (R68, R78): the record as it reaches SPRAY. -/
def State.closeAtSpray (s : State) (r : Record) : Record :=
  match s.mask.phase with
  | .armed | .measuring => s.closeCut r r.trav.length
  | .idle | .closed => r

/-! ## Encoder counts (R69, R73) -/

/-- The datum sampled at a count: two agreeing samples in a row make the accepted level (R69). -/
def MaskChecker.sampleDatum (m : MaskChecker) (datum : Bool) : MaskChecker :=
  { m with lastSample := some datum, accepted := if m.lastSample = some datum then some datum else m.accepted }

/-- The candidate's zones at a sampling count at x (R73, steps 1 to 3). -/
def State.sampleZones (s : State) (x : Int) (seen : Bool) : State :=
  match s.candidate with
  | none => s
  | some r =>
    let zs := s.zonesOf r
    let out := (List.range zs.length).map fun k =>
      match zs[k]? with
      | some z => s.sampleZone x seen z (r.verdicts.getD k .pending) (s.mask.sampled.getD k false)
      | none => (.pending, false)
    { s.setCandidate (r.withVerdicts (out.map (·.1))) with mask := { s.mask with sampled := out.map (·.2) } }

/-- The zones of the candidate classified at the opening count, their sampled marks clear (R70). -/
def State.classify (s : State) : State :=
  match s.candidate with
  | none => s
  | some r =>
    let zs := s.zonesOf r
    { s.setCandidate (r.withVerdicts (zs.zipWith s.openVerdict r.verdicts)) with
      mask := { s.mask with sampled := zs.map fun _ => false } }

/-- The leading edge opens the measurement at x = 1 and treats the count as a sampling count (R69, R70). -/
def State.openMeasurement (s : State) : State :=
  { s with mask := { s.mask with phase := .measuring, x := 1, high := 1 } }.classify.sampleZones 1 true

/-- A forward count outside MEASURING: the datum is sampled, and in ARMED a change from empty to occupied is the leading edge
(R69). -/
def State.countOutside (s : State) (datum : Bool) : State :=
  let s' := { s with mask := s.mask.sampleDatum datum }
  if s.mask.phase = .armed ∧ s.mask.accepted = some false ∧ s'.mask.accepted = some true then s'.openMeasurement else s'

/-- The trailing edge at x: the measured length is x - 1 (R76). -/
def State.trailingEdge (s : State) (x : Int) : State := s.closeWith fun r => s.closeTrailing r (x - 1).toNat

/-- A forward count in MEASURING (R73): below the high mark it changes x alone; a new-ground count at 8192 is OVERRUN (R78);
any other is a sampling count. -/
def State.countForward (s : State) (datum : Bool) : State :=
  let x := s.mask.x + 1
  if x ≤ s.mask.high then { s with mask := { s.mask with x := x } }
  else if x = 8192 then s.closeWith fun r => s.closeCut r (some 8191)
  else
    let s1 := { s with mask := { s.mask with x := x, high := x }.sampleDatum datum }
    let s2 := s1.sampleZones x datum
    if s.mask.accepted = some true ∧ s1.mask.accepted = some false then s2.trailingEdge x else s2

/-- A reverse count in MEASURING: more than 64 counts below the high mark is BROKEN (R73, R78). -/
def State.countReverse (s : State) : State :=
  let x := s.mask.x - 1
  let s1 := { s with mask := { s.mask with x := x } }
  if (Config.rockBack : Int) < s.mask.high - x then s1.closeWith fun r => s1.closeCut r r.trav.length else s1

/-- A transport encoder count (R69, R73). -/
def State.transportCount (s : State) (dir : Direction) (datum : Bool) : State :=
  match s.mask.phase, dir with
  | .measuring, .forward => s.countForward datum
  | .measuring, .reverse => s.countReverse
  | .idle, .forward | .armed, .forward | .closed, .forward => s.countOutside datum
  | .idle, .reverse | .armed, .reverse | .closed, .reverse => s

/-- TRANSPORT_ENCODER_COUNT (R73): taken in CLEAR_OUT, RUN and STOPPED (R83). -/
def execTransportEncoderCount (dir : Direction) (datum : Bool) (s : State) : Result :=
  .next (s.when s.tracking fun t => t.transportCount dir datum)

/-- A filtered level a command brings: the pin, the last sample and the level agree (R11, log 6). -/
def Filter.forced (b : Bool) : Filter := { raw := b, last := some b, level := some b }

/-- MASK_CHANNEL_EDGE (R11, R72): filters sample from the load on. R11 gives no edge for a first level; at a channel whose filter holds
no level yet the command is taken all the same, and the channel takes the level at once (DESIGN CHOICE, log 63). -/
def execMaskChannelEdge (k : Fin 32) (present : Bool) (s : State) : Result :=
  .next (s.live fun t =>
    { t with inputs := { t.inputs with mask := t.inputs.mask.set k.val (Filter.forced present) k.isLt } })

end Sys2Proof.Machine
end

