-- ==== Sys2Proof/Machine/Dose.lean ====
section
/-! DEFINITION. The cure dose arithmetic (chapter 8): the weight of a cure tick, the accumulator, and the comparisons with the
cure window. -/

namespace Sys2Proof.Machine

/-- The F table of R158. -/
def doseFactor (r : Nat) : Nat := [256, 274, 294, 315, 338, 362, 388, 416, 446, 478].getD r 0

/-- R156: whole degrees above or below the reference, rounded toward minus infinity, at most 49. -/
def doseDegrees (t tRef : Int) : Int := min ((t - tRef) / 10) 49

/-- R159: the factor scaled by the decade of d. -/
def scaleWeight (d : Int) : Nat :=
  let q := d / 10
  let r := (d % 10).toNat
  if 0 ≤ q then doseFactor r * 2 ^ q.toNat
  else if -8 ≤ q then doseFactor r / 2 ^ (-q).toNat
  else 0

/-- The weight of one cure tick (R154 to R159): from the zone's value in use, absent when LOST. -/
def weight (value : Option Int) (r : Recipe) : Nat :=
  match value with
  | none => 0
  | some t => if t < r.tOn then 0 else scaleWeight (doseDegrees t r.tRef)

/-- R160: the dose after a gain, saturating. -/
def accumulate (dose w : Nat) : Nat := min (dose + w) Config.max32

/-- R161: the dose is short of the window. -/
def doseShort (dose : Nat) (r : Recipe) : Bool := decide (dose < r.cureMin * 256)

/-- R161: the dose is over the window. -/
def doseOver (dose : Nat) (r : Recipe) : Bool := decide (r.cureMax * 256 < dose)

/-- R163: the cure margin. -/
def cureMargin (dose : Nat) (r : Recipe) : Int := clampInt (-65535) 65535 ((dose / 256 : Nat) - (r.cureMin : Int))

/-- Step 1 of the cure tick for the record at a position (R145, R146, R147, R154, R160): a record sprayed here that stands in a slot
gains its weight and the reasons that arise; any other keeps no tick weight. A record sprayed here is always bound (R154). -/
def State.cureRecord (s : State) (p : Position) (r : Record) : Record :=
  match slotZoneOf s.cfg.slotZone p, r.sprayedHere, r.bound s.store with
  | some z, true, some rc =>
    let value := (s.tunnel.zones.get z).value
    let w := weight value rc
    let dose := accumulate r.dose w
    let hot := match value with
      | some t => decide (rc.tMax < t)
      | none => false
    (({ r with dose := dose, tickWeight := some w }.addReasonIf value.isNone .cureDataGap).addReasonIf (doseOver dose rc)
      .overcure).addReasonIf hot .overtemp
  | _, _, _ => { r with tickWeight := none }

/-- Step 2, the count: a record with a spray end time has its flash/pot count advanced, saturating (R141). -/
def Record.flashTick (r : Record) : Record :=
  if r.sprayEnd.isSome then { r with elapsed := min (r.elapsed + 1) Config.max32 } else r

/-- The pot test of R142 for the record at a position. -/
def State.potTest (s : State) (p : Position) (r : Record) : Record :=
  let spent := match r.bound s.store with
    | some rc => decide (rc.potMax ≤ r.elapsed)
    | none => false
  r.addReasonIf ((p == .spray || p == .gate) && r.sprayedHere && spent) .potLife

/-- Every record of the table changed by a function of its position. -/
def State.mapRecords (s : State) (f : Position → Record → Record) : State :=
  { s with table := s.table.mapPos fun p o => o.map (f p) }

/-- The projected dose of R162 stays within the record's cure_max. -/
def State.projectionFits (s : State) (o : Option Record) : Bool :=
  match o with
  | none => true
  | some r =>
    match r.sprayedHere, r.bound s.store with
    | true, some rc => decide (r.dose + s.cfg.extensionStep * r.tickWeight.getD 0 ≤ rc.cureMax * 256)
    | _, _ => true

/-- Condition 1 of R134: the record in slot 5 is sprayed here and short of its minimum dose. -/
def State.slot5Short (s : State) : Bool :=
  match s.table.tunnel5 with
  | none => false
  | some r =>
    match r.sprayedHere, r.bound s.store with
    | true, some rc => doseShort r.dose rc
    | _, _ => false

/-- The extension test (R134). -/
def State.canExtend (s : State) : Bool :=
  s.slot5Short && decide (s.tunnel.extensionUsed + s.cfg.extensionStep ≤ s.cfg.maxExtension) &&
    slotPositions.all fun p => s.projectionFits (s.table.get p)

end Sys2Proof.Machine
end

