-- ==== Sys2Proof/Machine/Handoff.lean ====
section
/-! DEFINITION. The handoff between cells (chapter 2): the board at EXIT and its OFFER on the upstream side, the answer to an OFFER,
the arrival list and the match at ENTRY on the downstream side. The commands that end in a move or a claim stand in Edges.lean and
Inbound.lean. -/

namespace Sys2Proof.Machine

/-! ## Upstream: the record at EXIT -/

/-- The handoff state of the record at EXIT, if one stands there. -/
def State.exitHandoff (s : State) : Option Handoff := s.table.exit.bind (·.handoff)

/-- The record at EXIT with another handoff state. -/
def State.setHandoff (s : State) (h : Option Handoff) : State :=
  { s with table := { s.table with exit := s.table.exit.map fun r => { r with handoff := h } } }

/-- The record at EXIT handed to the hold manager for diversion (R29, R33, R168): it has no handoff state. -/
def State.handForDiversion (s : State) : State :=
  { s with table := { s.table with
      exit := s.table.exit.map fun r => { r with handoff := none, diversion := some .waitingRack } } }

/-- The OFFER of a record is posted, or while the cell is STOPPED falls due for the end of the drive hold (R30). -/
def State.postOffer (s : State) (number : Byte) : State :=
  match s.table.exit with
  | none => s
  | some r =>
    if s.isStopped then s.setHandoff (some (.offered number .due))
    else
      (s.setHandoff (some (.offered number .posting))).post s.cfg.downstream kindOffer (offerPayload number r.trav)

/-- The record at EXIT becomes OFFERED: it takes the next handoff number and its OFFER is posted (R27, R30). -/
def State.becomeOffered (s : State) : State :=
  let number := s.tracker.handoffCounter + 1
  { s with tracker := { s.tracker with handoffCounter := number } }.postOffer number

/-- The exit decision (R29, R34). -/
def State.exitDecision (s : State) : State :=
  match s.table.exit with
  | none => s
  | some r =>
    if !r.clean then s.handForDiversion
    else if s.cfg.downstream = 0 then s.setHandoff (some (.transferring none false true none))
    else s.becomeOffered

/-- A telegram is for the record at EXIT (R28): its source is the downstream station, and its number and serial are the record's. -/
def State.isForExit (s : State) (t : Telegram) : Bool :=
  match s.table.exit with
  | none => false
  | some r =>
    let numbered := match r.handoff with
      | some (.offered n _) => n == byteAt t.payload 0
      | some (.transferring (some n) _ _ _) => n == byteAt t.payload 0
      | _ => false
    numbered && t.src == s.cfg.downstream && serialAt t.payload 1 2 == r.trav.serial

/-- An ACCEPT that fits and is for a record that is OFFERED makes it TRANSFERRING and withdraws its OFFER (R31). -/
def State.takeAccept (s : State) (t : Telegram) : State :=
  if answerFits t.payload ∧ s.isForExit t then
    match s.exitHandoff with
    | some (.offered n _) => (s.setHandoff (some (.transferring (some n) false false none))).withdrawKind kindOffer
    | _ => s
  else s

/-- A DECLINE that fits and is for the record in its answer wait starts the re-offer wait (R30, step 5). -/
def State.takeDecline (s : State) (t : Telegram) : State :=
  if declineFits t.payload ∧ s.isForExit t then
    match s.exitHandoff with
    | some (.offered n (.answer _)) => s.setHandoff (some (.offered n (.reOffer Config.reOfferTime)))
    | _ => s
  else s

/-- The handoff is complete, or the record dropped: it leaves the table and CLEAN_EXIT is reported (R32, R33, R192). -/
def State.departClean (s : State) : State := (s.leave .exit).report .cleanExit 0

/-- A RECEIVED that fits and is for a record in TRANSFERRING sets its received mark; with both marks set the handoff is complete
(R32). -/
def State.takeReceived (s : State) (t : Telegram) : State :=
  if answerFits t.payload ∧ s.isForExit t then
    match s.exitHandoff with
    | some (.transferring n cleared _ timer) =>
      if cleared then s.departClean else s.setHandoff (some (.transferring n false true timer))
    | _ => s
  else s

/-- An empty edge at EXIT of a record in TRANSFERRING (R32): cleared is set; received already set completes the handoff, and
otherwise the transfer timer starts (R33). -/
def State.exitCleared (s : State) (n : Option Byte) (received : Bool) : State :=
  if received then s.departClean
  else s.setHandoff (some (.transferring n true false (some (s.cfg.transferTimeout * 1000))))

/-- An occupied edge at EXIT of a record cleared and not received: the board has come back (R33). -/
def State.exitReturned (s : State) (n : Option Byte) : State := s.setHandoff (some (.transferring n false false none))

/-- The answer wait expires with no answer (R30, step 4). -/
def State.answerExpiry (s : State) : State :=
  match s.exitHandoff with
  | some (.offered n (.answer _)) => s.setHandoff (some (.offered n (.reOffer Config.reOfferTime)))
  | _ => s

/-- ANSWER_WAIT_EXPIRY (R30). -/
def execAnswerWaitExpiry (s : State) : Result := .next (s.live State.answerExpiry)

/-- The re-offer wait expires: a new OFFER with the same number is posted (R30, step 6). -/
def State.reOfferExpiry (s : State) : State :=
  match s.exitHandoff with
  | some (.offered n (.reOffer _)) => s.postOffer n
  | _ => s

/-- RE_OFFER_WAIT_EXPIRY (R27, R30). -/
def execReOfferWaitExpiry (s : State) : Result := .next (s.live State.reOfferExpiry)

/-- The report of the link for an OFFER (R30, steps 2 and 3); ignored when its record is no longer OFFERED in its posting wait. -/
def State.offerReport (s : State) (number : Byte) (refused : Bool) : State :=
  match s.exitHandoff with
  | some (.offered n .posting) =>
    if n = number then
      s.setHandoff (some (.offered n (if refused then .reOffer Config.reOfferTime else .answer Config.answerTime)))
    else s
  | _ => s

/-- The drop of a record at the transfer timeout, with NOTICE TRANSFER_UNCONFIRMED (R33). The notice is posted before the CLEAN_EXIT
event is reported, and so before a NOTICE WATCH that the event brings (DESIGN CHOICE, log 56). -/
def State.dropUnconfirmed (s : State) (r : Record) (n : Option Byte) : State :=
  let t := r.trav
  (s.notice 2 (n.getD 0 :: flagByte [t.serial.isSome] :: (optWord t.serial ++ be16 t.variant ++ be16 t.lot))).departClean

/-! ## Downstream: answering an offer -/

/-- The entries and records that hold a serial (R5): a record of the table or an entry of the hold list. -/
def State.serialStands (s : State) (sn : Serial) : Bool :=
  (s.table.toList.any fun o => match o with | some r => r.trav.serial == some sn | none => false) ||
    s.holds.list.any fun e => e.serial == some sn

/-- An offer repeats one already accepted (R36). -/
def State.isRepeat (s : State) (source number : Byte) (serial : Option Serial) : Bool :=
  s.tracker.arrivals.any fun e =>
    match serial with
    | some sn => e.trav.serial == some sn
    | none => e.trav.serial.isNone && e.source == source && e.number == number

/-- A step outside 1..4 in the traveller's coat results (R35, order 2; steps_done holds steps 1..4 by its layout). -/
def badSteps (t : Traveller) : Bool := t.results.any fun r => decide (r.step.toNat = 0 ∨ 4 < r.step.toNat)

/-- The conditions of R35, in order: the decline code of the first that holds, none where the answer is ACCEPT. -/
def State.offerDecline (s : State) (t : Telegram) : Option DeclineCode :=
  let trav := offerTraveller t.payload
  if s.cfg.upstream = 0 ∨ t.src ≠ s.cfg.upstream then some .wrongSource
  else if !offerFits t.payload || badSteps trav then some .badTraveller
  else
    match s.cell with
    | .start | .clearOut | .configFault => some .starting
    | .stopped => some .stopped
    | .run =>
      if s.isRepeat t.src (byteAt t.payload 0) trav.serial then none
      else if trav.serial.any s.serialStands then some .duplicate
      else if s.cfg.nearFull ≤ s.holds.list.length then some .throttled
      else if Config.arrivalRoom ≤ s.tracker.arrivals.length then some .full
      else none

/-- The answer to an OFFER, with its number and serial; bytes its payload does not hold are free values (R35, log 15). -/
def State.postDecline (s : State) (t : Telegram) (code : DeclineCode) : State :=
  let p := withFree t.payload 6 s.free
  { s with free := s.free + (6 - t.payload.length) }.post t.src kindDecline
    (answerPayload (byteAt p 0) (serialAt p 1 2) ++ [code.code])

/-- A new arrival entry appended, with its transfer timer started (R36, R38). -/
def State.appendArrival (s : State) (t : Telegram) : State :=
  { s with tracker := { s.tracker with arrivals := s.tracker.arrivals ++
      [{ trav := offerTraveller t.payload, source := t.src, number := byteAt t.payload 0, acceptedAt := s.seconds,
         timer := s.cfg.transferTimeout * 1000 }] } }

/-! ## The match at ENTRY -/

/-- NOTICE TRANSFER_LOST for an arrival entry (R38, R39): cause 1 EXPIRED, 2 SKIPPED. -/
def State.transferLost (s : State) (e : ArrivalEntry) (cause : Byte) : State :=
  s.notice 1
    (flagByte [e.trav.serial.isSome] ::
      (optWord e.trav.serial ++ [e.source, e.number] ++ be16 e.trav.variant ++ be16 e.trav.lot ++ be32 e.acceptedAt ++ [cause]))

/-- The duplicate check of R40, step 1, against the table, the hold list and the arrival entries that are not the board's own. -/
def State.duplicateCheck (s : State) (others : List ArrivalEntry) (r : Record) : Record :=
  match r.trav.serial with
  | none => r
  | some sn =>
    if s.serialStands sn || others.any fun e => e.trav.serial == some sn then
      { r with trav := { r.trav with serial := none, readSerial := some sn } }.addReason .duplicateSerial
    else r

/-- The lot filters applied to a record (R182, R184). -/
def State.applyFilters (s : State) (r : Record) : Record :=
  r.addReasonIf (s.holds.filters.toList.any fun o => o.any fun f => f.hits r.trav.variant r.trav.lot) .lotHold

/-- The record of a matched entry before the checks: a read serial that differs is kept with ID_MISMATCH (R39, R40). -/
def matchedRecord (e : ArrivalEntry) (mismatch : Option Serial) : Record :=
  match mismatch with
  | some sn => (Record.fresh { e.trav with readSerial := some sn } .notDue).addReason .idMismatch
  | none => Record.fresh e.trav .notDue

/-- The match completes with an entry; `others` are the entries that stay (R40). -/
def State.completeMatch (s : State) (e : ArrivalEntry) (others : List ArrivalEntry) (mismatch : Option Serial) : State :=
  let r := s.applyFilters (s.duplicateCheck others (matchedRecord e mismatch))
  let s1 := { s with tracker := { s.tracker with arrivals := others, arrival := none } }.putRecord .entry r
  s1.post e.source kindReceived (answerPayload e.number e.trav.serial)

/-- The table of R39: the board at ENTRY matched with an entry by the outcome of its read. -/
def State.matchEntry (s : State) (outcome : ReadOutcome) : State :=
  match s.tracker.arrivals, outcome with
  | [], _ => s
  | e :: rest, .noRead => s.completeMatch e rest none
  | e :: rest, .read sn _ _ =>
    if e.trav.serial = some sn then s.completeMatch e rest none
    else
      match rest with
      | e2 :: rest2 =>
        if e2.trav.serial = some sn then (s.transferLost e 2).completeMatch e2 rest2 none
        else s.completeMatch e rest (some sn)
      | [] => s.completeMatch e rest (some sn)

/-- The entry read of the arrival ends: matched at once, or with an empty arrival list the orphan wait starts (R39, R41). -/
def State.endEntryRead (s : State) (outcome : ReadOutcome) : State :=
  if s.tracker.arrivals = [] then
    { s with tracker := { s.tracker with arrival := some (.orphan outcome (s.cfg.orphanWait * 1000)) } }
  else s.matchEntry outcome

/-- The traveller part of a board without a traveller, from its read (R41). -/
def orphanTraveller : ReadOutcome → Traveller
  | .read sn v l => { Traveller.blank with serial := some sn, variant := v, lot := l }
  | .noRead => .blank

/-- The record built at the end of the orphan wait (R41); in the head cell without NO_TRAVELLER. -/
def State.orphanRecord (s : State) (outcome : ReadOutcome) : State :=
  let r := (Record.fresh (orphanTraveller outcome) .notDue).addReasonIf (s.cfg.upstream != 0) .noTraveller
  let r' := s.applyFilters (s.duplicateCheck s.tracker.arrivals r)
  { s with tracker := { s.tracker with arrival := none } }.putRecord .entry r'

/-- An OFFER taken from the inbound queue (R35, R36, R41). One addressed to all stations is not answered and has no effect
(log 17). An accepted entry is matched at once with a board that waits without one; ACCEPT is posted before the match's RECEIVED
(DEDUCED, log 58). -/
def State.takeOffer (s : State) (t : Telegram) : State :=
  if t.dst = 0 then s
  else
    match s.offerDecline t with
    | some code => s.postDecline t code
    | none =>
      let trav := offerTraveller t.payload
      let number := byteAt t.payload 0
      let fresh := !s.isRepeat t.src number trav.serial
      let s1 := (if fresh then s.appendArrival t else s).post t.src kindAccept (answerPayload number trav.serial)
      match fresh, s1.tracker.arrival with
      | true, some (.orphan outcome _) => s1.matchEntry outcome
      | _, _ => s1

/-- An arrival entry expires: it is removed, with NOTICE TRANSFER_LOST, cause EXPIRED (R38). -/
def State.expireArrival (s : State) (i : Fin 2) : State :=
  match s.tracker.arrivals[i.val]? with
  | none => s
  | some e =>
    { s with tracker := { s.tracker with arrivals := s.tracker.arrivals.eraseIdx i.val } }.transferLost e 1

/-- DOWNSTREAM_TRANSFER_TIMEOUT (R38): suspended while the drive hold is in force (R44). -/
def execDownstreamTransferTimeout (i : Fin 2) (s : State) : Result :=
  .next (s.when (s.loaded && !s.tracker.hold) fun t => t.expireArrival i)

/-! ## RECEIVED posted again -/

/-- The report of the link for a RECEIVED (R37): refused, it is posted again after 50 ms, up to 8 postings. -/
def State.receivedReport (s : State) (e : OutEntry) (refused : Bool) : State :=
  if refused = true ∧ e.postings < Config.maxPostings then
    { s with tracker := { s.tracker with reposts := s.tracker.reposts ++
        [{ dst := e.tg.dst, number := byteAt e.tg.payload 0, serial := serialAt e.tg.payload 1 2, postings := e.postings,
           timer := Config.repostTime }] } }
  else s

/-- The RECEIVED refused longest ago is posted again (R37). -/
def State.repost (s : State) : State :=
  match s.tracker.reposts with
  | [] => s
  | r :: rest =>
    let e := { s.telegram r.dst kindReceived (answerPayload r.number r.serial) with postings := r.postings + 1 }
    { s with tracker := { s.tracker with reposts := rest }, link := s.link.post e }

/-- RECEIVED_REPOST (R37). -/
def execReceivedRepost (s : State) : Result := .next (s.live State.repost)

end Sys2Proof.Machine
end

