-- ==== Sys2Proof/Machine/Schedule.lean ====
section
/-! DEFINITION. The spray schedule (sections 5.3, 5.5 and 5.7): exclusions, clipping, the list of intervals, what one encoder count
does to it, and the film of its closed intervals. -/

namespace Sys2Proof.Machine

/-! ## Exclusions (R89) -/

/-- A closed x interval that a zone excludes for a valve, with the zone's index. -/
structure Exclusion where
  lo : Int
  hi : Int
  zone : Nat
  noCoat : Bool
deriving DecidableEq, Repr

/-- The guard of a zone by its kind and verdict (R89); none for a zone that excludes nothing. A MASKED zone that is not VERIFIED
excludes (R93). -/
def zoneGuard (clearance maskGuard : Nat) (z : BoardZone) (v : Verdict) : Option Nat :=
  match z.kind, v with
  | .noCoat, _ => some clearance
  | .masked, .verified => none
  | .masked, .pending | .masked, .watching | .masked, .missing | .masked, .uncheckable => some (clearance + maskGuard)

/-- Twice the y of a valve's centre (R84); the ends of its swath are `swath` below and above. -/
def valveCentre2 (c : CellCfg) (valve : Nat) : Int := 2 * (c.valveY0 + valve * c.valvePitch : Nat)

/-- The swath of a valve overlaps the widened band of a zone, ends included (R89). In half counts. -/
def bandTouches (c : CellCfg) (valve : Nat) (z : BoardZone) (g : Nat) : Bool :=
  decide (valveCentre2 c valve - c.swath ≤ 2 * ((z.y1 : Int) + g)) &&
    decide (2 * ((z.y0 : Int) - g) ≤ valveCentre2 c valve + c.swath)

/-- The exclusion of zone `k` for a valve, if it has one (R89). -/
def exclusionOf (c : CellCfg) (clearance valve k : Nat) (z : BoardZone) (v : Verdict) : Option Exclusion :=
  match zoneGuard clearance c.maskGuard z v with
  | none => none
  | some g =>
    if bandTouches c valve z g then
      some { lo := (z.x0 : Int) - g, hi := (z.x1 : Int) + g, zone := k, noCoat := z.kind == .noCoat }
    else none

/-- The exclusions of zones from index `k` on, in index order. -/
def exclusionsFrom (c : CellCfg) (clearance valve : Nat) : Nat → List BoardZone → List Verdict → List Exclusion
  | _, [], _ => []
  | k, z :: zs, vs =>
    (exclusionOf c clearance valve k z (vs.headD .pending)).toList ++ exclusionsFrom c clearance valve (k + 1) zs vs.tail

/-- The exclusions for a valve under a recipe and its verdicts (R89). -/
def exclusions (c : CellCfg) (rc : Recipe) (vs : List Verdict) (valve : Nat) : List Exclusion :=
  exclusionsFrom c rc.clearance valve 0 rc.zones vs

/-! ## Pieces (R90) -/

/-- What is left of [o, c) outside one exclusion: the run before it and the run after it, without the empty ones. -/
def cutPiece (e : Exclusion) (p : Nat × Nat) : List (Nat × Nat) :=
  if e.hi < e.lo then [p]
  else
    let left : Nat × Nat := (p.1, (min (p.2 : Int) e.lo).toNat)
    let right : Nat × Nat := ((max (p.1 : Int) (e.hi + 1)).toNat, p.2)
    (if left.1 < left.2 then [left] else []) ++ if right.1 < right.2 then [right] else []

/-- The pieces of a segment's interval (R90), in order of x. -/
def piecesOf (es : List Exclusion) (g : Segment) : List (Nat × Nat) :=
  es.foldl (fun ps e => ps.flatMap (cutPiece e)) (if g.xOpen < g.xClose then [(g.xOpen, g.xClose)] else [])

/-- The schedule intervals of segment `k`: its pieces of at least min_open (R90). -/
def intervalsOf (minOpen k : Nat) (g : Segment) (es : List Exclusion) : List Interval :=
  ((piecesOf es g).filter fun p => decide (minOpen ≤ p.2 - p.1)).map fun p =>
    { valve := g.valve, xOpen := p.1, xClose := p.2, rate := g.rate, segment := k, progress := .armed }

/-! ## Clips (R91) -/

/-- The lowest x of a segment's interval that lies in an exclusion; none where they share no x. -/
def firstShared (g : Segment) (e : Exclusion) : Option Nat :=
  let x := max (g.xOpen : Int) e.lo
  if x ≤ e.hi ∧ x < g.xClose then some x.toNat else none

/-- The lower of two optional numbers. -/
def lowerOf : Option Nat → Option Nat → Option Nat
  | none, b => b
  | a, none => a
  | some a, some b => some (min a b)

/-- The lowest x of a segment's interval that lies in any of some exclusions. -/
def lowestShared (g : Segment) (es : List Exclusion) : Option Nat :=
  es.foldl (fun m e => lowerOf m (firstShared g e)) none

/-- An exclusion contains an x. -/
def Exclusion.holds (e : Exclusion) (x : Nat) : Bool := decide (e.lo ≤ (x : Int)) && decide ((x : Int) ≤ e.hi)

/-- The lowest index among the zones whose exclusion contains an x; the exclusions stand in index order. -/
def zoneAt (es : List Exclusion) (x : Nat) : Nat := ((es.find? fun e => e.holds x).map (·.zone)).getD 0

/-- The clip of a segment by some exclusions. -/
def clipOf (g : Segment) (es : List Exclusion) : Option FirstClip :=
  (lowestShared g es).map fun x => { valve := g.valve, x := x, zone := zoneAt es x }

/-- A recipe conflict: the lowest-index segment clipped by a NO_COAT zone, and where (R91, log 20). -/
structure Conflict where
  segment : Nat
  clip : FirstClip
deriving DecidableEq, Repr

/-- The first conflict from segment `k` on. -/
def conflictFrom (ex : Nat → List Exclusion) : Nat → List Segment → Option Conflict
  | _, [] => none
  | k, g :: gs =>
    match clipOf g ((ex g.valve).filter (·.noCoat)) with
    | some f => some { segment := k, clip := f }
    | none => conflictFrom ex (k + 1) gs

/-- The clips of the segments, in index order. -/
def clipsOf (ex : Nat → List Exclusion) (gs : List Segment) : List FirstClip := gs.filterMap fun g => clipOf g (ex g.valve)

/-! ## The schedule (R92) -/

/-- Order of the schedule: by x_open, then by valve. -/
def Interval.before (a b : Interval) : Bool :=
  decide (a.xOpen < b.xOpen) || (decide (a.xOpen = b.xOpen) && decide (a.valve ≤ b.valve))

/-- An interval put at its place. -/
def insertInterval (i : Interval) : List Interval → List Interval
  | [] => [i]
  | h :: t => if h.before i then h :: insertInterval i t else i :: h :: t

/-- The intervals in schedule order. -/
def sortIntervals (l : List Interval) : List Interval := l.foldl (fun s i => insertInterval i s) []

/-- The intervals of segments from index `k` on. -/
def piecesFrom (minOpen : Nat) (ex : Nat → List Exclusion) : Nat → List Segment → List Interval
  | _, [] => []
  | k, g :: gs => intervalsOf minOpen k g (ex g.valve) ++ piecesFrom minOpen ex (k + 1) gs

/-- What the building of a schedule gives (R90 to R92). -/
structure Built where
  intervals : List Interval
  full : Bool
  clip : ClipRecord
  conflict : Option Conflict
deriving DecidableEq, Repr

/-- The schedule of a recipe under its final verdicts (R89 to R92). -/
def buildSchedule (c : CellCfg) (rc : Recipe) (vs : List Verdict) : Built :=
  let ex := exclusions c rc vs
  let all := sortIntervals (piecesFrom c.minOpen ex 0 rc.segments)
  let clips := clipsOf ex rc.segments
  { intervals := all.take Config.scheduleRoom
    full := decide (Config.scheduleRoom < all.length)
    clip := { count := clips.length, first := clips.head? }
    conflict := conflictFrom ex 0 rc.segments }

/-! ## One count of a pass (R96, R97) -/

/-- What a forward count brings: travelled after it, the 0.1 ms time, the leads in force, and whether opens may fire (R100). -/
structure CountAt where
  travelled : Nat
  now : Nat
  stopToBar : Nat
  openLead : Nat
  closeLead : Nat
  mayOpen : Bool
deriving DecidableEq, Repr

/-- The open event of an interval is due (R96). -/
def CountAt.openDue (c : CountAt) (i : Interval) : Bool := decide (c.stopToBar + i.xOpen ≤ c.travelled + c.openLead)

/-- The close event of an interval is due (R96). -/
def CountAt.closeDue (c : CountAt) (i : Interval) : Bool := decide (c.stopToBar + i.xClose ≤ c.travelled + c.closeLead)

/-- The events of an interval are over: its close has fired or it was passed over. -/
def Interval.finished (i : Interval) : Bool :=
  match i.progress with
  | .closed _ _ | .passedOver => true
  | .armed | .due | .lapsed _ | .opened _ _ _ _ => false

/-- The open time in 0.1 ms, saturating (R105). -/
def openTime (since now : Nat) : Nat := min (now - since) (2 ^ 20 - 1)

/-- The progress of an interval whose open event fires, and the dots it reports (R96, R97). -/
def startOpen (now : Nat) (r : Rate) : Progress × Nat :=
  match r with
  | .spray _ => (.opened now true 0 0, 0)
  | .jet pitch _ => (.opened now true (pitch / 2) 1, 1)

/-- An open interval at a count at which its close is not due: a JET interval's pitch counter falls, and at 0 the valve is switched and the
counter loaded again (R97). No cap stands on the dots: where the open lead exceeds the close lead, the switching may pass the bound
floor(L / pitch) + 1 that R97 gives, and the model lets it (DESIGN CHOICE, log 53). -/
def keepOpen (mayOpen : Bool) (r : Rate) (since : Nat) (on : Bool) (left dots : Nat) : Progress × Nat :=
  match r with
  | .spray _ => (.opened since on left dots, 0)
  | .jet pitch _ =>
    if 1 < left then (.opened since on (left - 1) dots, 0)
    else if on then (.opened since false (pitch / 2) dots, 0)
    else if mayOpen then (.opened since true (pitch / 2) (dots + 1), 1)
    else (.opened since false (pitch / 2) dots, 0)

/-- The open event of an interval that has not fired is due: by its test at this count, or since an earlier count at which it had to
wait (R96). -/
def Interval.ready (c : CountAt) (i : Interval) : Bool :=
  match i.progress with
  | .due | .lapsed true => true
  | .armed | .lapsed false | .opened _ _ _ _ | .closed _ _ | .passedOver => c.openDue i

/-- The close event of an interval whose open has not fired is due: by its test at this count, or since an earlier count, whatever the
lead is by now; such an interval is not opened at all (R93, R96, log 66). -/
def Interval.lapses (c : CountAt) (i : Interval) : Bool :=
  match i.progress with
  | .lapsed _ => true
  | .armed | .due | .opened _ _ _ _ | .closed _ _ | .passedOver => c.closeDue i

/-- The progress of an interval whose open does not fire at a count, by which of its two events have become due. -/
def unfired (openDue closeDue : Bool) : Progress :=
  match closeDue, openDue with
  | true, o => .lapsed o
  | false, true => .due
  | false, false => .armed

/-- What one forward count does to an interval, and the JET_DOTS events it reports. `waits` tells that an earlier interval of the
valve has not finished: an open that is due then waits, and fires at the count at which that one finishes, whatever the lead is by then
(R96). At the count at which its open would fire, an interval whose close has become due is passed over (R93, R96, log 66). -/
def Interval.fire (c : CountAt) (waits : Bool) (i : Interval) : Interval × Nat :=
  match i.progress with
  | .closed _ _ | .passedOver => (i, 0)
  | .opened since on left dots =>
    if c.closeDue i then ({ i with progress := .closed (openTime since c.now) dots }, 0)
    else
      let r := keepOpen c.mayOpen i.rate since on left dots
      ({ i with progress := r.1 }, r.2)
  | .armed | .due | .lapsed _ =>
    if !i.ready c || waits || !c.mayOpen then ({ i with progress := unfired (i.ready c) (i.lapses c) }, 0)
    else if i.lapses c then ({ i with progress := .passedOver }, 0)
    else
      let r := startOpen c.now i.rate
      ({ i with progress := r.1 }, r.2)

/-- The intervals after a forward count, in schedule order, and the number of dots opened (R96, R97). `earlier` are those already
taken at this count. -/
def fireFrom (c : CountAt) (earlier : List Interval) : List Interval → List Interval × Nat
  | [] => (earlier, 0)
  | i :: rest =>
    let r := i.fire c (earlier.any fun e => e.valve == i.valve && !e.finished)
    let t := fireFrom c (earlier ++ [r.1]) rest
    (t.1, r.2 + t.2)

/-- One pending valve event (R92). -/
structure ValveEvent where
  aimed : Nat
  opens : Bool
  valve : Nat
deriving DecidableEq, Repr

/-- Order of the pending valve events (R92): by aimed position, a close before an open, then by valve. -/
def ValveEvent.before (a b : ValveEvent) : Bool :=
  decide (a.aimed < b.aimed) ||
    (decide (a.aimed = b.aimed) && ((!a.opens && b.opens) || (a.opens == b.opens && decide (a.valve ≤ b.valve))))

/-- An event put at its place. -/
def insertEvent (e : ValveEvent) : List ValveEvent → List ValveEvent
  | [] => [e]
  | h :: t => if h.before e then h :: insertEvent e t else e :: h :: t

/-- The events of an interval that have not fired. -/
def Interval.events (i : Interval) : List ValveEvent :=
  match i.progress with
  | .armed | .due | .lapsed _ => [{ aimed := i.xOpen, opens := true, valve := i.valve }, { aimed := i.xClose, opens := false, valve := i.valve }]
  | .opened _ _ _ _ => [{ aimed := i.xClose, opens := false, valve := i.valve }]
  | .closed _ _ | .passedOver => []

/-- The pending valve events of a schedule, in the order of R92. Each fires at the count its own test of R96 chooses; among those of one
valve the order is that of the schedule's intervals, which `fireFrom` keeps. -/
def pendingEvents (l : List Interval) : List ValveEvent := (l.flatMap Interval.events).foldl (fun s e => insertEvent e s) []

/-- A valve stands open for the board: an interval of it is open, and for a JET interval switched on (R93, R97). -/
def valveOpenFor (l : List Interval) (valve : Nat) : Bool :=
  l.any fun i => i.valve == valve &&
    match i.progress with
    | .opened _ on _ _ => on
    | .armed | .due | .lapsed _ | .closed _ _ | .passedOver => false

/-! ## Film (R106 to R108) -/

/-- The film of an interval that closed normally (R106, R107); none for one that did not. -/
def Interval.film (swath : Nat) (i : Interval) : Option Nat :=
  match i.progress, i.rate with
  | .closed t _, .spray flow => some (min (flow * t * 40 / ((i.xClose - i.xOpen) * swath)) 1023)
  | .closed _ dots, .jet _ dotVolume => some (min (dots * dotVolume * 400 / ((i.xClose - i.xOpen) * swath)) 1023)
  | .armed, _ | .due, _ | .lapsed _, _ | .opened _ _ _ _, _ | .passedOver, _ => none

/-- The films of the judged intervals. -/
def filmsOf (swath : Nat) (l : List Interval) : List Nat := l.filterMap (Interval.film swath)

/-- film_min and film_max of the judged films; none where no interval closed normally. -/
def extremes : List Nat → Option (Nat × Nat)
  | [] => none
  | h :: t => some (t.foldl min h, t.foldl max h)

/-- The film result for two extremes under a recipe (R108). -/
def filmResult (rc : Recipe) (e : Nat × Nat) : FilmResult :=
  { min := e.1, max := e.2, margin := clampInt (-1023) 1023 ((e.1 : Int) - rc.hMin) }

end Sys2Proof.Machine
end

