-- ==== Sys2Proof/Machine/Spray.lean ====
section
/-! DEFINITION. The spray sequencer (chapter 5): the spray decision, the claim for a board, the pass with its end and its aborts, the
speed windows, and the purge. -/

namespace Sys2Proof.Machine

/-! ## The record at SPRAY -/

/-- The record at SPRAY changed by a function. -/
def State.atSpray (s : State) (f : Record → Record) : State := { s with table := { s.table with spray := s.table.spray.map f } }

/-- The record at SPRAY stands in a spray state. -/
def State.sprayIs (s : State) (st : SprayState) : Bool :=
  match s.table.spray with
  | some r => r.spray == st
  | none => false

/-- The own claim, held for the board at SPRAY, ended (R125). -/
def State.endBoardClaim (s : State) : State := if s.supply.holder = some .board then s.endClaim else s

/-- The own claim, held for the purge, ended (R125). -/
def State.endPurgeClaim (s : State) : State := if s.supply.holder = some .purge then s.endClaim else s

/-! ## The spray decision (R87) -/

/-- The course of a record at its decision. -/
inductive Course where
  | skip
  | skipMissing
  | wait (rc : Recipe)
deriving DecidableEq, Repr

/-- The tests of R87, in order. A record without a recipe carries a reason and is decided by the first (log 34). -/
def Record.course (r : Record) (rc : Option Recipe) : Course :=
  if r.preSpray then .skip
  else
    match rc with
    | none => .skip
    | some c =>
      if c.step = 0 then .skip
      else if hasStep r.trav.stepsDone c.step then .skip
      else if c.prereq &&& ~~~r.trav.stepsDone ≠ 0 then .skipMissing
      else .wait c

/-- NOTICE RECIPE_CONFLICT (R91). -/
def State.conflictNotice (s : State) (r : Record) (rc : Recipe) (k : Option Conflict) : State :=
  match k with
  | none => s
  | some c =>
    s.notice 10
      (flagByte [r.trav.serial.isSome] ::
        (optWord r.trav.serial ++ be16 rc.crc ++ [byteOf c.segment, byteOf c.clip.valve] ++ half16 c.clip.x ++
          [byteOf c.clip.zone]))

/-- The record at SPRAY set WAITING_SUPPLY with its schedule (R87 order 5, R91, R92). NOTICE RECIPE_CONFLICT is posted before the
CLIPPED event is reported, and so before a NOTICE WATCH that the event brings (DESIGN CHOICE, log 57). -/
def State.startWaiting (s : State) (r : Record) (rc : Recipe) : State :=
  let b := buildSchedule s.cfg rc r.verdicts
  let s1 := s.putRecord .spray ({ r with spray := .waitingSupply, clip := b.clip }.addReasonIf b.full .scheduleFull)
  let s2 := { s1 with spray := { s1.spray with schedule := some b.intervals, abort := none } }
  let s3 := s2.conflictNotice r rc b.conflict
  if 0 < b.clip.count then s3.report .clipped 0 else s3

/-- The spray decision, for a record that comes to rest at SPRAY in NOT_DUE (R87). -/
def State.sprayDecision (s : State) : State :=
  match s.table.spray with
  | none => s
  | some r =>
    if r.spray = .notDue then
      match r.course (r.bound s.store) with
      | .skip => s.putRecord .spray { r with spray := .skipped }
      | .skipMissing => s.putRecord .spray ({ r with spray := .skipped }.addReason .stepMissing)
      | .wait rc => s.startWaiting r rc
    else s

/-! ## The claim for a board (R94) -/

/-- The schedule of a record that waits for supply holds an interval. -/
def State.scheduleHolds (s : State) : Bool := s.spray.schedule.any fun l => !l.isEmpty

/-- The conditions of R94 for asking for a claim. -/
def State.boardClaimDue (s : State) : Bool :=
  s.sprayIs .waitingSupply && s.scheduleHolds && s.isFree .gate && !s.tracker.hold && !s.purgeHoldsBar &&
    s.supply.own == .none

/-- The pass_limit of the recipe of the record at SPRAY. -/
def State.passLimit (s : State) : Nat := ((s.table.spray.bind fun r => r.bound s.store).map (·.passLimit)).getD 0

/-- The claim for the board at SPRAY is asked for when it is due (R94, R115). -/
def State.tryBoardClaim (s : State) : State :=
  if s.boardClaimDue then
    s.askClaim .board (s.table.spray.bind fun r => r.trav.serial) (s.passLimit * 10)
  else s

/-- CLAIM_REQUEST (R94). -/
def execClaimRequest (s : State) : Result := .next (s.live State.tryBoardClaim)

/-! ## The end of a pass (R98, R103, R108) -/

/-- A film result written into a record, with its reasons (R108). -/
def Record.withFilm (r : Record) (rc : Recipe) (e : Nat × Nat) : Record :=
  ({ r with film := some (filmResult rc e) }.addReasonIf (decide (e.1 < rc.hMin)) .filmThin).addReasonIf
    (decide (rc.hMax < e.2)) .filmThick

/-- The intervals of the schedule. -/
def State.intervals (s : State) : List Interval := s.spray.schedule.getD []

/-- The end of the spraying of the record at SPRAY (R98, R103): its spray end time is set, and flash and pot timing start (R141); the
film is judged over extremes, where there are any, and reported; and the schedule is discarded. Travelled keeps the value it had last
until the next pass starts (DESIGN CHOICE, log 60). -/
def State.finishSpray (s : State) (f : Record → Record) (e : Option (Nat × Nat)) : State :=
  let s0 := { s with spray := { s.spray with schedule := none, abort := none } }
  match s.table.spray with
  | none => s0
  | some r =>
    let r1 := { f r with sprayEnd := some s.seconds, elapsed := 0 }
    match e, r.bound s.store with
    | some x, some rc => (s0.putRecord .spray (r1.withFilm rc x)).report .filmMargin (filmResult rc x).margin
    | _, _ => s0.putRecord .spray r1

/-- The pass ends (R98): DONE, with film 0 where no interval was judged (R108). -/
def State.passEnd (s : State) : State :=
  s.finishSpray (fun r => { r with spray := .done }) (some ((extremes (filmsOf s.cfg.swath s.intervals)).getD (0, 0)))

/-- The abort takes effect (R103): ABORTED, judged over the intervals closed normally alone, and the claim ended. -/
def State.abortPass (s : State) : State :=
  (s.finishSpray (fun r => { r with spray := .aborted }.addReason .sprayAborted)
    (extremes (filmsOf s.cfg.swath s.intervals))).endBoardClaim

/-- An abort is requested of a pass that is SPRAYING (R100); further requests have no effect. -/
def State.requestAbort (s : State) : State :=
  if s.sprayIs .spraying ∧ s.spray.abort = none then
    { s with spray := { s.spray with abort := some Config.stallTime } }
  else s

/-! ## The pass (R95) -/

/-- The pass of the record at SPRAY may start: R95 for a schedule with intervals and for an empty one. -/
def State.passDue (s : State) : Bool :=
  s.sprayIs .waitingSupply && s.isFree .gate && !s.tracker.hold &&
    match s.spray.schedule with
    | none => false
    | some [] => !s.purgeHoldsBar
    | some (_ :: _) => s.supply.own == .granted && s.supply.holder == some .board

/-- The start of the pass (R95): SPRAYING, travelled 0, the events armed, and the move SPRAY to GATE under way. -/
def State.startPass (s : State) : State :=
  { s.atSpray (fun r => { r with spray := .spraying }) with
    spray := { s.spray with
      travelled := 0, abort := none,
      schedule := s.spray.schedule.map fun l => l.map fun i => { i with progress := .armed } }
    tracker := { s.tracker with moves := { s.tracker.moves with toGate := true } } }

/-- The pass starts when it is due (R95); that of an empty schedule ends in the same event (R98). -/
def State.tryPass (s : State) : State :=
  if s.passDue then
    if s.scheduleHolds then s.startPass else s.startPass.passEnd
  else s

/-- PASS_START (R95). -/
def execPassStart (s : State) : Result := .next (s.live State.tryPass)

/-! ## Encoder counts (R85, R96, R97, R100) -/

/-- The count a forward spray encoder count brings to the schedule. -/
def State.countAt (s : State) : CountAt :=
  { travelled := min (s.spray.travelled + 1) 65535, now := s.spray.tenths, stopToBar := s.cfg.stopToBar,
    openLead := s.openLead, closeLead := s.closeLead, mayOpen := s.spray.abort.isNone }

/-- A number of JET_DOTS events reported (R97). Each event is counted by every counter before the next is reported, so the counter order
of R197 holds within one event and does not span them (DESIGN CHOICE, log 61). -/
def State.reportDots (s : State) : Nat → State
  | 0 => s
  | n + 1 => (s.report .jetDots 0).reportDots n

/-- A forward count of a pass: travelled rises and the due events fire (R96, R97); then a pending abort takes effect (R100), or the pass
ends when every interval is finished (R98). -/
def State.passForward (s : State) : State :=
  let out := fireFrom s.countAt [] s.intervals
  let s1 := { s with spray := { s.spray with travelled := s.countAt.travelled, schedule := some out.1 } }.reportDots out.2
  if s.spray.abort.isSome then s1.abortPass
  else if out.1.all (·.finished) then s1.passEnd.endBoardClaim
  else s1

/-- A reverse count of a pass requests an abort, or is the next count after a request (R100). -/
def State.passReverse (s : State) : State := if s.spray.abort.isSome then s.abortPass else s.requestAbort

/-- A forward count for the speed window (R86). -/
def Sprayer.windowed (sp : Sprayer) : Sprayer := { sp with windowCount := min (sp.windowCount + 1) 255 }

/-- A spray encoder count (R85). -/
def State.sprayCount (s : State) (dir : Direction) : State :=
  match dir with
  | .forward =>
    let s1 := { s with spray := s.spray.windowed }
    if s1.sprayIs .spraying then s1.passForward else s1
  | .reverse => if s.sprayIs .spraying then s.passReverse else s

/-- An edge of the count track gives a count (R84). -/
def EncoderEdge.takes (e : EncoderEdge) (rising : Bool) : Bool :=
  match e with
  | .both => true
  | .rising => rising

/-- SPRAY_ENCODER_COUNT (R85, R96, R100): the 0.1 ms time base has advanced by `elapsed` (log 18). -/
def execSprayEncoderCount (dir : Direction) (rising : Bool) (elapsed : Nat) (s : State) : Result :=
  .next (s.live fun t =>
    let s1 := { t with spray := { t.spray with tenths := t.spray.tenths + elapsed } }
    if s1.cfg.edge.takes rising then s1.sprayCount dir else s1)

/-- PASS_STALL_TIMEOUT (R100). -/
def execPassStallTimeout (s : State) : Result :=
  .next (s.when (s.loaded && s.sprayIs .spraying && s.spray.abort.isSome) State.abortPass)

/-- SPEED_WINDOW_END (R86): the count of the window is taken into n. -/
def execSpeedWindowEnd (s : State) : Result :=
  .next (s.live fun t => { t with spray := { t.spray with speed := min t.spray.windowCount 255, windowCount := 0 } })

/-! ## Purge (R109 to R111) -/

/-- The conditions of R109 for asking for a purge claim. -/
def State.purgeClaimDue (s : State) : Bool :=
  s.spray.purge == .requested && s.isFree .spray && !s.tracker.hold && s.supply.own == .none

/-- The purge claim is asked for when it is due (R109, R115). -/
def State.tryPurgeClaim (s : State) : State :=
  if s.purgeClaimDue then
    { s with spray := { s.spray with purge := .claiming } }.askClaim .purge none ((s.cfg.purgeTime + 10) * 10)
  else s

/-- PURGE_CLAIM_REQUEST (R109). -/
def execPurgeClaimRequest (s : State) : Result := .next (s.live State.tryPurgeClaim)

/-- The purge ends (R110): the valves close, the claim is ended, the mark is cleared, and purge end is reported to the watch counters. -/
def State.purgeEnd (s : State) : State :=
  let s1 := s.endPurgeClaim
  { s1 with spray := { s1.spray with purge := .none, purgeTimer := none, purgeMark := false } }.completeAction .purge

/-- A purge, claimed or under way, goes back to REQUESTED (R109, R111): the valves close, the timer stops, and the bar is free
(log 48). -/
def Sprayer.purgeBack (sp : Sprayer) : Sprayer := { sp with purge := .requested, purgeTimer := none }

/-- A purge claimed or under way is interrupted by the guard, and its claim ended (R109, R111). -/
def State.purgeInterrupt (s : State) : State :=
  if s.purgeHoldsBar then { s.endPurgeClaim with spray := s.endPurgeClaim.spray.purgeBack } else s

end Sys2Proof.Machine
end

