-- ==== Sys2Proof/Machine/Rack.lean ====
section
/-! DEFINITION. The hold manager (chapter 9): diversion at EXIT, the hold list and its near-full threshold, release, and the lot
filters. The commands that end in a move or a claim stand in Edges.lean and Inbound.lean. -/

namespace Sys2Proof.Machine

/-! ## Diversion (R168 to R171) -/

/-- The record at EXIT with another diversion state. -/
def State.setDiversion (s : State) (d : Diversion) : State :=
  { s with table := { s.table with exit := s.table.exit.map fun r => { r with diversion := some d } } }

/-- The record at EXIT waits for a rack position (R168). -/
def State.waitsForRack (s : State) : Bool :=
  match s.table.exit with
  | some r => r.diversion == some .waitingRack
  | none => false

/-- A record in WAITING_RACK starts its diversion when a rack position is free and no drive hold is in force: the lowest free position
becomes its target (R168), and the rack select output takes it (R169). -/
def State.tryDiversion (s : State) : State :=
  if s.waitsForRack && !s.tracker.hold then
    match s.lowestFreeRack with
    | some t => { s.setDiversion (.diverting t) with holds := { s.holds with rackSelect := t } }
    | none => s
  else s

/-- DIVERSION_START (R168). -/
def execDiversionStart (s : State) : Result := .next (s.live State.tryDiversion)

/-- The near-full test (R174), after each change of the rack count. -/
def State.nearFullTest (s : State) : State :=
  let count := s.holds.list.length
  if s.cfg.nearFull ≤ count then
    if s.holds.nearFull then s
    else { s with holds := { s.holds with nearFull := true } }.notice 5 [byteOf count, byteOf s.cfg.nearFull]
  else { s with holds := { s.holds with nearFull := false } }

/-- An entry appended to the hold list (R165). -/
def State.appendHold (s : State) (e : HoldEntry) : State := { s with holds := { s.holds with list := s.holds.list ++ [e] } }

/-- The entry of a diverted record (R165, R170). -/
def heldEntry (t : Fin 8) (v : Traveller) (now : Seconds) : HoldEntry :=
  { rack := t, serial := v.serial, variantLot := some (v.variant, v.lot), reasons := v.reasons, time := now, state := .held }

/-- The entry of a board that no diversion brought (R180, R187). -/
def strandedEntry (t : Fin 8) (now : Seconds) : HoldEntry :=
  { rack := t, serial := none, variantLot := none, reasons := reasonBit .stranded, time := now, state := .held }

/-- The body of NOTICE HOLD_PLACED (R171, section 11.6). -/
def holdPlacedBody (t : Fin 8) (r : Record) (now : Seconds) : List Byte :=
  let v := r.trav
  let c := r.clip.first
  byteOf t.val ::
    flagByte [v.serial.isSome, v.readSerial.isSome, v.length.isSome, v.snapshot.isSome, c.isSome] ::
    (optWord v.serial ++ optWord v.readSerial ++ be16 v.variant ++ be16 v.lot ++ be24 v.reasons ++ be32 now ++
      [v.stepsDone.setWidth 8, byteOf v.results.length] ++ be16 (v.length.getD 0) ++
      [(v.snapshot.getD 0).setWidth 8, byteOf r.clip.count, byteOf ((c.map (·.valve)).getD 0)] ++
      half16 ((c.map (·.x)).getD 0) ++ [byteOf ((c.map (·.zone)).getD 0)])

/-- The completion of a diversion (R170, R171): the record leaves, its entry is made, the notice is posted, the event is reported and the
near-full test is made. -/
def State.completeDiversion (s : State) (r : Record) (t : Fin 8) : State :=
  ((((s.leave .exit).appendHold (heldEntry t r.trav s.seconds)).notice 4 (holdPlacedBody t r s.seconds)).report .holdPlaced
    0).nearFullTest

/-- A rack sensor's filtered level stands occupied. -/
def State.rackOccupied (s : State) (t : Fin 8) : Bool := s.inputs.rack[t].level == some true

/-- The completion test of R170. -/
def State.diversionTest (s : State) : State :=
  match s.table.exit, s.target with
  | some r, some t => if s.rackOccupied t && s.sensorEmpty .exit then s.completeDiversion r t else s
  | _, _ => s

/-! ## Rack edges (R167, R179, R180) -/

/-- The entry at a rack position. -/
def State.entryAt (s : State) (t : Fin 8) : Option HoldEntry := s.holds.list.find? fun e => e.rack == t

/-- NOTICE RACK_TAKEN (R179), for an entry that was HELD. -/
def State.rackTaken (s : State) (e : HoldEntry) : State :=
  match e.state with
  | .held =>
    s.notice 6
      (byteOf e.rack.val :: flagByte [e.serial.isSome, e.variantLot.isSome] ::
        (optWord e.serial ++ be16 ((e.variantLot.map (·.1)).getD 0) ++ be16 ((e.variantLot.map (·.2)).getD 0) ++
          be24 e.reasons ++ be32 e.time))
  | .releasedRework | .releasedScrap => s

/-- An entry removed because its board was taken out (R179); the near-full test follows. -/
def State.removeEntry (s : State) (e : HoldEntry) : State :=
  ({ s with holds := { s.holds with list := s.holds.list.filter fun h => h.rack != e.rack } }.rackTaken e).nearFullTest

/-- An edge at a rack sensor, by the first rule of R167 that applies. -/
def State.rackEdge (s : State) (t : Fin 8) (occupied : Bool) : State :=
  if s.target = some t then s.diversionTest
  else
    match s.entryAt t, occupied with
    | some e, false => s.removeEntry e
    | none, true => (s.appendHold (strandedEntry t s.seconds)).nearFullTest
    | some _, true | none, false => s

/-! ## Release (R176, R177) -/

/-- A RELEASE that passes R176: 6 bytes, a selector kind, a rack position 0..7 for POSITION, and a disposition. -/
def releaseOk (p : List Byte) : Bool :=
  decide (p.length = 6) && decide (byteAt p 0 = 1 ∨ byteAt p 0 = 2 ∧ (wordAt p 1).toNat ≤ 7) &&
    decide (byteAt p 5 = 1 ∨ byteAt p 5 = 2)

/-- The selector of a RELEASE names an entry (R177). -/
def selects (p : List Byte) (e : HoldEntry) : Bool :=
  if byteAt p 0 = 1 then e.serial == some (wordAt p 1) else decide ((wordAt p 1).toNat = e.rack.val)

/-- The answer codes of RELEASE_ANSWER (section 11.6). -/
inductive ReleaseCode where
  | released | notHeld | alreadyReleased | malformed
deriving DecidableEq, Repr

def ReleaseCode.code : ReleaseCode → Byte
  | .released => 1
  | .notHeld => 2
  | .alreadyReleased => 3
  | .malformed => 4

/-- RELEASE_ANSWER (R177): the selector as received, the code, and the entry found, in its state after the RELEASE. -/
def releaseAnswer (selector : List Byte) (c : ReleaseCode) (e : Option HoldEntry) : List Byte :=
  let serial := e.bind (·.serial)
  selector ++ [c.code, flagByte [e.isSome, serial.isSome], byteOf ((e.map (·.rack.val)).getD 0)] ++ optWord serial ++
    [(e.map (·.state.code)).getD 0]

/-- The state a disposition gives (R177). -/
def disposed (b : Byte) : HoldState := if b = 1 then .releasedRework else .releasedScrap

/-- The entry at a rack position in another state. -/
def State.setHoldState (s : State) (t : Fin 8) (st : HoldState) : State :=
  { s with holds := { s.holds with list := s.holds.list.map fun e => if e.rack = t then { e with state := st } else e } }

/-- A RELEASE taken from the inbound queue (R176, R177). A MALFORMED answer carries the selector as it was read; bytes its payload does
not hold are free values (log 15). -/
def State.takeRelease (s : State) (t : Telegram) : State :=
  let p := t.payload
  if !releaseOk p then
    { s with free := s.free + (5 - p.length) }.post t.src kindReleaseAnswer
      (releaseAnswer ((withFree p 5 s.free).take 5) .malformed none)
  else
    match s.holds.list.find? (selects p) with
    | none => s.post t.src kindReleaseAnswer (releaseAnswer (p.take 5) .notHeld none)
    | some e =>
      match e.state with
      | .held =>
        (s.setHoldState e.rack (disposed (byteAt p 5))).post t.src kindReleaseAnswer
          (releaseAnswer (p.take 5) .released (some { e with state := disposed (byteAt p 5) }))
      | .releasedRework | .releasedScrap =>
        s.post t.src kindReleaseAnswer (releaseAnswer (p.take 5) .alreadyReleased (some e))

/-! ## Lot filters (R181 to R185) -/

/-- The numbers of the filter slots, lowest first. -/
def filterSlots : List (Fin 8) := [0, 1, 2, 3, 4, 5, 6, 7]

/-- The filter a LOT_HOLD carries. -/
def filterAt (p : List Byte) : LotFilter :=
  { id := byteAt p 0, variantBase := halfAt p 1, variantMask := halfAt p 3, lotBase := halfAt p 5, lotMask := halfAt p 7 }

/-- A filter slot holds a filter of an id. -/
def State.slotHolds (s : State) (id : Byte) (k : Fin 8) : Bool := s.holds.filters[k].any fun f => f.id == id

/-- The slot a filter is stored in (R181): that of the same id, or the lowest empty one. -/
def State.filterSlot (s : State) (id : Byte) : Option (Fin 8) :=
  match filterSlots.find? (s.slotHolds id) with
  | some k => some k
  | none => filterSlots.find? fun k => s.holds.filters[k].isNone

/-- A filter slot's contents replaced. -/
def State.setFilter (s : State) (k : Fin 8) (f : Option LotFilter) : State :=
  { s with holds := { s.holds with filters := s.holds.filters.set k.val f k.isLt } }

/-- A record that a filter matches gains LOT_HOLD (R182, R183). -/
def LotFilter.mark (f : LotFilter) (r : Record) : Record := r.addReasonIf (f.hits r.trav.variant r.trav.lot) .lotHold

/-- A filter matches the record at a position. -/
def State.filterHits (s : State) (f : LotFilter) (p : Position) : Bool :=
  match s.table.get p with
  | some r => f.hits r.trav.variant r.trav.lot
  | none => false

/-- A record that waits for supply becomes SKIPPED: its claim is ended and its schedule discarded (R94, R183). -/
def State.skipWaiting (s : State) : State :=
  if s.sprayIs .waitingSupply then
    let s1 := (s.atSpray fun r => { r with spray := .skipped }).endBoardClaim
    { s1 with spray := { s1.spray with schedule := none } }
  else s

/-- A record that is OFFERED has its offer withdrawn and is handed for diversion (R33, R183). -/
def State.divertOffered (s : State) : State :=
  match s.exitHandoff with
  | some (.offered _ _) => (s.withdrawKind kindOffer).handForDiversion
  | _ => s

/-- A new filter applied to every record of the table (R183). The claim of a record at SPRAY is ended, with its SUPPLY_DONE, before the
OFFER of a record at EXIT is withdrawn (DESIGN CHOICE, log 54). -/
def State.applyFilter (s : State) (f : LotFilter) : State :=
  let s1 := s.mapRecords fun _ r => f.mark r
  let s2 := if s.filterHits f .spray then s1.skipWaiting else s1
  if s.filterHits f .exit then s2.divertOffered else s2

/-- A LOT_HOLD taken from the inbound queue (R181). -/
def State.takeLotHold (s : State) (t : Telegram) : State :=
  let f := filterAt t.payload
  if t.payload.length ≠ 9 ∨ f.id = 0 then s
  else
    match s.filterSlot f.id with
    | some k => (s.setFilter k (some f)).applyFilter f
    | none => s.notice 11 [f.id]

/-- A filter slot after a LOT_LIFT of an id (R185): id 0 empties every slot. -/
def liftSlot (id : Byte) (o : Option LotFilter) : Option LotFilter :=
  match o with
  | some f => if id = 0 ∨ f.id = id then none else some f
  | none => none

/-- A LOT_LIFT taken from the inbound queue (R185). -/
def State.takeLotLift (s : State) (t : Telegram) : State :=
  if t.payload.length ≠ 1 then s
  else
    { s with holds := { s.holds with filters := s.holds.filters.mapIdx fun _ o => liftSlot (byteAt t.payload 0) o } }

end Sys2Proof.Machine
end

