-- ==== Sys2Proof/Machine/RecipeStore.lean ====
section
/-! DEFINITION. The recipe store (chapter 3): assembly of fragments, the checks and the commit, activation, drop, matching and
binding. -/

namespace Sys2Proof.Machine

/-! ## Answers (R63) -/

/-- The codes of RECIPE_ANSWER. -/
inductive RecipeCode where
  | staged | badCheck | badContent | noRoom | assemblyBroken | notAssembling | malformed | badSlot | activated
  | nothingStaged | dropped | nothingActive
deriving DecidableEq, Repr

def RecipeCode.code : RecipeCode → Byte
  | .staged => 1
  | .badCheck => 2
  | .badContent => 3
  | .noRoom => 4
  | .assemblyBroken => 5
  | .notAssembling => 6
  | .malformed => 7
  | .badSlot => 8
  | .activated => 9
  | .nothingStaged => 10
  | .dropped => 11
  | .nothingActive => 12

/-- A RECIPE_ANSWER posted to the source of the telegram it answers (R63). -/
def State.recipeAnswer (s : State) (dst slot : Byte) (code : RecipeCode) (more : List Byte) : State :=
  s.post dst kindRecipeAnswer (slot :: code.code :: more)

/-! ## The store's records -/

/-- The numbers of the records, lowest first. -/
def recordNumbers : List (Fin 12) := [0, 1, 2, 3, 4, 5, 6, 7, 8, 9, 10, 11]

/-- The numbers of the recipe slots, lowest first. -/
def slotNumbers : List (Fin 8) := [0, 1, 2, 3, 4, 5, 6, 7]

/-- The lowest-numbered FREE record (R56). -/
def Store.lowestFree (st : Store) : Option (Fin 12) := recordNumbers.find? fun i => st.records[i].isFree

def Store.setRecord (st : Store) (i : Fin 12) (c : RecipeCell) : Store :=
  { st with records := st.records.set i.val c i.isLt }

def Store.setSlot (st : Store) (k : Fin 8) (r : RecipeSlot) : Store := { st with slots := st.slots.set k.val r k.isLt }

/-- A record named before, if any, becomes FREE (R56, step 4). -/
def Store.freeOld (st : Store) (old : Option (Fin 12)) : Store :=
  match old with
  | some i => st.setRecord i .free
  | none => st

def Store.countRetiring (st : Store) : Nat := (st.records.toList.filter RecipeCell.isRetiring).length
def Store.countFree (st : Store) : Nat := (st.records.toList.filter RecipeCell.isFree).length

/-- The CRC of the recipe a record holds. -/
def Store.crcOf (st : Store) (i : Fin 12) : Option Half := st.records[i].recipe.map (·.crc)

/-- Steps 1 to 4 of R56: the lowest FREE record is filled and clamped (ASSEMBLED), staged in the slot, and the record staged there before
becomes FREE. -/
def Store.stage (st : Store) (slot : Fin 8) (i : Fin 12) (r : Recipe) : Store :=
  let assembled := st.setRecord i (.assembled r)
  let staged := assembled.setRecord i (.staged r)
  let old := st.slots[slot].staged
  (staged.setSlot slot { st.slots[slot] with staged := some i }).freeOld old

/-! ## Commit (R53 to R56) -/

/-- A BAD_CHECK answer: the CRC received where the image was long enough to hold one (R53, log 33). -/
def badCheckFields (im : List Byte) : List Byte :=
  if 2 ≤ im.length then 1 :: be16 (imageCrc im) else [0, 0, 0]

/-- The assembled image committed to a slot, with the answer to the last fragment's source. -/
def State.commit (s : State) (dst : Byte) (slot : Fin 8) (im : List Byte) : State :=
  let echo := byteOf slot.val
  if !imageFormOk im then s.recipeAnswer dst echo .badCheck (badCheckFields im)
  else
    match contentFault s.cfg.valveCount im with
    | some (item, c) => s.recipeAnswer dst echo .badContent [byteOf item, c.code]
    | none =>
      match s.store.lowestFree with
      | none => s.recipeAnswer dst echo .noRoom [byteOf s.store.countRetiring]
      | some i =>
        { s with store := s.store.stage slot i (recipeOf im) }.recipeAnswer dst echo .staged
          (byteOf i.val :: (be16 (imageCrc im) ++ clampSet im))

/-! ## Fragments (R50 to R52) -/

/-- The assembler in another state. -/
def State.setAssembler (s : State) (a : Assembler) : State := { s with store := { s.store with assembler := a } }

/-- A partial assembly is discarded other than by its commit: the ASSEMBLY_BROKEN flag is set (R64). -/
def State.breakAssembly (s : State) : State :=
  { s with store := { s.store with assembler := .idle }, link := { s.link with assemblyBroken := true } }

/-- A RECIPE_PART payload fits its layout (R50, R217): 2 to 62 bytes, bits 6..4 of the fragment byte 0. -/
def partFits (p : List Byte) : Bool :=
  decide (2 ≤ p.length) && decide (p.length ≤ 62) && decide ((byteAt p 1 &&& 0x70) = 0)

/-- A partial assembly is in progress. -/
def State.assemblyOpen (s : State) : Bool :=
  match s.store.assembler with
  | .idle => false
  | .assembling _ _ _ => true

/-- Data taken in sequence: the last fragment commits (R51); fragment 15 without the last flag breaks the assembly (R52); any other
leaves it waiting for the next number. -/
def State.takeData (s : State) (dst : Byte) (slot : Fin 8) (n : Nat) (last : Bool) (data : List Byte) : State :=
  if last then (s.setAssembler .idle).commit dst slot data
  else if n = 15 then s.breakAssembly.recipeAnswer dst (byteOf slot.val) .assemblyBroken [byteOf n, byteOf n]
  else s.setAssembler (.assembling slot (n + 1) data)

/-- A fragment that passes the form test (R51, R52). -/
def State.takeFragment (s : State) (dst : Byte) (slot : Fin 8) (n : Nat) (last : Bool) (data : List Byte) : State :=
  if n = 0 then (if s.assemblyOpen then s.breakAssembly else s).takeData dst slot 0 last data
  else
    match s.store.assembler with
    | .idle => s.recipeAnswer dst (byteOf slot.val) .notAssembling [byteOf n, 0, 0]
    | .assembling k next buf =>
      if k ≠ slot then s.recipeAnswer dst (byteOf slot.val) .notAssembling [byteOf n, 1, byteOf k.val]
      else if n = next then s.takeData dst slot n last (buf ++ data)
      else s.breakAssembly.recipeAnswer dst (byteOf slot.val) .assemblyBroken [byteOf n, byteOf next]

/-- A slot number 0..7, if the byte holds one (R50, R57, R58). -/
def slotOf (b : Byte) : Option (Fin 8) := if h : b.toNat < 8 then some ⟨b.toNat, h⟩ else none

/-- A RECIPE_PART taken from the inbound queue (R50). A MALFORMED answer echoes the slot as it was read; where the payload holds no
byte, that is a free value (log 15). -/
def State.takeRecipePart (s : State) (t : Telegram) : State :=
  let p := t.payload
  if !partFits p then
    { s with free := s.free + (1 - p.length) }.recipeAnswer t.src (byteAt (withFree p 1 s.free) 0) .malformed []
  else
    match slotOf (byteAt p 0) with
    | none => s.recipeAnswer t.src (byteAt p 0) .badSlot []
    | some slot =>
      s.takeFragment t.src slot ((byteAt p 1).toNat % 16) ((byteAt p 1).getLsbD 7) (p.drop 2)

/-! ## Activation and drop (R57, R58) -/

/-- An active record that its slot no longer names: RETIRING while a board references it, otherwise FREE (R57, R58). -/
def retired (c : RecipeCell) (refs : Nat) : RecipeCell :=
  match c.recipe with
  | some r => if 0 < refs then .retiring r else .free
  | none => .free

/-- The state code a retired record is answered with: 0 FREE, 1 RETIRING. -/
def retiredCode (c : RecipeCell) : Byte := if c.isRetiring then 1 else 0

/-- RECIPE_ACTIVATE and RECIPE_DROP carry one byte (R217). -/
def slotFits (p : List Byte) : Bool := decide (p.length = 1)

/-- A record made ACTIVE (R57). -/
def activated (c : RecipeCell) : RecipeCell :=
  match c.recipe with
  | some r => .active r
  | none => c

/-- A RECIPE_ACTIVATE taken from the inbound queue (R57). -/
def State.takeActivate (s : State) (t : Telegram) : State :=
  if !slotFits t.payload then s
  else
    let echo := byteAt t.payload 0
    match slotOf echo with
    | none => s.recipeAnswer t.src echo .badSlot []
    | some k =>
      match s.store.slots[k].staged with
      | none => s.recipeAnswer t.src echo .nothingStaged []
      | some i =>
        let st1 := (s.store.setRecord i (activated s.store.records[i])).setSlot k { active := some i, staged := none }
        match s.store.slots[k].active with
        | none =>
          { s with store := st1 }.recipeAnswer t.src echo .activated
            (byteOf i.val :: (be16 ((st1.crcOf i).getD 0) ++ [0, 0, 0, 0]))
        | some old =>
          let cell := retired s.store.records[old] (s.refCount old)
          { s with store := st1.setRecord old cell }.recipeAnswer t.src echo .activated
            (byteOf i.val :: (be16 ((st1.crcOf i).getD 0) ++ [1] ++ be16 ((s.store.crcOf old).getD 0) ++ [retiredCode cell]))

/-- A RECIPE_DROP taken from the inbound queue (R58). -/
def State.takeDrop (s : State) (t : Telegram) : State :=
  if !slotFits t.payload then s
  else
    let echo := byteAt t.payload 0
    match slotOf echo with
    | none => s.recipeAnswer t.src echo .badSlot []
    | some k =>
      match s.store.slots[k].active with
      | none => s.recipeAnswer t.src echo .nothingActive []
      | some old =>
        let cell := retired s.store.records[old] (s.refCount old)
        let st := (s.store.setRecord old cell).setSlot k { s.store.slots[k] with active := none }
        { s with store := st }.recipeAnswer t.src echo .dropped (be16 ((s.store.crcOf old).getD 0) ++ [retiredCode cell])

/-! ## Matching and binding (R60, R61) -/

/-- The first active record, in slot order, that matches (R60). -/
def Store.matching (st : Store) (variant : Half) (side : Side) : Option (Fin 12 × Recipe) :=
  slotNumbers.findSome? fun k =>
    match st.slots[k].active with
    | none => none
    | some i =>
      match st.records[i].recipe with
      | some r => if r.hits variant side then some (i, r) else none
      | none => none

/-- A record at the start of its move out of ENTRY: bound to the match with one PENDING verdict a zone, or given NO_RECIPE (R61). -/
def Record.bind (r : Record) (found : Option (Fin 12 × Recipe)) : Record :=
  match found with
  | some (i, rc) => { r with recipe := some i, verdicts := rc.zones.map fun _ => .pending }
  | none => { r with recipe := none, verdicts := [] }.addReason .noRecipe

/-- The binding of a record leaving ENTRY (R12, R61): STRANDED records, and records leaving ENTRY in CLEAR_OUT, are bound to none. -/
def State.bindRecord (s : State) (r : Record) : Record :=
  if r.madeStranded = true ∨ s.cell = .clearOut then r
  else r.bind (s.store.matching r.trav.variant r.trav.sideUp)

end Sys2Proof.Machine
end

