-- ==== Sys2Proof/Machine/Tunnel.lean ====
section
/-! DEFINITION. The cure tunnel controller (chapter 7): dwell, expiry and extension, the start and timeout of an index, the cure
tick and the zone readings. The index-done event stands in Edges.lean, with the checks it shares with the sensors. -/

namespace Sys2Proof.Machine

/-! ## The index -/

/-- The record at GATE passes the admission test (R136). -/
def State.admissible (s : State) : Bool :=
  match s.table.gate with
  | none => false
  | some r =>
    match r.sprayedHere, r.bound s.store with
    | true, some rc => decide (rc.flashMin ≤ r.elapsed)
    | _, _ => true

/-- A record stands in at least one slot. -/
def State.slotsHold (s : State) : Bool := slotPositions.any fun p => !s.isFree p

/-- The start test of R135. -/
def State.indexDue (s : State) : Bool :=
  s.tunnel.phase == .indexPending && s.isFree .exit && s.runState == .running && (s.slotsHold || s.admissible)

/-- A pending index starts when its test passes (R135, R137). -/
def State.tryIndex (s : State) : State :=
  if s.indexDue then
    { s with tunnel := { s.tunnel with
        phase := .indexing, drive := true, timeout := some Config.indexTime, carriesGate := s.admissible } }
  else s

/-- INDEX_START (R135, R137). -/
def execIndexStart (s : State) : Result := .next (s.live State.tryIndex)

/-- The number of records the index under way carries (R137, R140). -/
def State.carried (s : State) : Nat :=
  (slotPositions.filter fun p => !s.isFree p).length + if s.tunnel.carriesGate && !s.isFree .gate then 1 else 0

/-- The index timeout expires: the drive is released and the tunnel enters FAULT (R140). -/
def State.indexTimeout (s : State) : State :=
  { s with tunnel := { s.tunnel with drive := false, timeout := none, fault := true } }.notice 8 [1, byteOf s.carried]

/-- INDEX_TIMEOUT (R140): it can expire only while it runs. -/
def execIndexTimeout (s : State) : Result :=
  .next (s.when (s.loaded && s.tunnel.phase == .indexing && s.tunnel.timeout.isSome && !s.tunnel.fault) State.indexTimeout)

/-! ## Dwell -/

/-- An expiry (R133): an extension is taken in RUN when its test passes; otherwise the index falls due and its start test is
made. -/
def State.expiry (s : State) : State :=
  if s.cell = .run ∧ s.canExtend = true then
    { s with tunnel := { s.tunnel with
        dwell := s.cfg.extensionStep, extensionUsed := s.tunnel.extensionUsed + s.cfg.extensionStep } }
  else { s with tunnel := { s.tunnel with dwell := 0, phase := .indexPending } }.tryIndex

/-- The dwell timer counts: the tunnel is RUNNING in DWELL with time left (R132). -/
def State.dwellCounts (s : State) : Bool :=
  s.runState == .running && s.tunnel.phase == .dwell && decide (0 < s.tunnel.dwell)

/-- Step 3 of the cure tick (R131, R132). -/
def State.dwellTick (s : State) : State :=
  if s.dwellCounts then
    if s.tunnel.dwell = 1 then s.expiry else { s with tunnel := { s.tunnel with dwell := s.tunnel.dwell - 1 } }
  else s

/-- DWELL_EXPIRY (R133): the dwell timer, while it counts, reaches 0 (log 4). -/
def execDwellExpiry (s : State) : Result := .next (s.when (s.loaded && s.dwellCounts) State.expiry)

/-! ## The probe port -/

/-- A zone is fitted (R129). -/
def State.fitted (s : State) (z : Zone) : Bool := decide (zoneIndex z < s.cfg.zoneCount)

/-- A read of a zone is started, with the next request number (R143). -/
def State.startRead (s : State) (z : Zone) : State :=
  { s with tunnel := { s.tunnel with
      poll := some { zone := z, timer := Config.probeTime }, probeRequest := s.tunnel.probeRequest + 1 } }

/-- Step 5 of the cure tick: a new poll begins with zone A (R131, R143, log 22). -/
def State.startPoll (s : State) : State := s.startRead .a

/-- A zone after a GOOD read, or after a FAILED one (R144). -/
def ZoneState.afterRead (z : ZoneState) (good : Option Int) : ZoneState :=
  match good, z.value with
  | some t, _ => { value := some t, miss := 0 }
  | none, none => z
  | none, some v => if 4 ≤ z.miss + 1 then { value := none, miss := 4 } else { value := some v, miss := z.miss + 1 }

/-- Records sprayed here that stand in slots mapped to a zone (R144). -/
def State.sprayedInZone (s : State) (z : Zone) : Nat :=
  (slotPositions.filter fun p =>
    slotZoneOf s.cfg.slotZone p == some z &&
      match s.table.get p with
      | some r => r.sprayedHere
      | none => false).length

/-- NOTICE ZONE_LOST where a zone goes from OK or HOLDING to LOST (R144). -/
def State.zoneLostNotice (s : State) (z : Zone) (before : ZoneState) : State :=
  match before.value, (s.tunnel.zones.get z).value with
  | some v, none => s.notice 9 (byteOf (zoneIndex z) :: (signed16 v ++ [byteOf (s.sprayedInZone z)]))
  | _, _ => s

/-- The read under way ends, GOOD with a temperature or FAILED, and the next fitted zone's read begins (R143, R144). -/
def State.endRead (s : State) (good : Option Int) : State :=
  match s.tunnel.poll with
  | none => s
  | some rd =>
    let before := s.tunnel.zones.get rd.zone
    let s1 := { s with tunnel := { s.tunnel with
        poll := none, zones := s.tunnel.zones.put rd.zone (before.afterRead good) } }
    let s2 := s1.zoneLostNotice rd.zone before
    match nextZone rd.zone with
    | some z => if s.fitted z then s2.startRead z else s2
    | none => s2

/-- The temperature of a converter answer, when the read it ends is GOOD (R143). -/
def goodReading : ProbeAnswer → Option Int
  | .value t => if -500 ≤ t ∧ t ≤ 3000 then some t else none
  | .error | .badCheck => none

/-- The answer carries the zone and request number of the read under way (R143). -/
def State.answersRead (s : State) (zone : Zone) (request : Nat) : Bool :=
  match s.tunnel.poll with
  | some rd => rd.zone == zone && request == s.tunnel.probeRequest
  | none => false

/-- PROBE_READ_DONE (R143, R144): an answer that is not for the read under way is discarded. -/
def execProbeReadDone (zone : Zone) (request : Nat) (answer : ProbeAnswer) (s : State) : Result :=
  .next (s.when (s.loaded && s.answersRead zone request) fun t => t.endRead (goodReading answer))

/-- PROBE_READ_TIMEOUT (R143, R144): the read under way ends FAILED. -/
def execProbeReadTimeout (s : State) : Result := .next (s.live fun t => t.endRead none)

/-! ## The cure tick -/

/-- Step 1 of the cure tick (R131, R145, R154). -/
def State.cureStep (s : State) : State := s.mapRecords s.cureRecord

/-- Step 2 of the cure tick (R131, R141, R142). -/
def State.flashStep (s : State) : State := s.mapRecords fun p r => s.potTest p r.flashTick

/-- The work of a cure tick, in the order of R131. -/
def State.cureTick (s : State) : State := s.cureStep.flashStep.dwellTick.tryIndex.startPoll

/-- CURE_TICK (R131): it runs from the configuration load on. -/
def execCureTick (s : State) : Result := .next (s.live State.cureTick)

/-- POT_LIFE_EXPIRY (R142): the pot test, for the records at SPRAY and GATE. -/
def execPotLifeExpiry (s : State) : Result := .next (s.live fun t => t.mapRecords t.potTest)

end Sys2Proof.Machine
end

