-- ==== Sys2Proof/Machine/Moves.lean ====
section
/-! DEFINITION. The starts: the conveyor moves of R12, and the one pass over everything that can start at an event (R13, R25). -/

namespace Sys2Proof.Machine

/-! ## Conveyor moves (R12) -/

/-- The move out of ENTRY may start (R12). -/
def State.toTransportDue (s : State) : Bool :=
  !s.isFree .entry && !s.tracker.moves.toTransport && s.isFree .transport && !s.tracker.hold

/-- The move out of ENTRY starts (R12, R17, R61, R68): the stop is lowered, the record is bound, and it becomes the mask checker's
candidate. -/
def State.tryToTransport (s : State) : State :=
  if s.toTransportDue then
    { s with
      table := { s.table with entry := s.table.entry.map s.bindRecord }
      tracker := { s.tracker with moves := { s.tracker.moves with toTransport := true }, stopLowered := true }
      mask := s.mask.arm .entry }
  else s

/-- The move into SPRAY may start (R12). -/
def State.toSprayDue (s : State) : Bool :=
  !s.isFree .transport && !s.tracker.moves.toSpray && s.isFree .spray && !s.tracker.hold

/-- The move into SPRAY starts (R12). -/
def State.tryToSpray (s : State) : State :=
  if s.toSprayDue then { s with tracker := { s.tracker with moves := { s.tracker.moves with toSpray := true } } } else s

/-- The move of a SKIPPED record to GATE may start (R12). -/
def State.toGateDue (s : State) : Bool :=
  s.sprayIs .skipped && !s.tracker.moves.toGate && s.isFree .gate && !s.tracker.hold

/-- The move of a SKIPPED record to GATE starts (R12). -/
def State.tryToGate (s : State) : State :=
  if s.toGateDue then { s with tracker := { s.tracker with moves := { s.tracker.moves with toGate := true } } } else s

/-- A move started, if it can start (R12). -/
def State.tryMove (s : State) (m : ConvMove) : State :=
  match m with
  | .toTransport => s.tryToTransport
  | .toSpray => s.tryToSpray
  | .toGate => s.tryToGate

/-- MOVE_START (R12). -/
def execMoveStart (m : ConvMove) (s : State) : Result := .next (s.live fun t => t.tryMove m)

/-! ## Everything that can start -/

/-- Every diversion, index, pass, move and claim that can start at the event starts, from EXIT back to ENTRY (R25, log 2). -/
def State.starts (s : State) : State :=
  s.tryDiversion.tryIndex.tryPass.tryToGate.tryToSpray.tryToTransport.tryBoardClaim.tryPurgeClaim

/-- The end of an event at which a record may have left the table: the clear-out test (R22), and what can start. -/
def State.settle (s : State) : State := s.clearOutTest.starts

end Sys2Proof.Machine
end

