-- ==== Sys2Proof/Machine/Supply.lean ====
section
/-! DEFINITION. The supply view (chapter 6): the claims and ends of other stations, ageing, the grant, and the own claim's read-back,
refusal and expiry. -/

namespace Sys2Proof.Machine

/-! ## The view (R116) -/

/-- The view without a station's entry. -/
def Supply.without (v : Supply) (station : Byte) : Supply := { v with view := v.view.filter fun e => e.station != station }

/-- The view with an entry appended. -/
def Supply.append (v : Supply) (e : ClaimEntry) : Supply := { v with view := v.view ++ [e] }

/-- A station other than this cell, with an address 1..31 (R117, R211). -/
def State.otherStation (s : State) (source : Byte) : Bool :=
  source != 0 && source != s.cfg.station && decide (source.toNat ≤ 31)

/-- The view after a SUPPLY_CLAIM of another station that fits (R117, cases 3 to 5). -/
def Supply.claimed (v : Supply) (group source : Byte) (p : List Byte) : Supply :=
  if byteAt p 0 = group then
    (v.without source).append { station := source, serial := none, remaining := max 1 (halfAt p 6).toNat }
  else v.without source

/-- The grant test after a change of the view (R123), and what can start. -/
def State.afterView (s : State) : State := s.tryGrant.starts

/-- A SUPPLY_CLAIM from another station (R117). -/
def State.takeSupplyClaim (s : State) (source : Byte) (p : List Byte) : State :=
  if s.otherStation source && decide (p.length = 8) then
    { s with supply := s.supply.claimed s.cfg.group source p }.afterView
  else s

/-- The view holds an entry of a station. -/
def Supply.holdsEntry (v : Supply) (station : Byte) : Bool := v.view.any fun e => e.station == station

/-- A SUPPLY_DONE from another station removes its entry, whatever group and serial it carries; with no entry it has no effect
(R118). -/
def State.takeSupplyDone (s : State) (source : Byte) (p : List Byte) : State :=
  if s.otherStation source && decide (p.length = 6) && s.supply.holdsEntry source then
    { s with supply := s.supply.without source }.afterView
  else s

/-- SUPPLY_CLAIM (R117): the view takes class-0 telegrams in CLEAR_OUT, RUN and STOPPED (R128, log 35). -/
def execSupplyClaim (source : Byte) (payload : List Byte) (s : State) : Result :=
  .next (s.when s.tracking fun t => t.takeSupplyClaim source payload)

/-- SUPPLY_DONE (R118, R128). -/
def execSupplyDone (source : Byte) (payload : List Byte) (s : State) : Result :=
  .next (s.when s.tracking fun t => t.takeSupplyDone source payload)

/-! ## Expiry of the own entry (R126) -/

/-- The sequencer's action on the expiry of its claim, by its holder (R100, R111, R126). A claim that is still wanted is asked for again by
what can start. A purge in CLAIMING or PURGING goes to REQUESTED and no longer holds the bar: for CLAIMING no rule names the state, and
a board that waits at SPRAY then asks for its claim before the purge does (DESIGN CHOICE, log 48). -/
def State.claimExpired (s : State) (holder : Option Holder) : State :=
  match holder with
  | some .board => s.requestAbort
  | some .purge => if s.purgeHoldsBar then { s with spray := s.spray.purgeBack } else s
  | none => s

/-- The own entry has been removed by its duration (R126); in ENDING with no report (R125). -/
def State.ownExpired (s : State) : State :=
  match s.supply.own with
  | .waiting | .granted => { s with supply := s.supply.noClaim }.claimExpired s.supply.holder
  | .none | .queued | .sending | .refusedWait | .ending => s

/-- The view holds the cell's own entry. -/
def State.hasOwnEntry (s : State) : Bool := s.entriesAhead.isSome

/-- The view replaced by one with fewer entries, because durations have run out; then the grant test and what can start. -/
def State.viewAged (s : State) (view : List ClaimEntry) : State :=
  let s1 := { s with supply := { s.supply with view := view } }
  (if s.hasOwnEntry && !s1.hasOwnEntry then s1.ownExpired else s1).afterView

/-- The entries after a supply tick (R119). -/
def agedView (view : List ClaimEntry) : List ClaimEntry :=
  (view.map fun e => { e with remaining := e.remaining - 1 }).filter fun e => decide (0 < e.remaining)

/-- SUPPLY_TICK (R119): entries that run out at one tick are removed together (log 11). -/
def execSupplyTick (s : State) : Result := .next (s.live fun t => t.viewAged (agedView t.supply.view))

/-- CLAIM_ENTRY_EXPIRY (R119, R126): the entry of a station runs out (log 4). -/
def execClaimEntryExpiry (station : Byte) (s : State) : Result :=
  .next (s.live fun t => t.viewAged (t.supply.without station).view)

/-! ## Grant (R123) -/

/-- CLAIM_GRANTED (R123). -/
def execClaimGranted (s : State) : Result := .next (s.live State.afterView)

/-- LEARNING_TIME_END (R123). -/
def execLearningTimeEnd (s : State) : Result :=
  .next (s.when (s.loaded && s.supply.learning.isSome) fun t => { t with supply := { t.supply with learning := none } }.afterView)

/-! ## The read-back of the own telegrams (R121, R124, R125) -/

/-- The own entry, as it is appended at the DELIVERED read-back (R121). -/
def State.ownEntry (s : State) : ClaimEntry :=
  { station := s.cfg.station, serial := s.supply.claimSerial, remaining := s.supply.claimDuration }

/-- The own SUPPLY_CLAIM read back (R121, R124), or in ENDING ended (R125). -/
def State.claimReadback (s : State) (refused : Bool) : State :=
  match s.supply.own with
  | .sending =>
    if refused then
      { s with supply := { s.supply with
          own := .refusedWait, doneRead := false, reClaim := some Config.reClaimTime } }.postDone
    else { s with supply := { (s.supply.without s.cfg.station).append s.ownEntry with own := .waiting } }.tryGrant
  | .ending => s.postDone
  | .none | .queued | .waiting | .granted | .refusedWait => s

/-- The own SUPPLY_DONE read back (R124, R125). -/
def State.doneReadback (s : State) : State :=
  match s.supply.own with
  | .ending => { s with supply := (s.supply.without s.cfg.station).noClaim }
  | .refusedWait => { s with supply := { s.supply with doneRead := true } }
  | .none | .queued | .sending | .waiting | .granted => s

/-- The re-claim timer expires: the claim is posted again (R124). -/
def State.reClaim (s : State) : State :=
  { s with
    supply := { s.supply with own := .queued, reClaim := none }
    link := s.link.post
      (s.telegram 0 kindSupplyClaim (claimPayload s.cfg.group s.supply.claimSerial s.supply.claimDuration)) }

/-- RE_CLAIM_TIMER_EXPIRY (R124). -/
def execReClaimTimerExpiry (s : State) : Result :=
  .next (s.when (s.loaded && s.supply.own == .refusedWait && s.supply.reClaim.isSome) State.reClaim)

/-! ## The end of a purge (R110) -/

/-- PURGE_TIMER_EXPIRY (R110): a board that waited at SPRAY for the bar may then start or ask for its claim. -/
def execPurgeTimerExpiry (s : State) : Result :=
  .next (s.when (s.loaded && s.spray.purge == .purging && s.spray.purgeTimer.isSome) fun t => t.purgeEnd.starts)

end Sys2Proof.Machine
end

