-- ==== Sys2Proof/Machine/Edges.lean ====
section
/-! DEFINITION. The edges of the filtered sensors and what hangs on them: completion of moves (R13), stray boards (R14), removals
(R15), arrivals (R18, R19), the end of an index (R138) with the judgement at EXIT, and the waits at ENTRY and EXIT that end in a
match or a departure. -/

namespace Sys2Proof.Machine

/-! ## Completion of a conveyor move (R13) -/

/-- The from-position of a move. -/
def moveSource : ConvMove → Position
  | .toTransport => .entry
  | .toSpray => .transport
  | .toGate => .spray

/-- The to-position of a move. -/
def moveDest : ConvMove → Position
  | .toTransport => .transport
  | .toSpray => .spray
  | .toGate => .gate

/-- A move is under way. -/
def State.underWay (s : State) : ConvMove → Bool
  | .toTransport => s.tracker.moves.toTransport
  | .toSpray => s.tracker.moves.toSpray
  | .toGate => s.tracker.moves.toGate

/-- The moves without one. -/
def Moves.without (m : Moves) : ConvMove → Moves
  | .toTransport => { m with toTransport := false }
  | .toSpray => { m with toSpray := false }
  | .toGate => { m with toGate := false }

/-- The completion test of a move: its to-sensor stands occupied and its from-sensor empty (R13). -/
def State.moveMade (s : State) (m : ConvMove) : Bool := s.underWay m && s.occupied (moveDest m) && s.sensorEmpty (moveSource m)

/-- The record of a move takes its to-position, and the move is over (R13, steps 1 and 2). -/
def State.carryOver (s : State) (m : ConvMove) : State :=
  { s with
    table := (s.table.put (moveDest m) (s.table.get (moveSource m))).put (moveSource m) none
    tracker := { s.tracker with moves := s.tracker.moves.without m }
    mask := if s.mask.cand = some (moveSource m) then { s.mask with cand := some (moveDest m) } else s.mask }

/-- The candidate reaches SPRAY: a measurement still open closes CUT_SHORT, and the checker is IDLE (R68, R78). -/
def State.candidateAtSpray (s : State) : State :=
  if s.mask.cand = some .spray then
    { s with table := { s.table with spray := s.table.spray.map s.closeAtSpray }, mask := s.mask.drop }
  else s

/-- A move completes (R13): into SPRAY with the close of the measurement and the spray decision (R78, R87), out of SPRAY with the abort
of a pass that has not ended (R102). -/
def State.completeMove (s : State) (m : ConvMove) : State :=
  match m with
  | .toTransport => s.carryOver .toTransport
  | .toSpray => (s.carryOver .toSpray).candidateAtSpray.sprayDecision
  | .toGate => (if s.sprayIs .spraying then s.abortPass else s).carryOver .toGate

/-! ## Stray boards and arrivals (R14, R18) -/

/-- An arrival begins (R18): the entry read is PENDING with the next request number. -/
def State.beginArrival (s : State) : State :=
  { s with tracker := { s.tracker with
      arrival := some (.reading Config.readTime), idRequest := s.tracker.idRequest + 1 } }

/-- An occupied edge at a position no move involves and no index covers (R14). -/
def State.strayOccupied (s : State) (p : Position) : State :=
  if s.isFree p then
    if p = .entry ∧ (s.cell = .run ∨ s.cell = .stopped) then
      if s.tracker.arrival = none then s.beginArrival else s
    else s.makeStranded p
  else s

/-- The move completes where its test passes; a from-position that stands occupied is then taken by R14 (R13, step 3). -/
def State.moveTest (s : State) (m : ConvMove) : State :=
  if s.moveMade m then
    let s1 := s.completeMove m
    if s1.occupied (moveSource m) then s1.strayOccupied (moveSource m) else s1
  else s

/-- The completion tests of the moves that involve a position (R13). -/
def State.moveTests (s : State) (p : Position) : State :=
  match p with
  | .entry => s.moveTest .toTransport
  | .transport => (s.moveTest .toTransport).moveTest .toSpray
  | .spray => (s.moveTest .toSpray).moveTest .toGate
  | .gate => s.moveTest .toGate
  | .tunnel0 | .tunnel1 | .tunnel2 | .tunnel3 | .tunnel4 | .tunnel5 | .exit => s

/-- A conveyor move under way involves a position. -/
def State.conveyed (s : State) (p : Position) : Bool :=
  match p with
  | .entry => s.tracker.moves.toTransport
  | .transport => s.tracker.moves.toTransport || s.tracker.moves.toSpray
  | .spray => s.tracker.moves.toSpray || s.tracker.moves.toGate
  | .gate => s.tracker.moves.toGate
  | .tunnel0 | .tunnel1 | .tunnel2 | .tunnel3 | .tunnel4 | .tunnel5 | .exit => false

/-! ## Position sensors -/

/-- A position sensor's filtered level. -/
def State.setLevel (s : State) (p : Position) (b : Bool) : State :=
  { s with inputs := { s.inputs with pos := s.inputs.pos.put p (Filter.forced b) } }

/-- The edges of a record that counts as moving out of EXIT (R32, R33, R169), or of any other record at EXIT by R14 and R15. -/
def State.exitEdge (s : State) (r : Record) (occupied : Bool) : State :=
  match r.diversion, r.handoff, occupied with
  | some (.diverting _), _, _ => s.diversionTest
  | some .waitingRack, _, _ => s
  | none, some (.transferring n true false _), true => s.exitReturned n
  | none, some (.transferring _ _ _ _), true => s
  | none, some (.transferring n _ received _), false => s.exitCleared n received
  | none, _, true => s
  | none, _, false => s.removeLifted .exit

/-- An occupied edge, its level taken (R13, R14, R16, R33, R169). -/
def State.occupiedEdge (s : State) (p : Position) : State :=
  if s.conveyed p then s.moveTests p
  else if s.covered p then s
  else
    match p, s.table.exit with
    | .exit, some r => s.exitEdge r true
    | _, _ => s.strayOccupied p

/-- The entry sensor's empty edge raises the entry stop (R17). -/
def State.raiseStop (s : State) (p : Position) : State :=
  if p = .entry then { s with tracker := { s.tracker with stopLowered := false } } else s

/-- A board lifted off (R15), or the end of an arrival (R19). -/
def State.lifted (s : State) (p : Position) : State :=
  if s.isFree p then
    if p = .entry then { s with tracker := { s.tracker with arrival := none } } else s
  else s.removeLifted p

/-- An empty edge, its level taken (R13, R15, R16, R19, R32, R169). -/
def State.emptyEdge (s : State) (p : Position) : State :=
  let s1 := s.raiseStop p
  if s1.conveyed p then s1.moveTests p
  else if s1.covered p then s1
  else
    match p, s1.table.exit with
    | .exit, some r => s1.exitEdge r false
    | _, _ => s1.lifted p

/-- OCCUPIED_EDGE (R11, R14): the filtered level goes from empty to occupied; the board tracker acts on it in CLEAR_OUT, RUN and
STOPPED. -/
def execOccupiedEdge (p : Position) (s : State) : Result :=
  .next (s.when (s.loaded && s.sensorEmpty p) fun t =>
    let t1 := t.setLevel p true
    if t1.tracking then (t1.occupiedEdge p).settle else t1)

/-- EMPTY_EDGE (R11, R15): the filtered level goes from occupied to empty. -/
def execEmptyEdge (p : Position) (s : State) : Result :=
  .next (s.when (s.loaded && s.occupied p) fun t =>
    let t1 := t.setLevel p false
    if t1.tracking then (t1.emptyEdge p).settle else t1)

/-! ## The end of an index (R138) -/

/-- The carried records take their new positions together (R138, step 2). -/
def State.shiftTunnel (s : State) : State :=
  let t := s.table
  { s with table := { t with
      gate := if s.tunnel.carriesGate then none else t.gate
      tunnel0 := if s.tunnel.carriesGate then t.gate else none
      tunnel1 := t.tunnel0
      tunnel2 := t.tunnel1
      tunnel3 := t.tunnel2
      tunnel4 := t.tunnel3
      tunnel5 := t.tunnel4
      exit := match t.tunnel5 with
        | some r => some r
        | none => t.exit } }

/-- One covered position compared with its sensor (R16). -/
def State.comparePosition (s : State) (p : Position) : State :=
  if s.isFree p then (if s.occupied p then s.makeStranded p else s)
  else if s.sensorEmpty p then s.removeLifted p
  else s

/-- The covered positions, from GATE to EXIT (R16). -/
def coveredPositions (gate : Bool) : List Position := (if gate then [.gate] else []) ++ slotPositions ++ [.exit]

/-- The check of the covered positions (R16, R138 step 3). -/
def State.compareCovered (s : State) : State :=
  (coveredPositions s.tunnel.carriesGate).foldl State.comparePosition s

/-- The tunnel after an index (R138, steps 1 and 4). -/
def State.reloadDwell (s : State) : State :=
  { s with tunnel := { s.tunnel with
      phase := .dwell, dwell := s.cfg.baseDwell, extensionUsed := 0, drive := false, timeout := none,
      carriesGate := false } }

/-- The record at EXIT changed by a function. -/
def State.atExit (s : State) (f : Record → Record) : State := { s with table := { s.table with exit := s.table.exit.map f } }

/-- The recipe of the record at EXIT where that record is sprayed here. -/
def State.exitSprayed (s : State) : Option (Record × Recipe) :=
  match s.table.exit with
  | none => none
  | some r =>
    match r.sprayedHere, r.bound s.store with
    | true, some rc => some (r, rc)
    | _, _ => none

/-- The cure judgement at EXIT (R148, R161, R163), in RUN and STOPPED. -/
def State.judgeCure (s : State) : State :=
  match s.exitSprayed with
  | none => s
  | some (r, rc) =>
    if s.cell = .run ∨ s.cell = .stopped then
      (s.atExit fun x => x.addReasonIf (doseShort x.dose rc) .cureShort).report .cureMargin (cureMargin r.dose rc)
    else s

/-- The coat result a record gains (R6, R149). -/
def coatResultOf (station : Byte) (r : Record) (rc : Recipe) : CoatResult :=
  { step := byteOf rc.step, cell := station, filmMin := BitVec.ofNat 16 ((r.film.map (·.min)).getD 0),
    filmMax := BitVec.ofNat 16 ((r.film.map (·.max)).getD 0), dose := BitVec.ofNat 16 (r.dose / 256) }

/-- A record with its coat result appended, where its list has room, and the step added (R149). -/
def Record.withCoat (r : Record) (station : Byte) (rc : Recipe) : Record :=
  { r with trav := { r.trav with
      results := if r.trav.results.length < 4 then r.trav.results ++ [coatResultOf station r rc] else r.trav.results
      stepsDone := addStep r.trav.stepsDone rc.step } }

/-- The coat result of a clean record sprayed here (R149). -/
def State.appendCoat (s : State) : State :=
  match s.exitSprayed with
  | none => s
  | some (r, rc) => if r.clean then s.atExit fun x => x.withCoat s.cfg.station rc else s

/-- The flags of the four counters as a snapshot (R199). -/
def State.snapshot (s : State) : BitVec 4 := (flagByte s.watchFlags).setWidth 4

/-- The audit test (R198): a clean record placed at EXIT while a counter is armed for AUDIT is taken as the sample. -/
def State.auditTest (s : State) : State :=
  match s.table.exit with
  | none => s
  | some r =>
    if r.clean && [0, 1, 2, 3].any (s.armedFor .audit) then
      (s.atExit fun x =>
        { x with trav := { x.trav with snapshot := some s.snapshot } }.addReason .auditSample).completeAction .audit
    else s

/-- A record placed at EXIT by an index is judged, and its exit decision made (R138 step 5, R200). -/
def State.placed (s : State) : State := s.judgeCure.appendCoat.auditTest.exitDecision

/-- The index-done event (R138). A record placed at EXIT in step 2 and removed in step 3 is not judged in step 5: it reports no CURE_MARGIN
event, which R163 leaves open (DESIGN CHOICE, log 49). -/
def State.endIndex (s : State) : State :=
  let s1 := s.shiftTunnel.compareCovered.reloadDwell
  if s.table.tunnel5.isSome && !s1.isFree .exit then s1.placed else s1

/-- The index-done input at its change to active: the filter takes the level, and the raw pin stays as it is. The filter clock brings
the return to inactive, which has no row of the table (DESIGN CHOICE, log 62). -/
def State.indexDoneRise (s : State) : State :=
  { s with inputs := { s.inputs with indexDone := { s.inputs.indexDone with last := some true, level := some true } } }

/-- INDEX_DONE (R138): the filtered input goes from inactive to active. At an input that is active already there is no change, and such
an index ends at its timeout. It is not taken in FAULT (R140). -/
def execIndexDone (s : State) : Result :=
  .next (s.when (s.loaded && s.inputs.indexDone.level != some true) fun t =>
    let t1 := t.indexDoneRise
    if t1.tunnel.phase = .indexing ∧ t1.tunnel.fault = false then t1.endIndex.settle else t1)

/-! ## Rack sensors -/

/-- A rack sensor's filtered level. -/
def State.setRackLevel (s : State) (r : Fin 8) (b : Bool) : State :=
  { s with inputs := { s.inputs with rack := s.inputs.rack.set r.val (Filter.forced b) r.isLt } }

/-- An edge of a rack sensor: taken by R167 from the clear-out scan on. -/
def State.rackChange (s : State) (r : Fin 8) (b : Bool) : State :=
  if s.inputs.rack[r].level = some (!b) then
    let t := s.setRackLevel r b
    if t.tracking then (t.rackEdge r b).settle else t
  else s

/-- RACK_OCCUPIED_EDGE (R170, R180). -/
def execRackOccupiedEdge (r : Fin 8) (s : State) : Result := .next (s.live fun t => t.rackChange r true)

/-- RACK_EMPTY_EDGE (R170, R179). -/
def execRackEmptyEdge (r : Fin 8) (s : State) : Result := .next (s.live fun t => t.rackChange r false)

/-! ## The waits at ENTRY and EXIT -/

/-- The entry read is PENDING (R18). -/
def State.readPending (s : State) : Bool :=
  match s.tracker.arrival with
  | some (.reading _) => true
  | _ => false

/-- The outcome of a reader answer: a bad check is taken as NOREAD (R18). -/
def outcomeOf : IdAnswer → ReadOutcome
  | .read sn v l => .read sn v l
  | .noRead => .noRead
  | .badCheck => .noRead

/-- ID_READ_ANSWER (R18): an answer with no read PENDING, or with another request number, is discarded (log 23). -/
def execIdReadAnswer (request : Nat) (answer : IdAnswer) (s : State) : Result :=
  .next (s.when (s.loaded && s.readPending && request == s.tracker.idRequest) fun t => (t.endEntryRead (outcomeOf answer)).starts)

/-- ENTRY_READ_TIMEOUT (R18). -/
def execEntryReadTimeout (s : State) : Result :=
  .next (s.when (s.loaded && s.readPending) fun t => (t.endEntryRead .noRead).starts)

/-- The orphan wait expires with the arrival list empty (R41); it is suspended while the drive hold is in force (R44). -/
def State.orphanExpiry (s : State) : State :=
  match s.tracker.arrival, s.tracker.arrivals with
  | some (.orphan outcome _), [] => if s.tracker.hold then s else (s.orphanRecord outcome).starts
  | _, _ => s

/-- ORPHAN_WAIT_EXPIRY (R41). -/
def execOrphanWaitExpiry (s : State) : Result := .next (s.live State.orphanExpiry)

/-- The upstream transfer timer expires (R33); it is suspended while the drive hold is in force (R44). -/
def State.transferExpiry (s : State) : State :=
  match s.table.exit with
  | none => s
  | some r =>
    match r.handoff with
    | some (.transferring n true false (some _)) => if s.tracker.hold then s else (s.dropUnconfirmed r n).settle
    | _ => s

/-- UPSTREAM_TRANSFER_TIMEOUT (R33). -/
def execUpstreamTransferTimeout (s : State) : Result := .next (s.live State.transferExpiry)

end Sys2Proof.Machine
end

