-- ==== Sys2Proof/Machine/Inbound.lean ====
section
/-! DEFINITION. The commands that hand the head of the inbound queue to the block that owns its kind (R212), the watch counters'
WATCH_CLEAR (R202), and STATUS (R215). -/

namespace Sys2Proof.Machine

/-! ## Handing the head (R212) -/

/-- The head of the inbound queue, where it is of a kind and its block can take it, leaves the queue and its block acts on it in the same
event (R212). -/
def State.hand (s : State) (kind : Byte) (f : State → Telegram → State) : State :=
  match s.loaded, s.link.headOf kind with
  | true, some t => f { s with link := s.link.popInbound } t
  | _, _ => s

/-! ## WATCH_CLEAR (R202) -/

/-- A WATCH_CLEAR fits its layout (R217): one byte, bits 4..7 0. -/
def watchClearFits (p : List Byte) : Bool := decide (p.length = 1) && decide ((byteAt p 0).toNat < 16)

/-- A WATCH_CLEAR taken from the inbound queue: each named counter is cleared, disarmed and reloaded (R202). -/
def State.takeWatchClear (s : State) (t : Telegram) : State :=
  if watchClearFits t.payload then
    { s with watch := s.watch.mapIdx fun i w =>
        if h : i < 4 then if (byteAt t.payload 0).getLsbD i then w.complete s.cfg.watch[i] else w else w }
  else s

/-! ## STATUS (R215, section 11.6) -/

/-- The position bits of page 0. -/
def State.positionBits (s : State) : List Byte :=
  let bits := s.table.toList.map Option.isSome
  [flagByte (bits.drop 8), flagByte (bits.take 8)]

/-- A zone's two status bits: 3 where it is not fitted. -/
def State.zoneCode (s : State) (z : Zone) : Nat := if s.fitted z then ((s.tunnel.zones.get z).status).code else 3

/-- A zone's value in two bytes: 8000h when absent. -/
def State.zoneValue (s : State) (z : Zone) : List Byte :=
  match s.fitted z, (s.tunnel.zones.get z).value with
  | true, some v => signed16 v
  | _, _ => [0x80, 0x00]

/-- The dwell remaining, 0 in INDEX_PENDING and INDEXING (R153). -/
def State.dwellShown (s : State) : Nat :=
  match s.tunnel.phase with
  | .dwell => s.tunnel.dwell
  | .indexPending | .indexing => 0

/-- The serial of the own entry. -/
def State.ownSerial (s : State) : Option Serial :=
  (s.supply.view.find? fun e => e.station == s.cfg.station).bind (·.serial)

/-- The id a filter slot shows: 0 when empty. -/
def filterIdByte (o : Option LotFilter) : Byte := (o.map (·.id)).getD 0

/-- STATUS page 0. -/
def State.statusCell (s : State) : List Byte :=
  [0, s.cell.code, flagByte [s.link.noticeLost, s.link.assemblyBroken, s.link.barShort], byteOf s.link.clashes,
      byteOf s.boardCount] ++
    s.positionBits ++ [byteOf s.holds.list.length, s.runState.code, s.tunnel.phase.code] ++ half16 s.dwellShown ++
    half16 s.tunnel.extensionUsed ++
    [byteOf (slotPositions.filter fun p => !s.isFree p).length,
      byteOf (s.zoneCode .a + 4 * s.zoneCode .b + 16 * s.zoneCode .c)] ++
    s.zoneValue .a ++ s.zoneValue .b ++ s.zoneValue .c ++
    [byteOf s.supply.view.length, s.supply.own.code, (s.entriesAhead.map byteOf).getD 0xFF,
      flagByte [s.ownSerial.isSome, s.supply.holder == some .purge, s.supply.learning.isSome]] ++
    optWord s.ownSerial ++ s.watch.toList.flatMap (fun w => be16 w.count) ++
    [flagByte (s.watchFlags ++ s.watch.toList.map (·.armed)), flagByte (s.holds.filters.toList.map Option.isSome)] ++
    s.holds.filters.toList.map filterIdByte

/-- The CRC of the record a slot names, 0 where it names none. -/
def State.crcBytes (s : State) (i : Option (Fin 12)) : List Byte := be16 ((i.bind s.store.crcOf).getD 0)

/-- The assembler's two bytes (R64). In IDLE the slot bits and the next fragment number are 0: the layout gives a value for them while an
assembly is in progress alone (DESIGN CHOICE, log 59). -/
def assemblerBytes : Assembler → List Byte
  | .idle => [0, 0]
  | .assembling k next _ => [0x80#8 ||| byteOf k.val, byteOf next]

/-- STATUS page 1. -/
def State.statusStore (s : State) : List Byte :=
  let slots := s.store.slots.toList
  [1, flagByte (slots.map fun k => k.active.isSome), flagByte (slots.map fun k => k.staged.isSome)] ++
    slots.flatMap (fun k => s.crcBytes k.active) ++
    slots.map (fun k => byteOf ((k.active.map s.refCount).getD 0)) ++
    slots.flatMap (fun k => s.crcBytes k.staged) ++
    [byteOf s.store.countRetiring, byteOf s.store.countFree] ++ assemblerBytes s.store.assembler

/-- What a page-0 STATUS that enters the queue clears (R215). -/
def Link.clearFlags (l : Link) : Link := { l with noticeLost := false, assemblyBroken := false, clashes := 0 }

/-- A STATUS_QUERY taken from the inbound queue (R215). -/
def State.takeStatusQuery (s : State) (t : Telegram) : State :=
  match t.payload with
  | [0] =>
    let s1 := s.post t.src kindStatus s.statusCell
    if s.link.hasRoom then { s1 with link := s1.link.clearFlags } else s1
  | [1] => s.post t.src kindStatus s.statusStore
  | _ => s

/-! ## The commands -/

/-- OFFER (R35, R36, R41). -/
def execOffer (s : State) : Result := .next (s.hand kindOffer fun t g => (t.takeOffer g).starts)

/-- ACCEPT (R31). -/
def execAccept (s : State) : Result := .next (s.hand kindAccept State.takeAccept)

/-- DECLINE (R30). -/
def execDecline (s : State) : Result := .next (s.hand kindDecline State.takeDecline)

/-- RECEIVED (R32). -/
def execReceived (s : State) : Result := .next (s.hand kindReceived fun t g => (t.takeReceived g).settle)

/-- RECIPE_PART (R50 to R56). -/
def execRecipePart (s : State) : Result := .next (s.hand kindRecipePart State.takeRecipePart)

/-- RECIPE_ACTIVATE (R57). -/
def execRecipeActivate (s : State) : Result := .next (s.hand kindRecipeActivate State.takeActivate)

/-- RECIPE_DROP (R58). -/
def execRecipeDrop (s : State) : Result := .next (s.hand kindRecipeDrop State.takeDrop)

/-- RELEASE (R176, R177). -/
def execRelease (s : State) : Result := .next (s.hand kindRelease State.takeRelease)

/-- LOT_HOLD (R181, R183). -/
def execLotHold (s : State) : Result := .next (s.hand kindLotHold fun t g => (t.takeLotHold g).starts)

/-- LOT_LIFT (R185). -/
def execLotLift (s : State) : Result := .next (s.hand kindLotLift State.takeLotLift)

/-- WATCH_CLEAR (R202). -/
def execWatchClear (s : State) : Result := .next (s.hand kindWatchClear State.takeWatchClear)

/-- STATUS_QUERY (R215). -/
def execStatusQuery (s : State) : Result := .next (s.hand kindStatusQuery State.takeStatusQuery)

end Sys2Proof.Machine
end

