-- ==== Sys2Proof/Machine/Guard.lean ====
section
/-! DEFINITION. The guard interlock (R24, R25, R44, R101, R111, R139, R222): the drive hold, its settle time and its end. -/

namespace Sys2Proof.Machine

/-- The guard filter's level. -/
def State.setGuard (s : State) (opened : Bool) : State :=
  { s with inputs := { s.inputs with guard := Filter.forced opened } }

/-- The drive hold in force (R24), no settle time running, and a RUN cell STOPPED (R222). -/
def State.putHold (s : State) : State :=
  { s with
    cell := if s.cell = .run then .stopped else s.cell
    tracker := { s.tracker with hold := true, settle := none } }

/-- A pass under way is aborted at the opening (R101); a claim that a board waits for is withdrawn (R94). -/
def State.guardSpray (s : State) : State :=
  if s.sprayIs .spraying then s.abortPass else if s.sprayIs .waitingSupply then s.endBoardClaim else s

/-- An index under way is interrupted: its timeout is stopped (R139). In FAULT there is none. -/
def State.guardIndex (s : State) : State :=
  if s.tunnel.phase = .indexing then { s with tunnel := { s.tunnel with drive := false, timeout := none } } else s

/-- The guard opening (R24, R101, R111, R139). A RUN cell is STOPPED before a QUEUED claim is withdrawn in the same event, so a held OFFER
does not take the place that this frees: the spec gives no order of the two (DESIGN CHOICE, log 67). -/
def State.guardOpens (s : State) : State := s.putHold.guardSpray.purgeInterrupt.guardIndex

/-- GUARD_OPENING (R222): the filtered guard input goes from closed to open. -/
def execGuardOpening (s : State) : Result :=
  .next (s.live fun t => (t.setGuard true).guardOpens)

/-- GUARD_CLOSING (R25, R222): the filtered input goes from open to closed, and the settle time begins. -/
def execGuardClosing (s : State) : Result :=
  .next (s.live fun t =>
    let t1 := t.setGuard false
    if t1.tracker.hold then { t1 with tracker := { t1.tracker with settle := some Config.settleTime } } else t1)

/-- The hold out of force: a STOPPED cell returns to RUN (R25). -/
def State.liftHold (s : State) : State :=
  { s with
    cell := if s.cell = .stopped then .run else s.cell
    tracker := { s.tracker with hold := false, settle := none } }

/-- An interrupted index goes on, with a fresh timeout (R139). -/
def State.resumeIndex (s : State) : State :=
  if s.tunnel.phase = .indexing ∧ s.tunnel.fault = false then
    { s with tunnel := { s.tunnel with drive := true, timeout := some Config.indexTime } }
  else s

/-- An OFFER that fell due while the cell was STOPPED is posted (R30, R44). -/
def State.postDueOffer (s : State) : State :=
  match s.exitHandoff with
  | some (.offered n .due) => s.postOffer n
  | _ => s

/-- A held telegram enters a place that stands free or was freed for it (R214): at the end of the hold an OFFER kept held in STOPPED
(R30, logs 14, 52). -/
def State.enterHeld (s : State) : State := { s with link := s.link.offerHeld s.isStopped }

/-- The end of the drive hold (R25). The spec gives no order between the OFFER that enters or is posted here and the SUPPLY_CLAIMs asked for
by what can start: the OFFER goes first (DESIGN CHOICE, log 65). -/
def State.endHold (s : State) : State := s.liftHold.resumeIndex.enterHeld.postDueOffer.starts

/-- SETTLE_TIME_EXPIRY (R25): while the settle time runs. -/
def execSettleTimeExpiry (s : State) : Result :=
  .next (s.when (s.loaded && s.tracker.hold && s.tracker.settle.isSome) State.endHold)

/-- GUARD_FIRST_LEVEL (R222): a first level of open puts the drive hold in force as an opening does; one of closed leaves the hold out of
force. A first level of open that comes when the cell is in RUN already turns it to STOPPED, as an opening does: R222 names the opening
alone for that (DESIGN CHOICE, log 64). -/
def execGuardFirstLevel (opened : Bool) (s : State) : Result :=
  .next (s.when (s.loaded && s.inputs.guard.level.isNone) fun t =>
    let t1 := t.setGuard opened
    if opened then t1.guardOpens else t1)

end Sys2Proof.Machine
end

