-- ==== Sys2Proof/Machine/LinkEvents.lean ====
section
/-! DEFINITION. The events of the cell link (R206 to R214): idle, start bits, access and sending, clashes, the end of a send with its
report, and the telegrams of other stations. -/

namespace Sys2Proof.Machine

/-! ## Idle and access (R206, R208) -/

/-- The line is declared idle: the access slots count from 0; a telegram not complete is abandoned (R206, R207). No idle is declared in an
acceptance slot, for the idle count begins at its end (R210). -/
def State.lineIdle (s : State) : State :=
  match s.link.line with
  | .busy | .receiving _ _ => { s with link := { s.link with line := .idle, access := some 0 } }
  | .idle | .sending | .slot _ _ => s

/-- LINK_IDLE (R206): from the configuration load on (R218). -/
def execLinkIdle (s : State) : Result := .next (s.live State.lineIdle)

/-- A start bit of another station after idle: its telegram is received, and the access count stops (R207, R208). -/
def State.hearStart (s : State) : State :=
  match s.link.line with
  | .idle => { s with link := { s.link with line := .receiving [] false, access := none } }
  | .busy | .receiving _ _ | .sending | .slot _ _ => s

/-- START_BIT_HEARD (R208). -/
def execStartBitHeard (s : State) : Result := .next (s.live State.hearStart)

/-- The send of the head begins; an own claim that is QUEUED is then SENDING (R121, R208, R213). -/
def State.beginSend (s : State) (e : OutEntry) : State :=
  { s with
    link := { s.link with line := .sending, access := none, withdrawAsked := false }
    supply := if e.tg.kind = kindSupplyClaim ∧ s.supply.own = .queued then { s.supply with own := .sending } else s.supply }

/-- An access-slot boundary with a count: the head is sent once the count has reached its access position (R208, log 27). -/
def State.accessBoundary (s : State) (slot : Nat) : State :=
  match s.link.line, s.link.access, s.link.out with
  | .idle, some n, e :: _ =>
    if max n slot < accessPosition s.cfg.station s.link.penalty e then
      { s with link := { s.link with access := some (min (max n slot) 127) } }
    else s.beginSend e
  | _, _, _ => s

/-- SEND_START (R208). -/
def execSendStart (slot : Nat) (s : State) : Result := .next (s.live fun t => t.accessBoundary slot)

/-! ## Clash (R209) -/

/-- A clash: the send is off, and the station goes on as a receiver, of the bytes of the other station's telegram from the first on; the
count rises to at most 255. -/
def Link.clashed (l : Link) (out : List OutEntry) : Link :=
  { l with line := .receiving [] false, withdrawAsked := false, out := out, clashes := min (l.clashes + 1) 255 }

/-- The own claim after a clash of its SUPPLY_CLAIM (R121, R125): QUEUED again, or with its end asked for, NONE. -/
def Supply.clashed (v : Supply) : Supply :=
  match v.own with
  | .sending => { v with own := .queued }
  | .ending => v.noClaim
  | .none | .queued | .waiting | .granted | .refusedWait => v

/-- The supply view after a clash of a telegram of a kind. -/
def State.supplyClashed (s : State) (kind : Byte) : Supply :=
  if kind = kindSupplyClaim then s.supply.clashed else s.supply

/-- A clash of the station's send (R209, R214): the telegram keeps its place by class and age (log 13), or is withdrawn where its block
asked for that during the send. -/
def State.clash (s : State) : State :=
  match s.link.line, s.link.out with
  | .sending, e :: rest =>
    if s.link.withdrawAsked then
      { s with link := (s.link.clashed rest).fillPlace s.isStopped, supply := s.supplyClashed e.tg.kind }.starts
    else { s with link := s.link.clashed (insertOldest e rest), supply := s.supplyClashed e.tg.kind }
  | _, _ => s

/-- CLASH (R209). -/
def execClash (s : State) : Result := .next (s.live State.clash)

/-! ## The end of a send (R210, R211, R214) -/

/-- DELIVERED or REFUSED goes to the block that posted the telegram; the blocks named in R214 act on it. -/
def State.sendReport (s : State) (e : OutEntry) (refused : Bool) : State :=
  if e.tg.kind = kindOffer then s.offerReport (byteAt e.tg.payload 0) refused
  else if e.tg.kind = kindReceived then s.receivedReport e refused
  else if e.tg.kind = kindSupplyClaim then (s.claimReadback refused).starts
  else if e.tg.kind = kindSupplyDone then s.doneReadback.starts
  else s

/-- The head has left the queue at the end of its slot; the penalty is in force, and the freed place is offered to the held telegrams
(R208, R214). -/
def Link.sent (l : Link) (stopped : Bool) : Link :=
  { l with line := .busy, penalty := true, withdrawAsked := false, out := l.out.tail }.fillPlace stopped

/-- The end of the send of an entry: the freed place is filled, then the report is acted on (log 12). -/
def State.endSend (s : State) (e : OutEntry) (refused : Bool) : State :=
  { s with link := s.link.sent s.isStopped }.sendReport e refused

/-- The entry whose send is under way, where it is of a kind. -/
def State.sendingKind (s : State) (kind : Byte) : Option OutEntry := s.link.inSend.filter fun e => e.tg.kind == kind

/-- The end of the send of an entry that a test finds in its send; no send is under way before the load (R218). -/
def State.endSendOf (s : State) (o : Option OutEntry) (refused : Bool) : State :=
  match s.loaded, o with
  | true, some e => s.endSend e refused
  | _, _ => s

/-- SEND_END (R210). -/
def execSendEnd (refused : Bool) (s : State) : Result := .next (s.endSendOf s.link.inSend refused)

/-- OWN_CLAIM_READBACK (R121): the end of the send of the own SUPPLY_CLAIM (log 28). -/
def execOwnClaimReadback (refused : Bool) (s : State) : Result :=
  .next (s.endSendOf (s.sendingKind kindSupplyClaim) refused)

/-- OWN_DONE_READBACK (R125): the end of the send of the own SUPPLY_DONE (log 28). -/
def execOwnDoneReadback (refused : Bool) (s : State) : Result :=
  .next (s.endSendOf (s.sendingKind kindSupplyDone) refused)

/-! ## Telegrams of other stations (R207, R210, R211) -/

/-- The next bytes of the telegram that is being received (R207). -/
def State.hearBytes (s : State) (bytes : List Byte) (stopFault : Bool) : State :=
  match s.link.line with
  | .receiving heard fault => { s with link := { s.link with line := .receiving (heard ++ bytes) (fault || stopFault) } }
  | .busy | .idle | .slot _ _ | .sending => s

/-- How the telegram that is being received ends with the bytes that have arrived (R207). -/
def State.reception (s : State) : Option Reception :=
  match s.link.line with
  | .receiving heard fault => receive heard fault
  | .busy | .idle | .slot _ _ | .sending => none

/-- The acceptance slot of a telegram begins: the telegram where it is good, and whether this station drives the slot (R210). -/
def State.openSlot (s : State) (good : Option Telegram) (driven : Bool) : State :=
  { s with link := { s.link with line := .slot good driven } }

/-- The acceptance slot of another station's telegram ends: the line waits for idle, and the penalty is lifted (R208). -/
def State.closeSlot (s : State) : State := { s with link := { s.link with line := .busy, penalty := false } }

/-- A good telegram with an address, a source and a kind of R211, rows 2 to 4. -/
def State.concerns (s : State) (t : Telegram) : Bool :=
  (t.dst == s.cfg.station || t.dst == 0) && s.otherStation t.src && kindTable.contains t.kind

/-- A class-0 telegram handed to the supply view (R115). -/
def State.toView (s : State) (t : Telegram) : State :=
  s.when s.tracking fun u =>
    if t.kind = kindSupplyClaim then u.takeSupplyClaim t.src t.payload else u.takeSupplyDone t.src t.payload

/-- A class-1 or class-2 telegram appended to the inbound queue (R211, R212). -/
def State.toInbound (s : State) (t : Telegram) : State :=
  { s with link := { s.link with inbound := s.link.inbound ++ [t] }.discardOwnerless }

/-- A good telegram that this station has not refused, after its slot (R211). -/
def State.takeGood (s : State) (t : Telegram) : State :=
  if !s.concerns t then s else if classOf t.kind = 0 then s.toView t else s.toInbound t

/-- A good telegram: when its slot begins the room of the inbound queue decides whether the slot is driven (R210); when it ends the telegram
is taken unless this station has refused it (R211). -/
def State.goodTelegram (s : State) (e : HeardEvent) : State :=
  match e with
  | .arrive bytes stopFault => s.hearBytes bytes stopFault
  | .slotBegins =>
    match s.reception with
    | some (.good t) => s.openSlot (some t) (s.link.refusesGood s.cfg.station t)
    | _ => s
  | .slotEnds =>
    match s.link.line with
    | .slot (some t) driven => if driven then s.closeSlot else s.closeSlot.takeGood t
    | _ => s

/-- A faulty telegram: its slot is driven where the fields as received are addressed here, and nothing is taken (R210). -/
def State.faultyTelegram (s : State) (e : HeardEvent) : State :=
  match e with
  | .arrive bytes stopFault => s.hearBytes bytes stopFault
  | .slotBegins =>
    match s.reception with
    | some (.faulty t) => s.openSlot none (refusesFaulty s.cfg.station t)
    | _ => s
  | .slotEnds =>
    match s.link.line with
    | .slot none _ => s.closeSlot
    | _ => s

/-- TELEGRAM_TAKEN (R207, R210, R211, log 51). -/
def execTelegramTaken (e : HeardEvent) (s : State) : Result := .next (s.live fun t => t.goodTelegram e)

/-- FAULTY_TELEGRAM (R207, R210, log 51). -/
def execFaultyTelegram (e : HeardEvent) (s : State) : Result := .next (s.live fun t => t.faultyTelegram e)

/-- TELEGRAM_ABANDONED (R207): the bytes so far have a bad first byte or length, or end before the last CRC byte; no slot is driven, and
the line waits for idle. -/
def execTelegramAbandoned (s : State) : Result :=
  .next (s.when (s.loaded && s.reception == some .abandoned) fun u => { u with link := { u.link with line := .busy } })

/-- HELD_TELEGRAM_ENTERED (R213, R214): a held telegram takes a place that stands free, or that was freed for it. -/
def execHeldTelegramEntered (s : State) : Result := .next (s.live State.enterHeld)

end Sys2Proof.Machine
end

