-- ==== Sys2Proof/Machine/Load.lean ====
section
/-! DEFINITION. Cold reset (R23, R43, R65, R83, R113, R128, R152, R186, R191, R218), the configuration load (R219, R220), the
clear-out scan (R21, R150, R187) and the cell seconds (R221). -/

namespace Sys2Proof.Machine

/-! ## Cold reset -/

/-- A filter after cold reset: no level; its pin is as it is (R11, log 7). -/
def Filter.cold (f : Filter) : Filter := { f with last := none, level := none }

/-- The filters after cold reset. -/
def Inputs.cold (i : Inputs) : Inputs :=
  { pos := i.pos.mapPos fun _ f => f.cold, mask := i.mask.mapIdx fun _ f => f.cold, rack := i.rack.mapIdx fun _ f => f.cold,
    indexDone := i.indexDone.cold, guard := i.guard.cold, clock := 0 }

/-- The state a cold reset leaves: that of `State.reset`, but for the pins, the request numbers (log 8) and the model's own fields. -/
def State.cold (s : State) : State :=
  { State.reset with
    pending := s.pending
    inputs := s.inputs.cold
    tracker := { Tracker.reset with idRequest := s.tracker.idRequest }
    tunnel := { Tunnel.reset with probeRequest := s.tunnel.probeRequest }
    free := s.free }

/-- COLD_RESET (R23): power-on or the RESET pin. -/
def execColdReset (s : State) : Result := .next s.cold

/-! ## The configuration load (R219) -/

/-- The 97 bytes read: a byte the memory does not answer with reads FFh (R219, log 26). -/
def imageRead (im : List Byte) : List Byte :=
  im.take Config.imageBytes ++ List.replicate (Config.imageBytes - im.length) 0xFF

/-- The watch counters loaded with their reset values, clear and not armed (R191). -/
def loadedWatch (c : CellCfg) : Vector WatchCounter 4 :=
  Vector.ofFn fun i => { count := c.watch[i].reload, flag := false, armed := false, edgeMark := false }

/-- The learning time, in ms; a time of 0 has run out at the load (R123). -/
def learningTimer (c : CellCfg) : Option Nat := if c.learningTime = 0 then none else some (c.learningTime * 1000)

/-- The configuration load (R219, R220): the values are taken, the counters loaded and the time bases started. The
link comes alive; its line counts as busy since the reset (R206, R218). -/
def State.takeConfig (s : State) (c : CellCfg) : State :=
  { s with
    loaded := true
    cfg := c
    inputs := { s.inputs with clock := c.filterClock }
    spray := { s.spray with windowMs := Config.windowTime }
    supply := { s.supply with tickMs := Config.supplyTickTime, learning := learningTimer c }
    tunnel := { s.tunnel with cureMs := Config.cureTickTime }
    watch := loadedWatch c
    link := { s.link with barShort := decide (c.barToStop < c.largestLength) } }

/-- The loader's read of the image: taken, or refused with CONFIG_FAULT (R219, R223). -/
def State.load (s : State) (im : List Byte) : State :=
  if configImageOk (imageRead im) then s.takeConfig (configOf (imageRead im)) else { s with cell := .configFault }

/-- CONFIGURATION_LOAD (R219): once after each cold reset. -/
def execConfigurationLoad (image : List Byte) (s : State) : Result :=
  .next (s.when (s.cell == .start && !s.loaded) fun t => t.load image)

/-! ## The clear-out scan (R21) -/

/-- The levels of the 11 position sensors and 8 rack sensors at the scan. -/
def State.scanLevels (s : State) (ps : BitVec 11) (rs : BitVec 8) : State :=
  { s with inputs := { s.inputs with
      pos := s.inputs.pos.mapPos fun p _ => Filter.forced (ps.getLsbD (positionBit p))
      rack := s.inputs.rack.mapIdx fun k _ => Filter.forced (rs.getLsbD k) } }

/-- A STRANDED record at each occupied position, in order (R21). -/
def State.scanTable (s : State) : State :=
  positions.foldl (fun t p => if t.occupied p then t.makeStranded p else t) s

/-- The hold list rebuilt from the rack sensors, and the near-full test made once (R187). -/
def State.scanRack (s : State) : State :=
  { s with holds := { s.holds with
      list := (rackPositions.filter s.rackOccupied).map fun k => strandedEntry k s.seconds } }.nearFullTest

/-- The tunnel at the scan (R150). -/
def State.scanTunnel (s : State) : State :=
  { s with tunnel := { s.tunnel with dwell := s.cfg.baseDwell, extensionUsed := 0, phase := .dwell } }

/-- The clear-out scan (R21, R221). -/
def State.scan (s : State) : State := { s with cell := .clearOut }.scanTable.scanRack.scanTunnel.settle

/-- CLEAR_OUT_SCAN (R21): in START after the load. -/
def execClearOutScan (positions : BitVec 11) (racks : BitVec 8) (s : State) : Result :=
  .next (s.when (s.cell == .start && s.loaded) fun t => (t.scanLevels positions racks).scan)

/-! ## Cell seconds (R221) -/

/-- CELL_SECONDS_TICK (R221): in every cell state; the counter wraps. -/
def execCellSecondsTick (s : State) : Result := .next { s with seconds := s.seconds + 1 }

end Sys2Proof.Machine
end

