-- ==== Sys2Proof/Machine/Clock.lean ====
section
/-! DEFINITION. The millisecond the machine passes when no command waits (log 3): timers count down and the commands of those that run
out are queued, and at the filter clock's samples the inputs are filtered (R11). -/

namespace Sys2Proof.Machine

/-! ## Timers -/

/-- A timer one millisecond on. -/
def down (t : Option Nat) : Option Nat := t.map fun n => n - 1

/-- A timer that runs out with this millisecond. -/
def runsOut (t : Option Nat) : Bool := t.any fun n => decide (n ≤ 1)

/-- A command queued where a condition holds. -/
def queued (c : Bool) (i : Instr) : List Instr := if c then [i] else []

/-- A count that is reloaded when it reaches 0: its next value. -/
def cycle (period n : Nat) : Nat := if n ≤ 1 then period else n - 1

/-- The arrival one millisecond on: the read timer runs, the orphan wait is suspended under the drive hold (R44). -/
def arrivalDown (hold : Bool) : Arrival → Arrival
  | .reading t => .reading (t - 1)
  | .orphan o t => .orphan o (if hold then t else t - 1)

/-- A handoff state one millisecond on: the answer and re-offer waits run, the transfer timer is suspended under the drive hold (R44). -/
def handoffDown (hold : Bool) : Handoff → Handoff
  | .offered n (.answer t) => .offered n (.answer (t - 1))
  | .offered n (.reOffer t) => .offered n (.reOffer (t - 1))
  | .transferring n c r t => .transferring n c r (if hold then t else down t)
  | .offered n .due => .offered n .due
  | .offered n .posting => .offered n .posting

/-- The command of a handoff timer that runs out. -/
def handoffDue (hold : Bool) : Handoff → List Instr
  | .offered _ (.answer t) => queued (decide (t ≤ 1)) .answerWaitExpiry
  | .offered _ (.reOffer t) => queued (decide (t ≤ 1)) .reOfferWaitExpiry
  | .transferring _ _ _ t => queued (!hold && runsOut t) .upstreamTransferTimeout
  | .offered _ .due | .offered _ .posting => []

/-- The command of an arrival timer that runs out. -/
def arrivalDue (hold : Bool) : Arrival → List Instr
  | .reading t => queued (decide (t ≤ 1)) .entryReadTimeout
  | .orphan _ t => queued (!hold && decide (t ≤ 1)) .orphanWaitExpiry

/-- The commands of the arrival entries that run out, oldest first; the place of each is that after the ones before it have gone. -/
def entriesDue : List ArrivalEntry → List Instr
  | [] => []
  | [e] => queued (decide (e.timer ≤ 1)) (.downstreamTransferTimeout 0)
  | e :: f :: _ =>
    if e.timer ≤ 1 then .downstreamTransferTimeout 0 :: queued (decide (f.timer ≤ 1)) (.downstreamTransferTimeout 0)
    else queued (decide (f.timer ≤ 1)) (.downstreamTransferTimeout 1)

/-- The commands of the timers that run out with this millisecond, in a fixed order (log 19). -/
def State.timersDue (s : State) : List Instr :=
  let hold := s.tracker.hold
  queued (decide (s.supply.tickMs ≤ 1)) .supplyTick ++ queued (decide (s.spray.windowMs ≤ 1)) .speedWindowEnd ++
    queued (runsOut s.supply.learning) .learningTimeEnd ++ queued (runsOut s.supply.reClaim) .reClaimTimerExpiry ++
    queued (runsOut s.spray.abort) .passStallTimeout ++ queued (runsOut s.spray.purgeTimer) .purgeTimerExpiry ++
    queued (runsOut s.tunnel.timeout) .indexTimeout ++
    queued (runsOut (s.tunnel.poll.map (·.timer))) .probeReadTimeout ++
    queued (decide (s.tunnel.cureMs ≤ 1)) .cureTick ++
    ((s.exitHandoff.map (handoffDue hold)).getD []) ++ (if hold then [] else entriesDue s.tracker.arrivals) ++
    ((s.tracker.arrival.map (arrivalDue hold)).getD []) ++
    ((s.tracker.reposts.filter fun r => decide (r.timer ≤ 1)).map fun _ => .receivedRepost) ++
    queued (runsOut s.tracker.settle) .settleTimeExpiry

/-- The timers one millisecond on. -/
def State.timersDown (s : State) : State :=
  let hold := s.tracker.hold
  { s with
    table := { s.table with
      exit := s.table.exit.map fun r => { r with handoff := r.handoff.map (handoffDown hold) } }
    tracker := { s.tracker with
      arrival := s.tracker.arrival.map (arrivalDown hold)
      arrivals := if hold then s.tracker.arrivals else s.tracker.arrivals.map fun e => { e with timer := e.timer - 1 }
      reposts := s.tracker.reposts.map fun r => { r with timer := r.timer - 1 }
      settle := down s.tracker.settle }
    spray := { s.spray with
      abort := down s.spray.abort, purgeTimer := down s.spray.purgeTimer, tenths := s.spray.tenths + 10
      windowMs := cycle Config.windowTime s.spray.windowMs }
    supply := { s.supply with
      reClaim := down s.supply.reClaim, learning := down s.supply.learning
      tickMs := cycle Config.supplyTickTime s.supply.tickMs }
    tunnel := { s.tunnel with
      timeout := down s.tunnel.timeout, poll := s.tunnel.poll.map fun p => { p with timer := p.timer - 1 }
      cureMs := cycle Config.cureTickTime s.tunnel.cureMs }
    link := { s.link with access := s.link.access.map fun _ => 127 } }

/-! ## The filters (R11) -/

/-- Two consecutive samples agree. -/
def Filter.agrees (f : Filter) : Bool := f.last == some f.raw

/-- The filtered level after this sample. -/
def Filter.next (f : Filter) : Option Bool := if f.agrees then some f.raw else f.level

/-- The level that an edge at this sample brings; a first level is no edge (R11). -/
def Filter.edge (f : Filter) : Option Bool := if f.agrees && f.level == some (!f.raw) then some f.raw else none

/-- A filter after a sample whose edge, if any, its command will take: a first level is taken at once. -/
def Filter.sampled (f : Filter) : Filter := { f with last := some f.raw, level := if f.level.isNone then f.next else f.level }

/-- A filter after a sample that takes its level by itself. -/
def Filter.followed (f : Filter) : Filter := { f with last := some f.raw, level := f.next }

/-- The command of a position sensor's edge. -/
def positionEdge (p : Position) (f : Filter) : List Instr :=
  match f.edge with
  | some true => [.occupiedEdge p]
  | some false => [.emptyEdge p]
  | none => []

/-- The command of a rack sensor's edge. -/
def rackEdgeOf (k : Fin 8) (f : Filter) : List Instr :=
  match f.edge with
  | some true => [.rackOccupiedEdge k]
  | some false => [.rackEmptyEdge k]
  | none => []

/-- The command of a mask channel's edge. -/
def maskEdge (k : Fin 32) (f : Filter) : List Instr :=
  match f.edge with
  | some b => [.maskChannelEdge k b]
  | none => []

/-- The command of the guard filter's first level or edge (R222). -/
def guardEdge (f : Filter) : List Instr :=
  match f.level.isNone && f.agrees, f.edge with
  | true, _ => [.guardFirstLevel f.raw]
  | false, some true => [.guardOpening]
  | false, some false => [.guardClosing]
  | false, none => []

/-- The index-done input going active. -/
def indexDoneEdge (f : Filter) : List Instr := queued (f.edge == some true) .indexDone

/-- Bits as a number, the first in bit 0. -/
def bitsToNat (bits : List Bool) : Nat := bits.foldr (fun b n => 2 * n + b.toNat) 0

/-- The 19 filtered levels the clear-out scan reads, after this sample (R21). -/
def Inputs.scanFilters (i : Inputs) : List Filter := i.pos.toList ++ i.rack.toList

/-- The clear-out scan is made at this sample (R21). -/
def State.scanDue (s : State) : Bool := s.cell == .start && s.inputs.scanFilters.all fun f => f.next.isSome

/-- The scan's command with the levels at this sample. -/
def State.scanCommand (s : State) : Instr :=
  let level (f : Filter) : Bool := f.next == some true
  .clearOutScan (BitVec.ofNat 11 (bitsToNat (s.inputs.pos.toList.map level)))
    (BitVec.ofNat 8 (bitsToNat (s.inputs.rack.toList.map level)))

/-- The commands of a sample: the guard first, then the edges, then the scan (log 19). -/
def State.sampleDue (s : State) : List Instr :=
  let i := s.inputs
  guardEdge i.guard ++ positions.flatMap (fun p => positionEdge p (i.pos.get p)) ++
    rackPositions.flatMap (fun k => rackEdgeOf k i.rack[k]) ++ indexDoneEdge i.indexDone ++
    (List.finRange 32).flatMap (fun k => maskEdge k i.mask[k]) ++ queued s.scanDue s.scanCommand

/-- The filters after a sample: the guard and edges are taken by their commands. -/
def Inputs.sample (i : Inputs) (period : Nat) : Inputs :=
  { pos := i.pos.mapPos fun _ f => f.sampled
    mask := i.mask.mapIdx fun _ f => f.sampled
    rack := i.rack.mapIdx fun _ f => f.sampled
    indexDone := if i.indexDone.edge = some true then i.indexDone.sampled else i.indexDone.followed
    guard := { i.guard with last := some i.guard.raw }
    clock := period }

/-! ## The millisecond -/

/-- One millisecond of a loaded cell: timers, then the sample of the filter clock if one falls in it. -/
def State.liveMs (s : State) : State :=
  let s1 := { s.timersDown with pending := s.pending ++ s.timersDue }
  if s1.inputs.clock ≤ 1 then
    { s1 with pending := s1.pending ++ s1.sampleDue, inputs := s1.inputs.sample s1.cfg.filterClock }
  else { s1 with inputs := { s1.inputs with clock := s1.inputs.clock - 1 } }

/-- The cell seconds count on in every cell state (R221). -/
def State.secondsMsDown (s : State) : State :=
  if s.secondsMs + 1 < 1000 then { s with secondsMs := s.secondsMs + 1 }
  else { s with secondsMs := 0, pending := s.pending ++ [.cellSecondsTick] }

/-- One millisecond in which no command waits (log 3); before the load and in CONFIG_FAULT no timer but the seconds runs (R219, R223). -/
def State.idleMs (s : State) : State := if s.loaded then s.secondsMsDown.liveMs else s.secondsMsDown

end Sys2Proof.Machine
end

