-- ==== Sys2Proof/Machine/Outputs.lean ====
section
/-! DEFINITION. The outputs of section 11.11, computed from the state. The guard's raw input cuts the valves and drives at the pins
(R222, log 24). -/

namespace Sys2Proof.Machine

/-- The cut of the guard interlock stands open at the pins (R222): nothing is driven through it. -/
def State.cut (s : State) : Bool := s.inputs.guard.raw

/-- Drives demanded for a move wait for the end of the drive hold (R24, R25). -/
def State.drives (s : State) : Bool := s.loaded && !s.cut && !s.tracker.hold

/-- FAULT is driven in CONFIG_FAULT alone (R223). -/
def State.faultPin (s : State) : Bool := s.cell == .configFault

/-- VALVE0..VALVE15 (R93, R97, R110, R112): open for a board in a pass, or for a purge; never at or above the valve count. -/
def State.valvePin (s : State) (valve : Nat) : Bool :=
  s.loaded && !s.cut && decide (valve < s.cfg.valveCount) &&
    (s.sprayIs .spraying && valveOpenFor s.intervals valve || s.spray.purge == .purging && s.cfg.purgeSet.getLsbD valve)

/-- ENTRY_STOP (R17): driven while the stop is lowered. -/
def State.entryStopPin (s : State) : Bool := s.loaded && !s.cut && s.tracker.stopLowered

/-- ENTRY_CONV (R17); for a move out of ENTRY it waits for the end of the drive hold (R24, R25). -/
def State.entryConvPin (s : State) : Bool :=
  !s.cut && (s.cell == .run || s.cell == .clearOut) &&
    if s.tracker.moves.toTransport then !s.tracker.hold else !s.occupied .entry

/-- TRANS_CONV (R17). -/
def State.transConvPin (s : State) : Bool := s.drives && (s.tracker.moves.toTransport || s.tracker.moves.toSpray)

/-- SPRAY_CONV (R99). -/
def State.sprayConvPin (s : State) : Bool := s.drives && s.tracker.moves.toGate && !s.purgeHoldsBar

/-- The exit conveyor is demanded: a record is TRANSFERRING and not cleared (R31, R32), or DIVERTING (R169). -/
def State.exitDemand (s : State) : Bool :=
  match s.table.exit with
  | none => false
  | some r =>
    match r.diversion, r.handoff with
    | some (.diverting _), _ => true
    | _, some (.transferring _ cleared _ _) => !cleared
    | _, _ => false

/-- EXIT_CONV (R31, R34, R169). -/
def State.exitConvPin (s : State) : Bool := s.drives && s.exitDemand

/-- INDEX_DRV (R137 to R140). -/
def State.indexPin (s : State) : Bool := s.loaded && !s.cut && s.tunnel.drive

/-- DIVERTER (R169). -/
def State.diverterPin (s : State) : Bool := s.drives && s.target.isSome

/-- The drive of the rack select is demanded (R169): with a diversion under way only once the drive hold has ended, as for the
diverter and the exit conveyor; with none, the output holds its last target. -/
def State.rackSelectDemand (s : State) : Bool := !(s.target.isSome && s.tracker.hold)

/-- RACK_SEL0..2 (R169): the last target given, 0 after cold reset; 0 while the drive is cut or not demanded (log 24). -/
def State.rackSelectPins (s : State) : BitVec 3 :=
  if !s.cut && s.rackSelectDemand then BitVec.ofNat 3 s.holds.rackSelect.val else 0

/-- The acceptance slot is driven, from its beginning to its end (R210). -/
def State.slotPin (s : State) : Bool :=
  match s.link.line with
  | .slot _ driven => driven
  | .busy | .idle | .receiving _ _ | .sending => false

/-- The bytes of the send under way on LINK_P and LINK_N, in the order of R207. -/
def State.sentBytes (s : State) : Option (List Byte) := s.link.inSend.map fun e => telegramBytes e.tg

end Sys2Proof.Machine
end

