-- ==== Sys2Proof/Machine/Dispatch.lean ====
section
/-! DEFINITION. One arm for each command: its meaning, in the order of spec/opcode_table.json. -/

namespace Sys2Proof.Machine

def exec (i : Instr) (s : State) : Host.Outcome State Fault Refusal :=
  match i with
  | .coldReset => Sys2Proof.Machine.execColdReset s
  | .configurationLoad image => Sys2Proof.Machine.execConfigurationLoad image s
  | .clearOutScan positions racks => Sys2Proof.Machine.execClearOutScan positions racks s
  | .occupiedEdge p => Sys2Proof.Machine.execOccupiedEdge p s
  | .emptyEdge p => Sys2Proof.Machine.execEmptyEdge p s
  | .moveStart m => Sys2Proof.Machine.execMoveStart m s
  | .idReadAnswer request answer => Sys2Proof.Machine.execIdReadAnswer request answer s
  | .entryReadTimeout => Sys2Proof.Machine.execEntryReadTimeout s
  | .orphanWaitExpiry => Sys2Proof.Machine.execOrphanWaitExpiry s
  | .offer => Sys2Proof.Machine.execOffer s
  | .accept => Sys2Proof.Machine.execAccept s
  | .decline => Sys2Proof.Machine.execDecline s
  | .received => Sys2Proof.Machine.execReceived s
  | .answerWaitExpiry => Sys2Proof.Machine.execAnswerWaitExpiry s
  | .reOfferWaitExpiry => Sys2Proof.Machine.execReOfferWaitExpiry s
  | .upstreamTransferTimeout => Sys2Proof.Machine.execUpstreamTransferTimeout s
  | .downstreamTransferTimeout k => Sys2Proof.Machine.execDownstreamTransferTimeout k s
  | .receivedRepost => Sys2Proof.Machine.execReceivedRepost s
  | .recipePart => Sys2Proof.Machine.execRecipePart s
  | .recipeActivate => Sys2Proof.Machine.execRecipeActivate s
  | .recipeDrop => Sys2Proof.Machine.execRecipeDrop s
  | .transportEncoderCount dir datum => Sys2Proof.Machine.execTransportEncoderCount dir datum s
  | .claimRequest => Sys2Proof.Machine.execClaimRequest s
  | .passStart => Sys2Proof.Machine.execPassStart s
  | .sprayEncoderCount dir rising elapsed => Sys2Proof.Machine.execSprayEncoderCount dir rising elapsed s
  | .passStallTimeout => Sys2Proof.Machine.execPassStallTimeout s
  | .speedWindowEnd => Sys2Proof.Machine.execSpeedWindowEnd s
  | .purgeClaimRequest => Sys2Proof.Machine.execPurgeClaimRequest s
  | .purgeTimerExpiry => Sys2Proof.Machine.execPurgeTimerExpiry s
  | .supplyClaim source payload => Sys2Proof.Machine.execSupplyClaim source payload s
  | .supplyDone source payload => Sys2Proof.Machine.execSupplyDone source payload s
  | .ownClaimReadback refused => Sys2Proof.Machine.execOwnClaimReadback refused s
  | .ownDoneReadback refused => Sys2Proof.Machine.execOwnDoneReadback refused s
  | .supplyTick => Sys2Proof.Machine.execSupplyTick s
  | .claimEntryExpiry station => Sys2Proof.Machine.execClaimEntryExpiry station s
  | .claimGranted => Sys2Proof.Machine.execClaimGranted s
  | .learningTimeEnd => Sys2Proof.Machine.execLearningTimeEnd s
  | .reClaimTimerExpiry => Sys2Proof.Machine.execReClaimTimerExpiry s
  | .cureTick => Sys2Proof.Machine.execCureTick s
  | .potLifeExpiry => Sys2Proof.Machine.execPotLifeExpiry s
  | .dwellExpiry => Sys2Proof.Machine.execDwellExpiry s
  | .indexStart => Sys2Proof.Machine.execIndexStart s
  | .indexDone => Sys2Proof.Machine.execIndexDone s
  | .indexTimeout => Sys2Proof.Machine.execIndexTimeout s
  | .probeReadDone zone request answer => Sys2Proof.Machine.execProbeReadDone zone request answer s
  | .probeReadTimeout => Sys2Proof.Machine.execProbeReadTimeout s
  | .diversionStart => Sys2Proof.Machine.execDiversionStart s
  | .rackOccupiedEdge r => Sys2Proof.Machine.execRackOccupiedEdge r s
  | .rackEmptyEdge r => Sys2Proof.Machine.execRackEmptyEdge r s
  | .release => Sys2Proof.Machine.execRelease s
  | .lotHold => Sys2Proof.Machine.execLotHold s
  | .lotLift => Sys2Proof.Machine.execLotLift s
  | .watchClear => Sys2Proof.Machine.execWatchClear s
  | .statusQuery => Sys2Proof.Machine.execStatusQuery s
  | .guardOpening => Sys2Proof.Machine.execGuardOpening s
  | .guardClosing => Sys2Proof.Machine.execGuardClosing s
  | .settleTimeExpiry => Sys2Proof.Machine.execSettleTimeExpiry s
  | .guardFirstLevel opened => Sys2Proof.Machine.execGuardFirstLevel opened s
  | .linkIdle => Sys2Proof.Machine.execLinkIdle s
  | .sendStart slot => Sys2Proof.Machine.execSendStart slot s
  | .clash => Sys2Proof.Machine.execClash s
  | .sendEnd refused => Sys2Proof.Machine.execSendEnd refused s
  | .telegramTaken e => Sys2Proof.Machine.execTelegramTaken e s
  | .faultyTelegram e => Sys2Proof.Machine.execFaultyTelegram e s
  | .telegramAbandoned => Sys2Proof.Machine.execTelegramAbandoned s
  | .heldTelegramEntered => Sys2Proof.Machine.execHeldTelegramEntered s
  | .cellSecondsTick => Sys2Proof.Machine.execCellSecondsTick s
  | .maskChannelEdge k present => Sys2Proof.Machine.execMaskChannelEdge k present s
  | .startBitHeard => Sys2Proof.Machine.execStartBitHeard s

end Sys2Proof.Machine
end

