-- ==== Sys2Proof/Safety.lean ====
section
/-! DEFINITION. What counts as a safe state of the cell: the laws the manual states for its table, lists, queues and claims, and the
invariants that carry them from step to step. -/

namespace Sys2Proof.Machine

/-! ## What statements about one command speak of -/

/-- What no command but a load or a cold reset changes: the queue of commands, the load, the configuration, and the millisecond count. -/
def State.fixed (s : State) : List Instr × Bool × CellCfg × Nat := (s.pending, s.loaded, s.cfg, s.secondsMs)

/-- A telegram of this station stands in the outbound queue or is held for it (R213, R214). -/
def State.posted (s : State) (dst kind : Byte) (payload : List Byte) : Prop :=
  ∃ e ∈ s.link.out ++ s.link.held, e.tg = { dst := dst, src := s.cfg.station, kind := kind, payload := payload }

/-- The values of R23, R43, R65, R83, R113, R128, R152, R186, R191 and R218, that a cold reset leaves. -/
def State.afterReset (s : State) : Prop :=
  s.cell = .start ∧ s.loaded = false ∧ s.seconds = 0 ∧
    (∀ p, s.table.get p = none) ∧
    (∀ p, (s.inputs.pos.get p).level = none) ∧ (∀ k : Fin 32, s.inputs.mask[k].level = none) ∧
    (∀ k : Fin 8, s.inputs.rack[k].level = none) ∧ s.inputs.indexDone.level = none ∧ s.inputs.guard.level = none ∧
    s.tracker.moves = { toTransport := false, toSpray := false, toGate := false } ∧ s.tracker.stopLowered = false ∧
    s.tracker.arrival = none ∧ s.tracker.arrivals = [] ∧ s.tracker.handoffCounter = 0 ∧ s.tracker.reposts = [] ∧
    s.tracker.hold = false ∧ s.tracker.settle = none ∧
    (∀ i : Fin 12, s.store.records[i] = .free) ∧
    (∀ k : Fin 8, s.store.slots[k] = { active := none, staged := none }) ∧ s.store.assembler = .idle ∧
    s.mask.phase = .idle ∧ s.mask.cand = none ∧ s.mask.x = 0 ∧ s.mask.high = 0 ∧ s.mask.accepted = none ∧
    s.spray.schedule = none ∧ s.spray.travelled = 0 ∧ s.spray.abort = none ∧ s.spray.speed = 0 ∧ s.spray.purge = .none ∧
    s.spray.purgeMark = false ∧ s.spray.purgeTimer = none ∧
    s.supply.view = [] ∧ s.supply.own = .none ∧ s.supply.holder = none ∧ s.supply.reClaim = none ∧
    s.tunnel.phase = .dwell ∧ s.tunnel.dwell = 0 ∧ s.tunnel.extensionUsed = 0 ∧ s.tunnel.fault = false ∧ s.tunnel.drive = false ∧
    s.tunnel.timeout = none ∧ s.tunnel.poll = none ∧ (∀ z, s.tunnel.zones.get z = { value := none, miss := 0 }) ∧
    s.holds.list = [] ∧ s.holds.nearFull = false ∧ (∀ k : Fin 8, s.holds.filters[k] = none) ∧ s.holds.rackSelect = 0 ∧
    (∀ k : Fin 4, s.watch[k] = { count := 0, flag := false, armed := false, edgeMark := false }) ∧
    s.link.out = [] ∧ s.link.held = [] ∧ s.link.inbound = [] ∧ s.link.noticeLost = false ∧ s.link.assemblyBroken = false ∧
    s.link.barShort = false ∧ s.link.clashes = 0 ∧ s.link.penalty = false ∧ s.link.access = none

/-- The edge command of a position sensor: `true` for an occupied edge. -/
def edgeCommand (p : Position) (b : Bool) : Instr := if b then .occupiedEdge p else .emptyEdge p

/-- The table after an index, before its check: every carried record one place on (R138). -/
def Table.shifted (t : Table) (carriesGate : Bool) : Table :=
  { t with
    gate := if carriesGate then none else t.gate
    tunnel0 := if carriesGate then t.gate else none
    tunnel1 := t.tunnel0
    tunnel2 := t.tunnel1
    tunnel3 := t.tunnel2
    tunnel4 := t.tunnel3
    tunnel5 := t.tunnel4
    exit := if t.tunnel5.isSome then t.tunnel5 else t.exit }

/-- The recipe store after a record of the table has left it: a RETIRING record that no other board is bound to is FREE (R49, R59). -/
def State.storeWithout (s : State) (r : Record) : Store :=
  { s.store with records := .ofFn fun i =>
      if r.recipe = some i ∧ s.store.records[i].isRetiring = true ∧ s.refCount i ≤ 1 then .free else s.store.records[i] }

/-- The SUPPLY_DONE of the own claim (R115). -/
def State.doneTelegram (s : State) : OutEntry :=
  { postings := 1, tg :=
    { dst := 0, src := s.cfg.station, kind := kindSupplyDone, payload :=
      s.cfg.group :: (if s.supply.claimSerial.isSome then 1 else 0) :: optWord s.supply.claimSerial } }

/-- A link after NOTICE BOARD_REMOVED of a record at a position (R15, R216, section 11.6); the bytes of its reasons as in log 31. -/
def State.removedNotice (s : State) (l : Link) (p : Position) (r : Record) : Link :=
  if s.cfg.terminal = 0 then l
  else l.post { postings := 1, tg :=
    { dst := s.cfg.terminal, src := s.cfg.station, kind := kindNotice, payload :=
      3 :: byteOf (positionBit p) :: (if r.trav.serial.isSome then 1 else 0) ::
        (optWord r.trav.serial ++ be16 r.trav.variant ++ be16 r.trav.lot ++ be24 r.trav.reasons) } }

/-- What can be asked of a board's record whatever starts at an event: its serial, variant, lot and side (R4). -/
def Record.identity (r : Record) : Option Serial × Half × Half × Side :=
  (r.trav.serial, r.trav.variant, r.trav.lot, r.trav.sideUp)

/-! ## Serials (R5) -/

/-- The serials recorded in the board table. -/
def State.tableSerials (s : State) : List Serial := s.table.toList.filterMap fun o => o.bind fun r => r.trav.serial

/-- The serials recorded in the arrival list. -/
def State.arrivalSerials (s : State) : List Serial := s.tracker.arrivals.filterMap fun e => e.trav.serial

/-- The serials recorded in the hold list. -/
def State.heldSerials (s : State) : List Serial := s.holds.list.filterMap (·.serial)

/-- The law of R5: no serial is recorded twice among the board table, the arrival list and the hold list together. -/
def State.serialLaw (s : State) : Prop := (s.tableSerials ++ s.arrivalSerials ++ s.heldSerials).Nodup

/-! ## The link's queues (R212, R213, R215) -/

/-- The queues hold at most 8 telegrams, the outbound queue is ordered by class behind the telegram in its send, and the CLASH count
is at most 255. No telegram is received before the load; and one that is to be taken at the end of its slot (R210, R211) finds room. -/
def State.queueLaw (s : State) : Prop :=
  s.link.out.length ≤ Config.queueRoom ∧ s.link.inbound.length ≤ Config.queueRoom ∧ s.link.clashes ≤ 255 ∧
    (s.link.waitingOut.Pairwise fun a b => a.cls ≤ b.cls) ∧ (s.loaded = false → s.link.line = .busy) ∧
    ∀ t, s.link.line = .slot (some t) false → s.concerns t = true → classOf t.kind ≠ 0 →
      s.link.inbound.length < Config.queueRoom

/-! ## The supply view (R116, R122, R123) -/

/-- One entry a station; no claim before the load; and a granted claim has fewer than L entries ahead of its own entry. -/
def State.supplyLaw (s : State) : Prop :=
  (s.supply.view.map (·.station)).Nodup ∧ (s.loaded = false → s.supply.own = .none) ∧
    (s.supply.own = .granted → ∃ n, s.entriesAhead = some n ∧ n < s.cfg.limit)

/-! ## Spraying (R102, R110, R122) -/

/-- A record SPRAYING stands at SPRAY alone, with the board's claim granted or an abort pending; and a purge under way has the purge's
claim granted and its timer running. -/
def State.sprayLaw (s : State) : Prop :=
  (∀ p r, s.table.get p = some r → r.spray = .spraying → p = .spray) ∧
    (s.sprayIs .spraying = true → s.supply.own = .granted ∧ s.supply.holder = some .board ∨ s.spray.abort.isSome = true) ∧
    (s.spray.purge = .purging ↔ s.spray.purgeTimer.isSome = true) ∧
    (s.spray.purge = .purging → s.supply.own = .granted ∧ s.supply.holder = some .purge)

/-! ## EXIT, the offer and the rack (R7, R29, R165, R168) -/

/-- No record is at EXIT and no index is under way in START. -/
def State.startLaw (s : State) : Prop := s.cell = .start → s.table.exit = none ∧ s.tunnel.phase ≠ .indexing

/-- Handoff and diversion states are those of the record at EXIT alone (R7, R168), and the candidate stands at ENTRY or TRANSPORT (R68). -/
def State.placeLaw (s : State) : Prop :=
  (∀ p r, p ≠ .exit → s.table.get p = some r → r.handoff = none ∧ r.diversion = none) ∧
    ∀ p, s.mask.cand = some p → p = .entry ∨ p = .transport

/-- The law of R165: each entry of the hold list on a rack position of its own, which is not the target of a diversion. -/
def State.rackLaw (s : State) : Prop :=
  (s.holds.list.map (·.rack)).Nodup ∧ ∀ t, s.target = some t → ∀ e ∈ s.holds.list, e.rack ≠ t

/-- A record OFFERED has an empty reason set and is not in a diversion (R29, R33). -/
def State.offerLaw (s : State) : Prop :=
  ∀ r n w, s.table.exit = some r → r.handoff = some (.offered n w) → r.clean = true ∧ r.diversion = none

/-- The laws about EXIT together. -/
def State.exitLaw (s : State) : Prop := s.startLaw ∧ s.placeLaw ∧ s.rackLaw ∧ s.offerLaw

/-! ## The recipe store (R48, R49, R62) -/

/-- A record of the store is ACTIVE. -/
def RecipeCell.isActive : RecipeCell → Bool
  | .active _ => true
  | .free | .assembled _ | .staged _ | .retiring _ => false

/-- A record of the store is STAGED. -/
def RecipeCell.isStaged : RecipeCell → Bool
  | .staged _ => true
  | .free | .assembled _ | .active _ | .retiring _ => false

/-- A slot's active and staged references name records in those states, no two slots name one record, and a board's recipe is ACTIVE
or RETIRING. -/
def State.storeLaw (s : State) : Prop :=
  (∀ (k : Fin 8) (i : Fin 12), s.store.slots[k].active = some i → s.store.records[i].isActive = true) ∧
    (∀ (k : Fin 8) (i : Fin 12), s.store.slots[k].staged = some i → s.store.records[i].isStaged = true) ∧
    (∀ (k l : Fin 8) (i : Fin 12), s.store.slots[k].active = some i → s.store.slots[l].active = some i → k = l) ∧
    (∀ (k l : Fin 8) (i : Fin 12), s.store.slots[k].staged = some i → s.store.slots[l].staged = some i → k = l) ∧
    ∀ p r i, s.table.get p = some r → r.recipe = some i →
      s.store.records[i].isActive = true ∨ s.store.records[i].isRetiring = true

/-! ## Before the load (R218, R219, R223) -/

/-- What a cell that is not loaded still holds of its own: its cell state, the seconds, the filters' raw pins, the request numbers
and the model's own fields. Everything else, the filters' samples and levels among it, is as cold reset leaves it. -/
def State.blankLaw (s : State) : Prop :=
  s.loaded = false →
    (s.cell = .start ∨ s.cell = .configFault) ∧
      s = { s.cold with
        cell := s.cell, seconds := s.seconds, secondsMs := s.secondsMs }

/-- The outputs that the guard cuts are off while its raw input stands open (R222). -/
def State.cutLaw (s : State) : Prop :=
  s.cut = true →
    (∀ v, s.valvePin v = false) ∧ s.entryStopPin = false ∧ s.entryConvPin = false ∧ s.transConvPin = false ∧
      s.sprayConvPin = false ∧ s.exitConvPin = false ∧ s.indexPin = false ∧ s.diverterPin = false ∧ s.rackSelectPins = 0

end Sys2Proof.Machine
end

