-- ==== Sys2Proof/Certificates/Slice0/Obligations.lean ====
section
/-! DEFINITION. The statements for the provers. A command's statement gives the whole next state, as the state before with the fields the rules
change; where other work may start at the same event, the next state is `settle` or `starts` of that one (log 2), and
`Obligations.WhatStartsMovesNoBoard` says what those may change. -/

open Sys2Proof Sys2Proof.Machine

/-! ## The machine -/

/-- A step with a command at the front of the queue runs that command on the state with the queue's rest (log 1). -/
def Obligations.StepRunsFrontCommand : Prop :=
  ∀ (c : Instr) (s : State), step { s with pending := c :: s.pending } = exec c s

/-- Every command of the table answers a next state: the manual names no event that stops the cell. No command but
CELL_SECONDS_TICK and COLD_RESET changes the seconds, none takes commands from the queue or puts any there, and none but a load
and a cold reset changes the configuration or the load. CELL_SECONDS_TICK counts in every cell state and wraps. CONFIG_FAULT is left by
COLD_RESET alone, and a cell that is not loaded stays, after every step, as cold reset leaves it, but for its cell state, its seconds
and its raw pins; its filters hold no sample and no level, and the filter clock stands. That before the
configuration load, and in CONFIG_FAULT, no other command but COLD_RESET and CONFIGURATION_LOAD has an effect is the model's reading of
R218, R219 and R223 together (DEDUCED, log 10). -/
def Obligations.EveryCommandAnswersNext : Prop :=
  (
  ∀ (c : Instr) (s : State), ∃ t, exec c s = .next t ∧ t.pending = s.pending ∧
    (c ≠ .coldReset → c ≠ .cellSecondsTick → t.seconds = s.seconds) ∧
    (c ≠ .coldReset → (∀ im, c ≠ .configurationLoad im) → t.fixed = s.fixed)) ∧
  (
  (∀ s, exec .cellSecondsTick s = .next { s with seconds := s.seconds + 1 }) ∧
    (∀ (c : Instr) (s : State), s.loaded = false → c ≠ .coldReset → c ≠ .cellSecondsTick → (∀ im, c ≠ .configurationLoad im) →
      exec c s = .next s) ∧
    (∀ (c : Instr) (s t : State), s.cell = .configFault → s.loaded = false → c ≠ .coldReset → exec c s = .next t →
      t.cell = .configFault ∧ t.loaded = false) ∧
    ∀ s t : State, s.blankLaw → step s = .next t → t.blankLaw)

/-- With no command waiting, a step of a loaded cell is one millisecond (DESIGN CHOICE, log 3): every timer counts down by one, but for
those the drive hold suspends (R44) and those not running; the periods of 16 ms, 10 ms and 1 s go round; at a sample of the filter clock
each filter takes two agreeing samples (a level whose edge is a command waits for it, log 6); and nothing else changes. A command
is queued exactly where its timer runs out or its edge stands (their order is log 19). That the 0.1 ms base moves by ten (log 18) and
that an open access count stands at 127 (log 27) is the model's (DESIGN CHOICE). -/
def Obligations.IdleStepIsOneMillisecond : Prop :=
  ∀ s : State, s.pending = [] → s.loaded = true → ∃ t, step s = .next t ∧
    let hold := s.tracker.hold
    let less (o : Option Nat) : Option Nat := o.map (· - 1)
    let round (period n : Nat) : Nat := if n ≤ 1 then period else n - 1
    let samples := s.inputs.clock ≤ 1
    let late (h : Handoff) : Handoff := match h with
      | .offered n (.answer k) => .offered n (.answer (k - 1))
      | .offered n (.reOffer k) => .offered n (.reOffer (k - 1))
      | .transferring n c r (some k) => if hold then h else .transferring n c r (some (k - 1))
      | _ => h
    let sampled (f : Filter) : Filter := if samples then
        { f with last := some f.raw, level := if f.level = none ∧ f.last = some f.raw then some f.raw else f.level } else f
    let edge (f : Filter) (b : Bool) : Prop := samples ∧ f.raw = b ∧ f.last = some b ∧ f.level = some (!b)
    let out (o : Option Nat) : Prop := ∃ k, o = some k ∧ k ≤ 1
    let levelOf (f : Filter) : Option Bool := if f.last = some f.raw then some f.raw else f.level
    t = { s with
      pending := t.pending
      secondsMs := if s.secondsMs < 999 then s.secondsMs + 1 else 0
      inputs := t.inputs
      table := { s.table with exit := s.table.exit.map fun r => { r with handoff := r.handoff.map late } }
      tracker := { s.tracker with
        arrival := s.tracker.arrival.map fun a => match a with
          | .reading k => .reading (k - 1)
          | .orphan o k => if hold then a else .orphan o (k - 1)
        arrivals := if hold then s.tracker.arrivals else s.tracker.arrivals.map fun e => { e with timer := e.timer - 1 }
        reposts := s.tracker.reposts.map fun r => { r with timer := r.timer - 1 }
        settle := less s.tracker.settle }
      spray := { s.spray with
        abort := less s.spray.abort
        purgeTimer := less s.spray.purgeTimer
        tenths := s.spray.tenths + 10
        windowMs := round 16 s.spray.windowMs }
      supply := { s.supply with
        reClaim := less s.supply.reClaim
        learning := less s.supply.learning
        tickMs := round 10 s.supply.tickMs }
      tunnel := { s.tunnel with
        timeout := less s.tunnel.timeout
        poll := s.tunnel.poll.map fun p => { p with timer := p.timer - 1 }
        cureMs := round 1000 s.tunnel.cureMs }
      link := { s.link with access := s.link.access.map fun _ => 127 } } ∧
    ((∀ p, t.inputs.pos.get p = sampled (s.inputs.pos.get p)) ∧ (∀ k : Fin 32, t.inputs.mask[k] = sampled s.inputs.mask[k]) ∧
      (∀ k : Fin 8, t.inputs.rack[k] = sampled s.inputs.rack[k]) ∧
      t.inputs.indexDone = (let f := s.inputs.indexDone
        if samples then { f with
          last := some f.raw
          level := if f.last = some f.raw ∧ ¬ (f.raw = true ∧ f.level = some false) then some f.raw else f.level } else f) ∧
      t.inputs.guard = (if samples then { s.inputs.guard with last := some s.inputs.guard.raw } else s.inputs.guard) ∧
      t.inputs.clock = if samples then s.cfg.filterClock else s.inputs.clock - 1) ∧
    ((.cellSecondsTick ∈ t.pending ↔ 999 ≤ s.secondsMs) ∧ (.supplyTick ∈ t.pending ↔ s.supply.tickMs ≤ 1) ∧
      (.speedWindowEnd ∈ t.pending ↔ s.spray.windowMs ≤ 1) ∧ (.cureTick ∈ t.pending ↔ s.tunnel.cureMs ≤ 1) ∧
      (.learningTimeEnd ∈ t.pending ↔ out s.supply.learning) ∧ (.reClaimTimerExpiry ∈ t.pending ↔ out s.supply.reClaim) ∧
      (.passStallTimeout ∈ t.pending ↔ out s.spray.abort) ∧ (.purgeTimerExpiry ∈ t.pending ↔ out s.spray.purgeTimer) ∧
      (.indexTimeout ∈ t.pending ↔ out s.tunnel.timeout) ∧ (.settleTimeExpiry ∈ t.pending ↔ out s.tracker.settle) ∧
      (.probeReadTimeout ∈ t.pending ↔ ∃ rd, s.tunnel.poll = some rd ∧ rd.timer ≤ 1) ∧
      (.answerWaitExpiry ∈ t.pending ↔ ∃ r n k, s.table.exit = some r ∧ r.handoff = some (.offered n (.answer k)) ∧ k ≤ 1) ∧
      (.reOfferWaitExpiry ∈ t.pending ↔ ∃ r n k, s.table.exit = some r ∧ r.handoff = some (.offered n (.reOffer k)) ∧ k ≤ 1) ∧
      (.upstreamTransferTimeout ∈ t.pending ↔ hold = false ∧ ∃ r n c v k, s.table.exit = some r ∧
        r.handoff = some (.transferring n c v (some k)) ∧ k ≤ 1) ∧
      (.entryReadTimeout ∈ t.pending ↔ ∃ k, s.tracker.arrival = some (.reading k) ∧ k ≤ 1) ∧
      (.orphanWaitExpiry ∈ t.pending ↔ hold = false ∧ ∃ o k, s.tracker.arrival = some (.orphan o k) ∧ k ≤ 1) ∧
      (.downstreamTransferTimeout 1 ∈ t.pending ↔ hold = false ∧ ∃ e f, s.tracker.arrivals[0]? = some e ∧
        s.tracker.arrivals[1]? = some f ∧ 1 < e.timer ∧ f.timer ≤ 1) ∧
      t.pending.count (.downstreamTransferTimeout 0) + t.pending.count (.downstreamTransferTimeout 1) =
        (if hold then 0 else ((s.tracker.arrivals.take 2).filter fun e => decide (e.timer ≤ 1)).length) ∧
      t.pending.count .receivedRepost = (s.tracker.reposts.filter fun r => decide (r.timer ≤ 1)).length) ∧
    ((∀ p, (.occupiedEdge p ∈ t.pending ↔ edge (s.inputs.pos.get p) true) ∧
        (.emptyEdge p ∈ t.pending ↔ edge (s.inputs.pos.get p) false)) ∧
      (∀ k : Fin 8, (.rackOccupiedEdge k ∈ t.pending ↔ edge s.inputs.rack[k] true) ∧
        (.rackEmptyEdge k ∈ t.pending ↔ edge s.inputs.rack[k] false)) ∧
      (∀ (k : Fin 32) b, .maskChannelEdge k b ∈ t.pending ↔ edge s.inputs.mask[k] b) ∧
      (.indexDone ∈ t.pending ↔ edge s.inputs.indexDone true) ∧
      (.guardOpening ∈ t.pending ↔ edge s.inputs.guard true) ∧ (.guardClosing ∈ t.pending ↔ edge s.inputs.guard false) ∧
      (∀ b, .guardFirstLevel b ∈ t.pending ↔ samples ∧ s.inputs.guard.level = none ∧ s.inputs.guard.raw = b ∧
        s.inputs.guard.last = some b) ∧
      ∀ ps rs, .clearOutScan ps rs ∈ t.pending ↔ samples ∧ s.cell = .start ∧
        (∀ p, levelOf (s.inputs.pos.get p) = some (ps.getLsbD (positionBit p))) ∧
        ∀ k : Fin 8, levelOf s.inputs.rack[k] = some (rs.getLsbD k.val)) ∧
    ∀ c ∈ t.pending, match c with
      | .cellSecondsTick | .supplyTick | .speedWindowEnd | .cureTick | .learningTimeEnd | .reClaimTimerExpiry | .passStallTimeout
      | .purgeTimerExpiry | .indexTimeout | .settleTimeExpiry | .probeReadTimeout | .answerWaitExpiry | .reOfferWaitExpiry
      | .upstreamTransferTimeout | .entryReadTimeout | .orphanWaitExpiry | .downstreamTransferTimeout _ | .receivedRepost
      | .occupiedEdge _ | .emptyEdge _ | .rackOccupiedEdge _ | .rackEmptyEdge _ | .maskChannelEdge _ _ | .indexDone | .guardOpening
      | .guardClosing | .guardFirstLevel _ | .clearOutScan _ _ => True
      | _ => False

/-- The state after reset has the values the rules give, and meets every law of Safety.lean. COLD_RESET leaves every block as
its rule says, from every state. The pins are as they were (log 7), the request numbers go on (log 8), and the queue of commands
is the model's own. -/
def Obligations.ColdResetLeavesResetValues : Prop :=
  (
  State.reset.afterReset ∧ State.reset.pending = [] ∧ State.reset.serialLaw ∧ State.reset.queueLaw ∧ State.reset.supplyLaw ∧
    State.reset.sprayLaw ∧ State.reset.exitLaw ∧ State.reset.storeLaw ∧ State.reset.blankLaw) ∧
  (
  ∀ s, ∃ t, exec .coldReset s = .next t ∧ t.afterReset ∧ t.pending = s.pending ∧ t.free = s.free ∧
    t.tracker.idRequest = s.tracker.idRequest ∧ t.tunnel.probeRequest = s.tunnel.probeRequest ∧
    (∀ p, (t.inputs.pos.get p).raw = (s.inputs.pos.get p).raw) ∧ t.inputs.guard.raw = s.inputs.guard.raw)

/-- CONFIGURATION_LOAD of a 97-byte image after cold reset: an image with the right marker, format, length, CRC and station
address is taken, each value from its bytes with its clamp, and the counters are loaded; any other makes the cell CONFIG_FAULT;
and a load is made once. That the periods of 16 ms, 10 ms and 1 s start whole at the load is the model's reading (DEDUCED, log 9), and
so is that a watch counter's source byte holds the codes of section 11.6 (DEDUCED, log 55). -/
def Obligations.ConfigurationLoadTakesImage : Prop :=
  ∀ (s : State) (im : List Byte), im.length = 97 →
    let b (i : Nat) : Nat := (byteAt im i).toNat
    let h (i : Nat) : Nat := 256 * b i + b (i + 1)
    let near (lo hi n : Nat) : Nat := if n < lo then lo else if hi < n then hi else n
    let good := byteAt im 0 = 0xB7 ∧ byteAt im 1 = 0x31 ∧ byteAt im 2 = 0x01 ∧ h 3 = 90 ∧
      (crc16 (im.take 95)).toNat = h 95 ∧ 1 ≤ b 5 ∧ b 5 ≤ 31
    (s.cell = .start → s.loaded = false → good → ∃ t, exec (.configurationLoad im) s = .next t ∧
      t = { s with
        loaded := true
        cfg := t.cfg
        inputs := { s.inputs with clock := t.cfg.filterClock }
        spray := { s.spray with windowMs := 16 }
        supply := { s.supply with tickMs := 10, learning := if b 41 = 0 then none else some (near 0 60 (b 41) * 1000) }
        tunnel := { s.tunnel with cureMs := 1000 }
        watch := t.watch
        link := { s.link with barShort := decide (near 0 8191 (h 19) < near 0 8191 (h 21)) } } ∧
      t.cfg.station = byteAt im 5 ∧
      t.cfg.upstream = (if b 6 ≤ 31 then byteAt im 6 else 0) ∧ t.cfg.downstream = (if b 7 ≤ 31 then byteAt im 7 else 0) ∧
      t.cfg.terminal = (if b 8 ≤ 31 then byteAt im 8 else 0) ∧
      t.cfg.transferTimeout = near 1 30 (b 9) ∧ t.cfg.orphanWait = near 1 10 (b 10) ∧
      t.cfg.filterClock = (if b 11 ≤ 1 then 1 else if b 11 = 2 then 2 else if b 11 ≤ 4 then 4 else 8) ∧
      t.cfg.maskCount = near 1 32 (b 12) ∧ t.cfg.maskY0 = near 0 8191 (h 13) ∧ t.cfg.maskPitch = near 1 1023 (h 15) ∧
      t.cfg.inset = near 1 200 (b 17) ∧ t.cfg.maskGuard = near 0 200 (b 18) ∧ t.cfg.barToStop = near 0 8191 (h 19) ∧
      t.cfg.largestLength = near 0 8191 (h 21) ∧ t.cfg.valveCount = near 1 16 (b 23) ∧ t.cfg.valveY0 = near 0 8191 (h 24) ∧
      t.cfg.valvePitch = near 1 1023 (h 26) ∧ t.cfg.swath = near 1 1023 (h 28) ∧ t.cfg.minOpen = b 30 ∧
      t.cfg.stopToBar = near 0 8191 (h 31) ∧ t.cfg.lagOn = near 0 200 (b 33) ∧ t.cfg.lagOff = near 0 200 (b 34) ∧
      t.cfg.edge = (if b 35 = 2 then .both else .rising) ∧
      (∀ j, j < 16 → t.cfg.purgeSet.getLsbD j = ((halfAt im 36).getLsbD j && decide (j < near 1 16 (b 23)))) ∧
      t.cfg.purgeTime = near 5 100 (b 38) ∧ t.cfg.group = byteAt im 39 ∧ t.cfg.limit = near 1 4 (b 40) ∧
      t.cfg.learningTime = near 0 60 (b 41) ∧ t.cfg.zoneCount = near 1 3 (b 42) ∧
      (∀ p z, slotZoneOf t.cfg.slotZone p = some z →
        zoneIndex z = min (b (39 + positionBit p)) (t.cfg.zoneCount - 1)) ∧
      t.cfg.baseDwell = near 10 600 (h 49) ∧ t.cfg.extensionStep = near 5 120 (b 51) ∧ t.cfg.maxExtension = near 0 1800 (h 52) ∧
      t.cfg.nearFull = (if b 54 = 0 then 6 else near 1 8 (b 54)) ∧
      ∀ k : Fin 4, t.watch[k] = { count := halfAt im (56 + 10 * k.val), flag := false, armed := false, edgeMark := false } ∧
        ∀ i, i = 55 + 10 * k.val →
          t.cfg.watch[k].reload = halfAt im (i + 1) ∧
          t.cfg.watch[k].source = (match b i with
            | 1 => .cleanExit | 2 => .clipped | 3 => .filmMargin | 4 => .cureMargin | 5 => .jetDots | 6 => .holdPlaced | _ => .off) ∧
          t.cfg.watch[k].threshold = max (-65535) (min 65535 (wordAt im (i + 3)).toInt) ∧
          t.cfg.watch[k].compare = (if b (i + 7) = 2 then .below else .atLeast) ∧
          t.cfg.watch[k].mode = (if b (i + 8) = 2 then .edge else .level) ∧
          t.cfg.watch[k].action = (match b (i + 9) with
            | 1 => .notice | 2 => .audit | 3 => .purge | _ => .none)) ∧
    (s.cell = .start → s.loaded = false → ¬ good → exec (.configurationLoad im) s = .next { s with cell := .configFault }) ∧
    (s.cell ≠ .start ∨ s.loaded = true → exec (.configurationLoad im) s = .next s)

/-- CLEAR_OUT_SCAN in START after the load, with an empty table: a STRANDED record at each occupied position, the hold list
rebuilt from the rack sensors, with one NOTICE RACK_NEAR_FULL where its count crosses the threshold, the tunnel in DWELL with base_dwell, and the cell in CLEAR_OUT, or without a board in RUN, or
STOPPED under the drive hold. -/
def Obligations.ClearOutScanFindsBoards : Prop :=
  ∀ (s : State) (ps : BitVec 11) (rs : BitVec 8), s.cell = .start → s.loaded = true → (∀ p, s.table.get p = none) →
    ∃ t, exec (.clearOutScan ps rs) s = .next t ∧
      t.cell = (if ps ≠ 0 then .clearOut else if s.tracker.hold then .stopped else .run) ∧
      (∀ p, ps.getLsbD (positionBit p) = false → t.table.get p = none) ∧
      (∀ p, ps.getLsbD (positionBit p) = true → ∃ r, t.table.get p = some r ∧
        r.trav = { Traveller.blank with reasons := reasonBit .stranded } ∧ r.spray = .skipped ∧ r.recipe = none ∧
        r.handoff = none ∧ (r.diversion.isSome = true ↔ p = .exit)) ∧
      t.holds.list = (List.finRange 8).filterMap (fun k => if rs.getLsbD k.val then
        some { rack := k, serial := none, variantLot := none, reasons := reasonBit .stranded, time := s.seconds, state := .held }
        else none) ∧
      t.holds.nearFull = decide (s.cfg.nearFull ≤ t.holds.list.length) ∧
      (s.spray.purge ≠ .requested → t.link = if s.cfg.nearFull ≤ t.holds.list.length ∧ s.holds.nearFull = false then
        (s.notice 5 [byteOf t.holds.list.length, byteOf s.cfg.nearFull]).link else s.link) ∧
      (∀ p, (t.inputs.pos.get p).level = some (ps.getLsbD (positionBit p))) ∧
      (∀ k : Fin 8, t.inputs.rack[k].level = some (rs.getLsbD k.val)) ∧
      t.tunnel.phase = .dwell ∧ t.tunnel.dwell = s.cfg.baseDwell ∧ t.tunnel.extensionUsed = 0 ∧
      t.fixed = s.fixed ∧ t.store = s.store ∧ t.seconds = s.seconds ∧ t.holds.filters = s.holds.filters

/-! ## The board tracker: starts, moves and edges (chapter 1) -/

/-- What starts at the end of an event (diversion, index, pass, moves, claims) moves no board: every record stays where it is
with its serial, variant, lot and side, and keeps its reasons; moves under way stay under way; the stores, lists and inputs are
left; and under the drive hold nothing starts. The clear-out test of R22 comes before it where a record may have left. It is what the
commands of the starts do one after the other: diversion, index, pass, the moves into GATE, SPRAY and TRANSPORT, the claim of the board and
the claim of a purge. That order, where R13 and R25 do not give it, is the model's (DESIGN CHOICE, log 2). -/
def Obligations.WhatStartsMovesNoBoard : Prop :=
  (∀ s : State, s.starts = { s with
      table := s.starts.table
      tracker := { s.tracker with moves := s.starts.tracker.moves, stopLowered := s.starts.tracker.stopLowered }
      mask := s.starts.mask
      spray := s.starts.spray
      supply := s.starts.supply
      tunnel := { s.tunnel with
        phase := s.starts.tunnel.phase
        drive := s.starts.tunnel.drive
        timeout := s.starts.tunnel.timeout
        carriesGate := s.starts.tunnel.carriesGate }
      holds := { s.holds with rackSelect := s.starts.holds.rackSelect }
      watch := s.starts.watch
      link := s.starts.link }) ∧
    (∀ (s : State) p, (s.starts.table.get p).map Record.identity = (s.table.get p).map Record.identity) ∧
    (∀ (s : State) p r t x, s.table.get p = some r → s.starts.table.get p = some t → hasReason r.trav.reasons x = true →
      hasReason t.trav.reasons x = true) ∧
    (∀ s : State, (s.tracker.moves.toTransport = true → s.starts.tracker.moves.toTransport = true) ∧
      (s.tracker.moves.toSpray = true → s.starts.tracker.moves.toSpray = true) ∧
      (s.tracker.moves.toGate = true → s.starts.tracker.moves.toGate = true)) ∧
    (∀ s : State, s.tracker.hold = true → s.starts = s) ∧
    (∀ s : State, s.cell = .clearOut → (∀ p, s.table.get p = none) →
      s.settle = { s with cell := if s.tracker.hold then .stopped else .run }.starts) ∧
    (∀ s : State, s.cell ≠ .clearOut ∨ (∃ p, s.table.get p ≠ none) → s.settle = s.starts) ∧
    ∀ s : State, s.loaded = true →
      [Instr.diversionStart, .indexStart, .passStart, .moveStart .toGate, .moveStart .toSpray, .moveStart .toTransport, .claimRequest,
          .purgeClaimRequest].foldl (fun o c => match o with
        | .next t => exec c t
        | .fault f => .fault f
        | .refused r => .refused r) (.next s : Host.Outcome State Fault Refusal) = .next s.starts

/-- MOVE_START: the move out of ENTRY starts with a record at ENTRY, TRANSPORT free and no drive hold; its stop is lowered, it
becomes the mask checker's candidate, and it is bound to the recipe of the lowest slot that matches, or gains NO_RECIPE; a
record made STRANDED, or any in CLEAR_OUT, is bound to none. A recipe matches where the variants agree in every bit where its mask is 0 and
its side is the board's or EITHER. That a record made STRANDED is known by its reason and its spray state SKIPPED is the model's reading
(DEDUCED, log 30). That x and the high mark keep their last values when the candidate is armed is the
model's (DESIGN CHOICE, log 47). The moves into SPRAY and GATE start in the same way. Under the
drive hold no move starts. -/
def Obligations.MoveStartsUnderItsConditions : Prop :=
  (∀ s r, s.loaded = true → s.table.entry = some r → s.tracker.moves.toTransport = false → s.table.transport = none →
    s.tracker.hold = false → ∃ b, exec (.moveStart .toTransport) s = .next { s with
        table := { s.table with entry := some b }
        tracker := { s.tracker with moves := { s.tracker.moves with toTransport := true }, stopLowered := true }
        mask := { s.mask with phase := .armed, cand := some .entry, sampled := [] } } ∧
      (r.madeStranded = true ∨ s.cell = .clearOut → b = r) ∧
      (r.madeStranded = false → s.cell ≠ .clearOut →
        (∀ (k : Fin 8) i rc, s.store.slots[k].active = some i → s.store.records[i].recipe = some rc →
          rc.hits r.trav.variant r.trav.sideUp = true →
          (∀ (j : Fin 8) l rd, j < k → s.store.slots[j].active = some l → s.store.records[l].recipe = some rd →
            rd.hits r.trav.variant r.trav.sideUp = false) →
          b = { r with recipe := some i, verdicts := rc.zones.map fun _ => .pending }) ∧
        ((∀ (k : Fin 8) i rc, s.store.slots[k].active = some i → s.store.records[i].recipe = some rc →
          rc.hits r.trav.variant r.trav.sideUp = false) →
          b = { r with
            recipe := none
            verdicts := []
            trav := { r.trav with reasons := addReason r.trav.reasons .noRecipe } }))) ∧
    (∀ s r, s.loaded = true → s.table.transport = some r → s.tracker.moves.toSpray = false → s.table.spray = none →
      s.tracker.hold = false → exec (.moveStart .toSpray) s = .next { s with
        tracker := { s.tracker with moves := { s.tracker.moves with toSpray := true } } }) ∧
    (∀ s r, s.loaded = true → s.table.spray = some r → r.spray = .skipped → s.tracker.moves.toGate = false →
      s.table.gate = none → s.tracker.hold = false → exec (.moveStart .toGate) s = .next { s with
        tracker := { s.tracker with moves := { s.tracker.moves with toGate := true } } }) ∧
    (∀ s m, s.tracker.hold = true → exec (.moveStart m) s = .next s) ∧
    (∀ (rc : Recipe) (variant : Half) (side : Side), rc.hits variant side = true ↔
      (∀ i, i < 16 → rc.mask.getLsbD i = false → variant.getLsbD i = rc.base.getLsbD i) ∧
        (rc.side = .either ∨ rc.side = .top ∧ side = .top ∨ rc.side = .bottom ∧ side = .bottom)) ∧
    ∀ r : Record, r.madeStranded = true ↔ hasReason r.trav.reasons .stranded = true ∧ r.spray = .skipped

/-- OCCUPIED_EDGE at a free position that no move involves and no index covers: at ENTRY in RUN or STOPPED an arrival begins,
with its ID read and a 500 ms timer; elsewhere, and at ENTRY in CLEAR_OUT, a STRANDED record is made, which at TRANSPORT becomes
the mask checker's candidate and at EXIT is handed for diversion. EMPTY_EDGE where no move involves the position and no index
covers it: a record there has been lifted off and leaves the table with NOTICE BOARD_REMOVED (the order of its reasons' bytes is
log 31), from SPRAY with its schedule discarded and its claim ended, and from EXIT with its OFFER withdrawn, each before the notice is
posted (the model's order, log 46); at ENTRY without a record the arrival ends; and either way ENTRY's stop rises.
That x and the high mark keep their last values when a candidate is made or lifted off is the
model's (DESIGN CHOICE, log 47).
That an edge command sets the pin's raw level too is the model's (DESIGN CHOICE, log 6). -/
def Obligations.BoardsAppearAndAreLifted : Prop :=
  (
  ∀ s p, s.tracking = true → s.sensorEmpty p = true → s.table.get p = none → s.conveyed p = false → s.covered p = false →
    (p = .entry → s.cell ≠ .clearOut → s.tracker.arrival = none →
      exec (.occupiedEdge p) s = .next (State.settle { s.setLevel p true with
        tracker := { s.tracker with arrival := some (.reading 500), idRequest := s.tracker.idRequest + 1 } })) ∧
    (p ≠ .entry ∨ s.cell = .clearOut → ∃ r, exec (.occupiedEdge p) s = .next (State.settle { s.setLevel p true with
        table := s.table.put p (some r)
        mask := if p = .transport then { s.mask with phase := .armed, cand := some p, sampled := [] } else s.mask }) ∧
      r.trav = { Traveller.blank with reasons := reasonBit .stranded } ∧ r.spray = .skipped ∧ r.recipe = none ∧
      r.verdicts = [] ∧ r.handoff = none ∧ r.film = none ∧ r.sprayEnd = none ∧ r.dose = 0 ∧ r.elapsed = 0 ∧
      r.diversion = if p = .exit then some .waitingRack else none)) ∧
  (
  (∀ s p r, s.tracking = true → s.occupied p = true → s.conveyed p = false → s.covered p = false → p ≠ .exit → p ≠ .spray →
    s.table.get p = some r → r.handoff = none → exec (.emptyEdge p) s = .next (State.settle { s.setLevel p false with
        table := s.table.put p none
        tracker := { s.tracker with stopLowered := if p = .entry then false else s.tracker.stopLowered }
        store := s.storeWithout r
        mask := if s.mask.cand = some p then { s.mask with phase := .idle, cand := none, sampled := [] } else s.mask
        link := s.removedNotice s.link p r })) ∧
    (∀ s r, s.tracking = true → s.occupied .spray = true → s.conveyed .spray = false → s.table.spray = some r →
      r.handoff = none → s.mask.cand ≠ some .spray → ∃ v l, exec (.emptyEdge .spray) s = .next (State.settle { s.setLevel .spray false with
          table := { s.table with spray := none }
          store := s.storeWithout r
          spray := { s.spray with schedule := none, abort := none }
          supply := v
          link := s.removedNotice l .spray r }) ∧
        (s.supply.holder ≠ some .board ∨ s.supply.own = .none ∨ s.supply.own = .ending → v = s.supply ∧ l = s.link) ∧
        (s.supply.holder = some .board →
          (s.supply.own = .waiting ∨ s.supply.own = .granted →
            v = { s.supply with own := .ending } ∧ l = s.link.post s.doneTelegram) ∧
          (s.supply.own = .queued → v = { s.supply with own := .none, holder := none, reClaim := none } ∧
            l = s.link.withdraw s.isStopped fun e => e.tg.kind == kindSupplyClaim) ∧
          (s.supply.own = .sending → v = { s.supply with own := .ending } ∧
            l = s.link.withdraw s.isStopped fun e => e.tg.kind == kindSupplyClaim) ∧
          (s.supply.own = .refusedWait → l = s.link ∧ v = if s.supply.doneRead then
              { s.supply with own := .none, holder := none, reClaim := none }
            else { s.supply with own := .ending, reClaim := none }))) ∧
    (∀ s r n w, s.tracking = true → s.occupied .exit = true → s.tunnel.phase ≠ .indexing → s.table.exit = some r →
      r.diversion = none → r.handoff = some (.offered n w) → s.mask.cand ≠ some .exit →
      exec (.emptyEdge .exit) s = .next (State.settle { s.setLevel .exit false with
        table := { s.table with exit := none }
        store := s.storeWithout r
        link := s.removedNotice (s.link.withdraw s.isStopped fun e => e.tg.kind == kindOffer) .exit r })) ∧
    (∀ (l : Link) stopped, ∀ e ∈ (l.withdraw stopped fun e => e.tg.kind == kindOffer).waitingOut ++
      (l.withdraw stopped fun e => e.tg.kind == kindOffer).held, e.tg.kind ≠ kindOffer) ∧
    ∀ s, s.tracking = true → s.occupied .entry = true → s.tracker.moves.toTransport = false → s.table.entry = none →
      exec (.emptyEdge .entry) s = .next (State.settle { s.setLevel .entry false with
        tracker := { s.tracker with arrival := none, stopLowered := false } }))

/-- A move completes at the edge of either of its sensors after which its to-sensor stands occupied and its from-sensor empty:
the record takes the to-position, the from-position is free, and the move is over. Stated for ENTRY to TRANSPORT, and for SPRAY
to GATE of a record that is not SPRAYING; the move into SPRAY is stated with its spray decision.
That an edge command sets the pin's raw level too is the model's (DESIGN CHOICE, log 6). -/
def Obligations.MoveCompletesAtEitherEdge : Prop :=
  (∀ s p b, s.tracking = true → (s.inputs.pos.get p).level = some (!b) → s.tracker.moves.toTransport = true →
    (p = .transport ∧ b = true ∧ s.sensorEmpty .entry = true ∨ p = .entry ∧ b = false ∧ s.occupied .transport = true) →
    exec (edgeCommand p b) s = .next (State.settle { s.setLevel p b with
      table := { s.table with transport := s.table.entry, entry := none }
      tracker := { s.tracker with
        moves := { s.tracker.moves with toTransport := false }
        stopLowered := if p = .entry then false else s.tracker.stopLowered }
      mask := if s.mask.cand = some .entry then { s.mask with cand := some .transport } else s.mask })) ∧
    ∀ s p b, s.tracking = true → (s.inputs.pos.get p).level = some (!b) → s.tracker.moves.toGate = true →
      s.sprayIs .spraying = false → s.mask.cand ≠ some .spray →
      (p = .gate ∧ b = true ∧ s.sensorEmpty .spray = true ∨ p = .spray ∧ b = false ∧ s.occupied .gate = true) →
      exec (edgeCommand p b) s = .next (State.settle { s.setLevel p b with
        table := { s.table with gate := s.table.spray, spray := none }
        tracker := { s.tracker with moves := { s.tracker.moves with toGate := false } } })

/-- The move into SPRAY completes. A candidate whose measurement is open closes CUT_SHORT: its unjudged MASKED zones become
UNCHECKABLE, with MASK_UNCHECKED, and with a recipe it gains LENGTH. The spray decision of a NOT_DUE record follows: SKIPPED with a
pre-spray reason, a pass-through step or a step already done; SKIPPED with STEP_MISSING where a prerequisite is missing; and
otherwise WAITING_SUPPLY with the schedule of its recipe and verdicts, SCHEDULE_FULL where it was cut, its clips recorded and
reported by one CLIPPED event, and NOTICE RECIPE_CONFLICT where a NO_COAT zone clipped (which clip it names is log 20). A record in
another spray state takes no decision. The clips and the conflict are those of the segments that share an x with an exclusion, and the
clipped count is their number. That
RECIPE_CONFLICT is posted before a NOTICE WATCH of the CLIPPED event is the model's (DESIGN CHOICE, log 57).
That x and the high mark keep their last values when the candidate leaves the checker at SPRAY is the
model's (DESIGN CHOICE, log 47).
That an edge command sets the pin's raw level too is the model's (DESIGN CHOICE, log 6). -/
def Obligations.SprayDecisionAtSpray : Prop :=
  (∀ s p b r, s.tracking = true → (s.inputs.pos.get p).level = some (!b) → s.tracker.moves.toSpray = true →
    (p = .spray ∧ b = true ∧ s.sensorEmpty .transport = true ∨ p = .transport ∧ b = false ∧ s.occupied .spray = true) →
    s.table.transport = some r → s.mask.cand ≠ some .spray →
    let open' := s.mask.cand = some .transport ∧ (s.mask.phase = .armed ∨ s.mask.phase = .measuring)
    let rests (d : Record) : State := { s.setLevel p b with
      table := { s.table with spray := some d, transport := none }
      tracker := { s.tracker with moves := { s.tracker.moves with toSpray := false } }
      mask := if s.mask.cand = some .transport then { s.mask with phase := .idle, cand := none, sampled := [] } else s.mask }
    ∃ a, (¬ open' → a = r) ∧
      (open' → a = { r with verdicts := a.verdicts, trav := { r.trav with reasons := a.trav.reasons } } ∧
        (r.recipe = none → a.verdicts = [] ∧ a.trav = r.trav) ∧
        ∀ rc, r.bound s.store = some rc →
          (∀ (j : Nat) z v, rc.zones[j]? = some z → r.verdicts[j]? = some v →
            a.verdicts[j]? = some (if z.kind = .masked ∧ (v = .pending ∨ v = .watching) then .uncheckable else v)) ∧
          hasReason a.trav.reasons .length = true ∧
          (hasReason a.trav.reasons .maskUnchecked = true ↔ hasReason r.trav.reasons .maskUnchecked = true ∨
            ∃ (j : Nat) (z : BoardZone) (v : Verdict), rc.zones[j]? = some z ∧ r.verdicts[j]? = some v ∧ z.kind = .masked ∧
              (v = .pending ∨ v = .watching)) ∧
          ∀ x, x ≠ .length → x ≠ .maskUnchecked → hasReason a.trav.reasons x = hasReason r.trav.reasons x) ∧
      (r.spray ≠ .notDue → exec (edgeCommand p b) s = .next (rests a).settle) ∧
      (r.spray = .notDue →
        ((∃ x, x ≠ .maskMissing ∧ x ≠ .maskUnchecked ∧ hasReason a.trav.reasons x = true) →
          exec (edgeCommand p b) s = .next (rests { a with spray := .skipped }).settle) ∧
        ((∀ x, x ≠ .maskMissing → x ≠ .maskUnchecked → hasReason a.trav.reasons x = false) → ∀ rc, a.bound s.store = some rc →
          ((rc.step = 0 ∨ hasStep a.trav.stepsDone rc.step = true) →
            exec (edgeCommand p b) s = .next (rests { a with spray := .skipped }).settle) ∧
          (rc.step ≠ 0 → hasStep a.trav.stepsDone rc.step = false → rc.prereq &&& ~~~a.trav.stepsDone ≠ 0 →
            exec (edgeCommand p b) s = .next (rests { a with
              spray := .skipped
              trav := { a.trav with reasons := addReason a.trav.reasons .stepMissing } }).settle) ∧
          (rc.step ≠ 0 → hasStep a.trav.stepsDone rc.step = false → rc.prereq &&& ~~~a.trav.stepsDone = 0 →
            let built := buildSchedule s.cfg rc a.verdicts
            let waits : State := { rests { a with
                spray := .waitingSupply
                clip := built.clip
                trav := { a.trav with
                  reasons := if built.full then addReason a.trav.reasons .scheduleFull else a.trav.reasons } } with
              spray := { s.spray with schedule := some built.intervals, abort := none }
              link := match built.conflict with
                | none => s.link
                | some k => if s.cfg.terminal = 0 then s.link else s.link.post { postings := 1, tg :=
                    { dst := s.cfg.terminal, src := s.cfg.station, kind := kindNotice, payload :=
                      10 :: (if a.trav.serial.isSome then 1 else 0) :: (optWord a.trav.serial ++ be16 rc.crc ++
                        [byteOf k.segment, byteOf k.clip.valve] ++ half16 k.clip.x ++ [byteOf k.clip.zone]) } } }
            exec (edgeCommand p b) s =
              .next (State.settle (if built.clip.count = 0 then waits else waits.report .clipped 0)))))) ∧
    ∀ (c : CellCfg) (rc : Recipe) (vs : List Verdict),
      let built := buildSchedule c rc vs
      let shut (masked : Bool) (g : Segment) (k x : Nat) : Prop := g.xOpen ≤ x ∧ x < g.xClose ∧ ∃ z gd, rc.zones[k]? = some z ∧
        (z.kind = .noCoat ∧ gd = rc.clearance ∨
          masked = true ∧ z.kind = .masked ∧ vs.getD k .pending ≠ .verified ∧ gd = rc.clearance + c.maskGuard) ∧
        2 * (c.valveY0 + g.valve * c.valvePitch : Int) - c.swath ≤ 2 * ((z.y1 : Int) + gd) ∧
        2 * ((z.y0 : Int) - gd) ≤ 2 * (c.valveY0 + g.valve * c.valvePitch : Int) + c.swath ∧
        (z.x0 : Int) - gd ≤ (x : Int) ∧ (x : Int) ≤ (z.x1 : Int) + gd
      let lowest (masked : Bool) (j : Nat) (f : FirstClip) : Prop := ∃ g, rc.segments[j]? = some g ∧ f.valve = g.valve ∧
        shut masked g f.zone f.x ∧ (∀ k x, shut masked g k x → f.x ≤ x ∧ (x = f.x → f.zone ≤ k)) ∧
        ∀ (i : Nat) h k x, i < j → rc.segments[i]? = some h → ¬ shut masked h k x
      (∃ clipped : List Nat, clipped.Nodup ∧ (∀ j, j ∈ clipped ↔ ∃ g k x, rc.segments[j]? = some g ∧ shut true g k x) ∧
        built.clip.count = clipped.length) ∧
        (built.clip.first = none ↔ built.clip.count = 0) ∧ (∀ f, built.clip.first = some f → ∃ j, lowest true j f) ∧
        (built.conflict = none ↔ ∀ (j : Nat) g k x, rc.segments[j]? = some g → ¬ shut false g k x) ∧
        ∀ q, built.conflict = some q → lowest false q.segment q.clip

/-- The edges of a record TRANSFERRING at EXIT: an empty edge clears it, which starts the transfer timer, or with RECEIVED
already taken completes the handoff: the record leaves the table, its recipe reference goes back to the store, and CLEAN_EXIT is
reported; an occupied edge takes an unreceived clear back.
That an edge command sets the pin's raw level too is the model's (DESIGN CHOICE, log 6). -/
def Obligations.ExitEdgesOfTransfer : Prop :=
  ∀ s r n cleared received timer, s.tracking = true → s.tunnel.phase ≠ .indexing → s.table.exit = some r → r.diversion = none →
    r.handoff = some (.transferring n cleared received timer) →
    (s.occupied .exit = true → received = false → exec (.emptyEdge .exit) s = .next (State.settle { s.setLevel .exit false with
      table := { s.table with exit := some { r with
        handoff := some (.transferring n true false (some (s.cfg.transferTimeout * 1000))) } } })) ∧
    (s.occupied .exit = true → received = true → s.mask.cand ≠ some .exit →
      exec (.emptyEdge .exit) s = .next (State.settle (State.report { s.setLevel .exit false with
        table := { s.table with exit := none }
        store := s.storeWithout r } .cleanExit 0))) ∧
    (s.sensorEmpty .exit = true → cleared = true → received = false →
      exec (.occupiedEdge .exit) s = .next (State.settle { s.setLevel .exit true with
        table := { s.table with exit := some { r with handoff := some (.transferring n false false none) } } }))

/-! ## The handoff between cells (chapter 2) -/

/-- The traveller that an OFFER carries is read as it was written: every field, present or absent, and every coat result; and
the OFFER fits its layout. Each field stands at its place of section 11.6: the number at byte 0, the presence bits at 1, serial 2, read
serial 6, variant 10, lot 12, side 14, steps 15, reasons 16, length 19, audit snapshot 21, result count 22, and the coat results from 23
on, 8 bytes each; an absent field holds 0. A payload fits exactly by its length, its codes and its unused bits. That the reasons stand
high byte first is PRESUMED (log 31). -/
def Obligations.OfferCarriesTraveller : Prop :=
  (∀ (n : Byte) (t : Traveller), t.results.length ≤ 4 →
    offerFits (offerPayload n t) = true ∧ byteAt (offerPayload n t) 0 = n ∧ offerTraveller (offerPayload n t) = t) ∧
  (∀ (n : Byte) (t : Traveller), t.results.length ≤ 4 →
    let p := offerPayload n t
    let code (x : Reason) : Nat := match x with
      | .maskMissing => 0 | .maskUnchecked => 1 | .length => 2 | .noRecipe => 3 | .stepMissing => 4 | .idMismatch => 5
      | .noTraveller => 6 | .duplicateSerial => 7 | .sprayAborted => 8 | .scheduleFull => 9 | .filmThin => 10 | .filmThick => 11
      | .potLife => 12 | .cureShort => 13 | .overcure => 14 | .overtemp => 15 | .cureDataGap => 16 | .lotHold => 17
      | .auditSample => 18 | .stranded => 19
    p.length = 23 + 8 * t.results.length ∧
    ((byteAt p 1).getLsbD 0 = t.serial.isSome ∧ (byteAt p 1).getLsbD 1 = t.readSerial.isSome ∧
      (byteAt p 1).getLsbD 2 = t.length.isSome ∧ (byteAt p 1).getLsbD 3 = t.snapshot.isSome ∧ (byteAt p 1).toNat < 16) ∧
    (wordAt p 2 = t.serial.getD 0 ∧ wordAt p 6 = t.readSerial.getD 0 ∧ halfAt p 10 = t.variant ∧ halfAt p 12 = t.lot ∧
      byteAt p 14 = (match t.sideUp with | .top => 0 | .bottom => 1) ∧
      (∀ k, k < 4 → (byteAt p 15).getLsbD k = hasStep t.stepsDone (k + 1)) ∧ (byteAt p 15).toNat < 16) ∧
    ((∀ x, (byteAt p (18 - code x / 8)).getLsbD (code x % 8) = hasReason t.reasons x) ∧ (byteAt p 16).toNat < 16) ∧
    (halfAt p 19 = t.length.getD 0 ∧ (∀ i, i < 4 → (byteAt p 21).getLsbD i = (t.snapshot.getD 0).getLsbD i) ∧
      (byteAt p 21).toNat < 16 ∧ byteAt p 22 = byteOf t.results.length) ∧
    ∀ (k : Nat) c, t.results[k]? = some c → byteAt p (23 + 8 * k) = c.step ∧ byteAt p (24 + 8 * k) = c.cell ∧
      halfAt p (25 + 8 * k) = c.filmMin ∧ halfAt p (27 + 8 * k) = c.filmMax ∧ halfAt p (29 + 8 * k) = c.dose) ∧
  ∀ p : List Byte, offerFits p = true ↔ p.length = 23 + 8 * (byteAt p 22).toNat ∧ (byteAt p 22).toNat ≤ 4 ∧
    (byteAt p 1).toNat < 16 ∧ (byteAt p 14).toNat ≤ 1 ∧ (byteAt p 15).toNat < 16 ∧ (byteAt p 16).toNat < 16 ∧
    (byteAt p 21).toNat < 16

/-- An OFFER at the head of the inbound queue that passes every test of R35 is accepted: an entry is appended to the arrival
list with its source, number, acceptance time and transfer timer, and ACCEPT is posted; a repeat is accepted without a second
entry. Where a board waits at ENTRY in its orphan wait, the accepted entry is matched with it at once, as at the end of an entry read
with that outcome; that ACCEPT is posted before the RECEIVED of the match is the model's reading (DEDUCED, log 58). The payload of
ACCEPT and RECEIVED, with which that of DECLINE begins, is the number, a presence byte and the four bytes of the serial, high byte first,
zeros where it is absent. -/
def Obligations.OfferAccepted : Prop :=
  (∀ (n : Byte) (sn : Option Serial), answerPayload n sn = n :: match sn with
    | some w => [1, w.extractLsb' 24 8, w.extractLsb' 16 8, w.extractLsb' 8 8, w.extractLsb' 0 8]
    | none => [0, 0, 0, 0, 0]) ∧
  ∀ s g rest, s.loaded = true → s.link.inbound = g :: rest → g.kind = kindOffer → s.link.answerHeld = false → g.dst ≠ 0 →
    s.cfg.upstream ≠ 0 → g.src = s.cfg.upstream → offerFits g.payload = true → s.cell = .run →
    let v := offerTraveller g.payload
    let n := byteAt g.payload 0
    (∀ c ∈ v.results, 1 ≤ c.step.toNat ∧ c.step.toNat ≤ 4) →
    let repeats := ∃ e ∈ s.tracker.arrivals, (∃ sn, v.serial = some sn ∧ e.trav.serial = some sn) ∨
      (v.serial = none ∧ e.trav.serial = none ∧ e.source = g.src ∧ e.number = n)
    (repeats → exec .offer s = .next (State.starts
      (State.post { s with link := s.link.popInbound } g.src kindAccept (answerPayload n v.serial)))) ∧
    (¬ repeats → (∀ sn, v.serial = some sn → (∀ p r, s.table.get p = some r → r.trav.serial ≠ some sn) ∧
        ∀ e ∈ s.holds.list, e.serial ≠ some sn) →
      s.holds.list.length < s.cfg.nearFull → s.tracker.arrivals.length < 2 →
      let accepted (a : Option Arrival) : State := State.post { s with
        link := s.link.popInbound
        tracker := { s.tracker with
          arrival := a
          arrivals := s.tracker.arrivals ++
            [{ trav := v, source := g.src, number := n, acceptedAt := s.seconds, timer := s.cfg.transferTimeout * 1000 }] } }
        g.src kindAccept (answerPayload n v.serial)
      ((∀ o k, s.tracker.arrival ≠ some (.orphan o k)) → exec .offer s = .next (accepted s.tracker.arrival).starts) ∧
      ∀ o k, s.tracker.arrival = some (.orphan o k) →
        (o = .noRead → exec .offer s = exec .entryReadTimeout (accepted (some (.reading 0)))) ∧
        ∀ sn vr l, o = .read sn vr l →
          exec .offer s = exec (.idReadAnswer s.tracker.idRequest (.read sn vr l)) (accepted (some (.reading 0))))

/-- An OFFER that fails a test of R35 is declined with the code of the first that it fails, and with its own number and serial;
nothing else changes but what can start. Of a payload shorter than 6 bytes the bytes that are there are echoed, and each that it does
not hold is a free value (log 15). An OFFER addressed to
all stations is not answered: it leaves the queue (log 17). -/
def Obligations.OfferDeclinedByFirstTest : Prop :=
  (∀ s g rest, s.loaded = true → s.link.inbound = g :: rest → g.kind = kindOffer → s.link.answerHeld = false → g.dst = 0 →
    exec .offer s = .next (State.starts { s with link := s.link.popInbound })) ∧
  ∀ s g rest, s.loaded = true → s.link.inbound = g :: rest → g.kind = kindOffer → s.link.answerHeld = false → g.dst ≠ 0 →
    s.cell ≠ .configFault →
    let v := offerTraveller g.payload
    let code : Option Byte :=
      if s.cfg.upstream = 0 ∨ g.src ≠ s.cfg.upstream then some 1
      else if offerFits g.payload = false ∨ ∃ c ∈ v.results, c.step.toNat < 1 ∨ 4 < c.step.toNat then some 2
      else if s.cell = .start ∨ s.cell = .clearOut then some 3
      else if s.cell = .stopped then some 4
      else if s.isRepeat g.src (byteAt g.payload 0) v.serial then none
      else if v.serial.any s.serialStands then some 5
      else if s.cfg.nearFull ≤ s.holds.list.length then some 6
      else if 2 ≤ s.tracker.arrivals.length then some 7
      else none
    ∀ k, code = some k → ∃ more : List Byte, g.payload.length + more.length = max 6 g.payload.length ∧
      let p := g.payload ++ more
      let serial := if (byteAt p 1).getLsbD 0 then some (wordAt p 2) else none
      exec .offer s = .next (State.starts (State.post { s with link := s.link.popInbound, free := s.free + more.length }
        g.src kindDecline (answerPayload (byteAt p 0) serial ++ [k])))

/-- ACCEPT, DECLINE and RECEIVED at the head of the inbound queue, for the record at EXIT: ACCEPT makes an OFFERED record
TRANSFERRING and withdraws its OFFER; DECLINE in the answer wait starts the 500 ms re-offer wait, and in another wait is
discarded; RECEIVED marks a TRANSFERRING record received, or when it is cleared completes the handoff (the record leaves the table
and its recipe reference goes back), and is discarded for an OFFERED one. An answer that is for no record at EXIT is discarded:
another source, number or serial, or a payload that does not fit: of another length, or a DECLINE with no listed code (R28, R217). While
the board tracker holds an ACCEPT, DECLINE or RECEIVED for posting, a head that is for it waits, and the telegrams behind it wait with
it (R212). -/
def Obligations.AnswersForTheOfferedRecord : Prop :=
  (∀ s g rest, s.loaded = true → s.link.inbound = g :: rest →
    g.kind = kindOffer ∨ g.kind = kindAccept ∨ g.kind = kindDecline ∨ g.kind = kindReceived →
    (∃ e ∈ s.link.held, e.tg.kind = kindAccept ∨ e.tg.kind = kindDecline ∨ e.tg.kind = kindReceived) →
    ∀ c ∈ [Instr.offer, .accept, .decline, .received, .recipePart, .recipeActivate, .recipeDrop, .lotHold, .lotLift, .release,
      .watchClear, .statusQuery], exec c s = .next s) ∧
  (
  ∀ s g rest r n, s.loaded = true → s.link.inbound = g :: rest → s.link.answerHeld = false → g.src = s.cfg.downstream →
    s.table.exit = some r → byteAt g.payload 0 = n →
    (if (byteAt g.payload 1).getLsbD 0 then some (wordAt g.payload 2) else none) = r.trav.serial →
    let popped := { s with link := s.link.popInbound }
    let exitIs (h : Handoff) : State := { popped with table := { s.table with exit := some { r with handoff := some h } } }
    (g.kind = kindAccept → g.payload.length = 6 →
      (∀ w, r.handoff = some (.offered n w) →
        exec .accept s = .next ((exitIs (.transferring (some n) false false none)).withdrawKind kindOffer)) ∧
      (∀ c v m, r.handoff = some (.transferring (some n) c v m) → exec .accept s = .next popped)) ∧
    (g.kind = kindDecline → g.payload.length = 7 → 1 ≤ (byteAt g.payload 6).toNat → (byteAt g.payload 6).toNat ≤ 7 →
      (∀ m, r.handoff = some (.offered n (.answer m)) → exec .decline s = .next (exitIs (.offered n (.reOffer 500)))) ∧
      (∀ w, r.handoff = some (.offered n w) → (∀ m, w ≠ .answer m) → exec .decline s = .next popped)) ∧
    (g.kind = kindReceived → g.payload.length = 6 →
      (∀ v m, r.handoff = some (.transferring (some n) false v m) →
        exec .received s = .next (exitIs (.transferring (some n) false true m)).settle) ∧
      (∀ v m, r.handoff = some (.transferring (some n) true v m) → s.mask.cand ≠ some .exit →
        exec .received s = .next (State.settle (State.report { popped with
          table := { s.table with exit := none }
          store := s.storeWithout r } .cleanExit 0))) ∧
      (∀ w, r.handoff = some (.offered n w) → exec .received s = .next popped.settle))) ∧
  (
  ∀ s g rest, s.loaded = true → s.link.inbound = g :: rest → s.link.answerHeld = false →
    let popped := { s with link := s.link.popInbound }
    (g.src ≠ s.cfg.downstream ∨ s.table.exit = none ∨
      (∃ r, s.table.exit = some r ∧ (r.handoff = none ∨
        (if (byteAt g.payload 1).getLsbD 0 then some (wordAt g.payload 2) else none) ≠ r.trav.serial ∨
        (∃ n w, r.handoff = some (.offered n w) ∧ n ≠ byteAt g.payload 0) ∨
        ∃ n c v m, r.handoff = some (.transferring n c v m) ∧ n ≠ some (byteAt g.payload 0))) ∨
      (if g.kind = kindDecline then
        g.payload.length ≠ 7 ∨ (byteAt g.payload 6).toNat = 0 ∨ 7 < (byteAt g.payload 6).toNat else g.payload.length ≠ 6)) →
    (g.kind = kindAccept → exec .accept s = .next popped) ∧ (g.kind = kindDecline → exec .decline s = .next popped) ∧
      (g.kind = kindReceived → exec .received s = .next popped.settle))

/-- The waits and timers of the handoff: a delivered OFFER starts the 50 ms answer wait and a refused one the re-offer wait; the answer
wait gives way to the re-offer wait, and that to a new OFFER of the same number with the traveller as it stands, which waits while the
cell is STOPPED; a cleared record is dropped at the transfer timeout with NOTICE TRANSFER_UNCONFIRMED and CLEAN_EXIT; an arrival
entry expires with NOTICE TRANSFER_LOST, cause EXPIRED; and the drive hold suspends the last two. A RECEIVED refused in its slot is
posted again 50 ms after the report with the same number and serial, and after the eighth refusal not again; RECEIVED_REPOST posts
the one that has waited longest. That TRANSFER_UNCONFIRMED is posted before a NOTICE WATCH of the CLEAN_EXIT event is the model's
(DESIGN CHOICE, log 56). -/
def Obligations.HandoffTimersExpire : Prop :=
  (
  (∀ s r n m, s.loaded = true → s.table.exit = some r → r.handoff = some (.offered n (.answer m)) →
    exec .answerWaitExpiry s = .next { s with
      table := { s.table with exit := some { r with handoff := some (.offered n (.reOffer 500)) } } }) ∧
    (∀ s r n m, s.loaded = true → s.table.exit = some r → r.handoff = some (.offered n (.reOffer m)) →
      (s.cell ≠ .stopped → exec .reOfferWaitExpiry s = .next (State.post { s with
        table := { s.table with exit := some { r with handoff := some (.offered n .posting) } } }
        s.cfg.downstream kindOffer (offerPayload n r.trav))) ∧
      (s.cell = .stopped → exec .reOfferWaitExpiry s = .next { s with
        table := { s.table with exit := some { r with handoff := some (.offered n .due) } } })) ∧
    (∀ s r n m, s.loaded = true → s.table.exit = some r → r.handoff = some (.transferring (some n) true false (some m)) →
      s.mask.cand ≠ some .exit →
      exec .upstreamTransferTimeout s = .next (if s.tracker.hold then s else State.settle (State.report
        { s.notice 2 (n :: (if r.trav.serial.isSome then 1 else 0) ::
            (optWord r.trav.serial ++ be16 r.trav.variant ++ be16 r.trav.lot)) with
          table := { s.table with exit := none }
          store := s.storeWithout r } .cleanExit 0))) ∧
    ∀ s (i : Fin 2) e, s.loaded = true → s.tracker.arrivals[i.val]? = some e →
      exec (.downstreamTransferTimeout i) s = .next (if s.tracker.hold then s else State.notice { s with
          tracker := { s.tracker with arrivals := s.tracker.arrivals.eraseIdx i.val } } 1
        ((if e.trav.serial.isSome then 1 else 0) :: (optWord e.trav.serial ++ [e.source, e.number] ++ be16 e.trav.variant ++
          be16 e.trav.lot ++ be32 e.acceptedAt ++ [1])))) ∧
  (
  (∀ s e rest refused, s.loaded = true → s.link.line = .sending → s.link.out = e :: rest →
    let sent : State := { s with link := s.link.sent s.isStopped }
    (e.tg.kind = kindOffer →
      (∀ r, s.table.exit = some r → r.handoff = some (.offered (byteAt e.tg.payload 0) .posting) →
        exec (.sendEnd refused) s = .next { sent with table := { s.table with exit := some { r with
          handoff := some (.offered (byteAt e.tg.payload 0) (if refused then .reOffer 500 else .answer 50)) } } }) ∧
      ((∀ r, s.table.exit = some r → r.handoff ≠ some (.offered (byteAt e.tg.payload 0) .posting)) →
        exec (.sendEnd refused) s = .next sent)) ∧
    (e.tg.kind = kindReceived →
      (refused = false ∨ 8 ≤ e.postings → exec (.sendEnd refused) s = .next sent) ∧
      (refused = true → e.postings < 8 → exec (.sendEnd refused) s = .next { sent with
        tracker := { s.tracker with reposts := s.tracker.reposts ++
          [{ dst := e.tg.dst, number := byteAt e.tg.payload 0, postings := e.postings, timer := 50, serial :=
            if (byteAt e.tg.payload 1).getLsbD 0 then some (wordAt e.tg.payload 2) else none }] } })) ∧
    (s.link.held = [] → sent.link = { s.link with line := .busy, penalty := true, withdrawAsked := false, out := rest })) ∧
    ∀ s w rest, s.loaded = true → s.tracker.reposts = w :: rest →
      exec .receivedRepost s = .next { s with
        tracker := { s.tracker with reposts := rest }
        link := s.link.post { postings := w.postings + 1, tg :=
          { dst := w.dst, src := s.cfg.station, kind := kindReceived, payload := answerPayload w.number w.serial } } })

/-- The end of an entry read with an entry in the arrival list matches the board by the table of R39: the record is made at
ENTRY, RECEIVED is posted to the entry's source with its number and serial, the entry leaves the list and the arrival ends. Where the
second entry is matched, the first leaves too, with NOTICE TRANSFER_LOST, cause SKIPPED. The record keeps the reasons of its traveller
and gains ID_MISMATCH, DUPLICATE_SERIAL and LOT_HOLD exactly as the rules give them, and no other; the rest is as a record is made. -/
def Obligations.EntryReadMatchesArrival : Prop :=
  ∀ s c o k e rest m others mismatch skipped, s.loaded = true → s.tracker.arrival = some (.reading k) →
    s.tracker.arrivals = e :: rest →
    ((∃ a, c = .idReadAnswer s.tracker.idRequest a ∧ o = outcomeOf a) ∨ c = .entryReadTimeout ∧ o = .noRead) →
    (o = .noRead ∧ m = e ∧ others = rest ∧ mismatch = none ∧ skipped = false ∨
      (∃ sn v l, o = .read sn v l ∧ e.trav.serial = some sn ∧ m = e ∧ others = rest ∧ mismatch = none ∧ skipped = false) ∨
      (∃ sn v l, o = .read sn v l ∧ e.trav.serial ≠ some sn ∧ rest = m :: others ∧ m.trav.serial = some sn ∧ mismatch = none ∧
        skipped = true) ∨
      ∃ sn v l, o = .read sn v l ∧ e.trav.serial ≠ some sn ∧ (∀ f, rest.head? = some f → f.trav.serial ≠ some sn) ∧ m = e ∧
        others = rest ∧ mismatch = some sn ∧ skipped = false) →
    let told : State := if skipped then s.notice 1 ((if e.trav.serial.isSome then 1 else 0) ::
        (optWord e.trav.serial ++ [e.source, e.number] ++ be16 e.trav.variant ++ be16 e.trav.lot ++ be32 e.acceptedAt ++ [2]))
      else s
    ∃ r, exec c s = .next (State.starts (State.post { told with
        table := { s.table with entry := some r }
        tracker := { s.tracker with arrivals := others, arrival := none } }
        m.source kindReceived (answerPayload m.number m.trav.serial))) ∧
      r.spray = .notDue ∧ r.recipe = none ∧ r.handoff = none ∧ r.diversion = none ∧
      (r.verdicts, r.film, r.sprayEnd, r.elapsed, r.dose, r.tickWeight, r.clip) = ([], none, none, 0, 0, none, ⟨0, none⟩) ∧
      (r.trav.variant, r.trav.lot, r.trav.sideUp, r.trav.stepsDone, r.trav.results, r.trav.length, r.trav.snapshot) =
        (m.trav.variant, m.trav.lot, m.trav.sideUp, m.trav.stepsDone, m.trav.results, m.trav.length, m.trav.snapshot) ∧
      (∀ x, x ≠ .idMismatch → x ≠ .duplicateSerial → x ≠ .lotHold → hasReason r.trav.reasons x = hasReason m.trav.reasons x) ∧
      (hasReason r.trav.reasons .idMismatch = true ↔ hasReason m.trav.reasons .idMismatch = true ∨ mismatch.isSome = true) ∧
      (hasReason r.trav.reasons .duplicateSerial = true ↔ hasReason m.trav.reasons .duplicateSerial = true ∨
        ∃ sn, m.trav.serial = some sn ∧ (s.serialStands sn = true ∨ ∃ f ∈ others, f.trav.serial = some sn)) ∧
      (m.trav.serial = none → r.trav.serial = none ∧ r.trav.readSerial = if mismatch.isSome then mismatch else m.trav.readSerial) ∧
      (hasReason r.trav.reasons .lotHold = true ↔ hasReason m.trav.reasons .lotHold = true ∨
        ∃ (j : Fin 8) (f : LotFilter), s.holds.filters[j] = some f ∧ f.hits m.trav.variant m.trav.lot = true) ∧
      (∀ sn, m.trav.serial = some sn →
        (s.serialStands sn = true ∨ (∃ f ∈ others, f.trav.serial = some sn) →
          r.trav.serial = none ∧ r.trav.readSerial = some sn ∧ hasReason r.trav.reasons .duplicateSerial = true) ∧
        (s.serialStands sn = false → (∀ f ∈ others, f.trav.serial ≠ some sn) →
          r.trav.serial = some sn ∧ r.trav.readSerial = (if mismatch.isSome then mismatch else m.trav.readSerial)))

/-- A board at ENTRY with no entry in the arrival list waits the orphan wait after its read; then its record is made from the
read, with NO_TRAVELLER but in the head cell, DUPLICATE_SERIAL where its serial stands in the cell, LOT_HOLD exactly where a stored
lot filter matches its variant and lot, and no other reason. The drive hold suspends the wait. A reader answer with no read PENDING, or
with another request number, is discarded. -/
def Obligations.OrphanWaitGivesRecord : Prop :=
  (∀ s c o k, s.loaded = true → s.tracker.arrival = some (.reading k) → s.tracker.arrivals = [] →
    ((∃ a, c = .idReadAnswer s.tracker.idRequest a ∧ o = outcomeOf a) ∨ c = .entryReadTimeout ∧ o = .noRead) →
    exec c s = .next (State.starts { s with
      tracker := { s.tracker with arrival := some (.orphan o (s.cfg.orphanWait * 1000)) } })) ∧
    (∀ s o k, s.loaded = true → s.tracker.arrival = some (.orphan o k) → s.tracker.arrivals = [] → s.tracker.hold = false →
      ∃ r, exec .orphanWaitExpiry s = .next (State.starts { s with
          table := { s.table with entry := some r }
          tracker := { s.tracker with arrival := none } }) ∧
        r.spray = .notDue ∧ r.recipe = none ∧ r.trav.results = [] ∧ r.trav.stepsDone = 0 ∧ r.trav.sideUp = .top ∧
        (r.trav.variant, r.trav.lot) = (match o with | .read _ v l => (v, l) | .noRead => (0, 0)) ∧
        (hasReason r.trav.reasons .noTraveller = true ↔ s.cfg.upstream ≠ 0) ∧
        (hasReason r.trav.reasons .lotHold = true ↔
          ∃ (j : Fin 8) (f : LotFilter), s.holds.filters[j] = some f ∧ f.hits r.trav.variant r.trav.lot = true) ∧
        (hasReason r.trav.reasons .duplicateSerial = true ↔ ∃ sn v l, o = .read sn v l ∧ s.serialStands sn = true) ∧
        (∀ x, x ≠ .noTraveller → x ≠ .lotHold → x ≠ .duplicateSerial → hasReason r.trav.reasons x = false) ∧
        (o = .noRead → r.trav.serial = none) ∧
        (∀ sn v l, o = .read sn v l →
          (s.serialStands sn = false → r.trav.serial = some sn) ∧
          (s.serialStands sn = true → r.trav.serial = none ∧ r.trav.readSerial = some sn))) ∧
    (∀ s, s.tracker.hold = true → exec .orphanWaitExpiry s = .next s) ∧
    ∀ s n a, (∀ k, s.tracker.arrival ≠ some (.reading k)) ∨ n ≠ s.tracker.idRequest → exec (.idReadAnswer n a) s = .next s

/-! ## The recipe store (chapter 3) -/

/-- RECIPE_PART at the head of the inbound queue: a malformed payload or slot is answered; fragment 0 begins an assembly,
breaking one in progress; the next fragment in sequence is appended; and a fragment out of sequence breaks the assembly, or is
answered NOT_ASSEMBLING. Each answer goes to the telegram's source. The last fragment in sequence is stated with the commit. -/
def Obligations.RecipePartAssembles : Prop :=
  ∀ s g rest, s.loaded = true → s.link.inbound = g :: rest → g.kind = kindRecipePart →
    let p := g.payload
    let n := (byteAt p 1).toNat % 16
    let last := (byteAt p 1).getLsbD 7
    let fits := 2 ≤ p.length ∧ p.length ≤ 62 ∧ byteAt p 1 &&& 0x70 = 0
    let popped : State := { s with link := s.link.popInbound }
    let broken : State := { popped with
      store := { s.store with assembler := .idle }
      link := { s.link.popInbound with assemblyBroken := true } }
    let waits (t : State) (k : Fin 8) (m : Nat) (data : List Byte) : State :=
      { t with store := { s.store with assembler := .assembling k m data } }
    let answer (t : State) (more : List Byte) : State := t.post g.src kindRecipeAnswer (byteAt p 0 :: more)
    (¬ fits → 1 ≤ p.length → exec .recipePart s = .next (answer popped [7])) ∧
    (p.length = 0 → ∃ f, exec .recipePart s =
      .next (State.post { popped with free := s.free + 1 } g.src kindRecipeAnswer [f, 7])) ∧
    (fits → 8 ≤ (byteAt p 0).toNat → exec .recipePart s = .next (answer popped [8])) ∧
    ∀ k : Fin 8, fits → (byteAt p 0).toNat = k.val →
      (n ≠ 0 → s.store.assembler = .idle → exec .recipePart s = .next (answer popped [6, byteOf n, 0, 0])) ∧
      (∀ j m buf, n ≠ 0 → s.store.assembler = .assembling j m buf → j ≠ k →
        exec .recipePart s = .next (answer popped [6, byteOf n, 1, byteOf j.val])) ∧
      (∀ m buf, n ≠ 0 → s.store.assembler = .assembling k m buf → n ≠ m →
        exec .recipePart s = .next (answer broken [5, byteOf n, byteOf m])) ∧
      (∀ buf, n ≠ 0 → s.store.assembler = .assembling k n buf → last = false →
        (n = 15 → exec .recipePart s = .next (answer broken [5, 15, 15])) ∧
        (n ≠ 15 → exec .recipePart s = .next (waits popped k (n + 1) (buf ++ p.drop 2)))) ∧
      (n = 0 → last = false →
        (s.store.assembler = .idle → exec .recipePart s = .next (waits popped k 1 (p.drop 2))) ∧
        (∀ j m buf, s.store.assembler = .assembling j m buf →
          exec .recipePart s = .next (waits broken k 1 (p.drop 2))))

/-- The last fragment in sequence commits the image. The form check of R53, the content checks of R54 with the item and code of the
first that fails (scalars, then segments, then zones), and the clamp set of R55 are spelled out from the image's bytes. A form or
content fault, or a full store, is answered and leaves the records; otherwise the lowest FREE record holds the clamped recipe, staged
in the slot, and the record staged there before becomes FREE. A single fragment, number 0 with the last flag, breaks an assembly in
progress and commits in the same way. The CRC in the BAD_CHECK answer of an image whose length does not fit is the model's reading of
R53 (DEDUCED, log 33). -/
def Obligations.RecipeCommitStages : Prop :=
  ∀ s g rest (k : Fin 8) buf, s.loaded = true → s.link.inbound = g :: rest → g.kind = kindRecipePart →
    let p := g.payload
    let n := (byteAt p 1).toNat % 16
    let im := buf ++ p.drop 2
    let b (i : Nat) : Nat := (byteAt im i).toNat
    let h (i : Nat) : Nat := 256 * b i + b (i + 1)
    let temp (i : Nat) : Int := (halfAt im i).toInt
    let form := 36 ≤ im.length ∧ b 12 ≤ 64 ∧ b 13 ≤ 16 ∧ im.length = 36 + 8 * b 12 + 9 * b 13 ∧
      (crc16 (im.take (im.length - 2))).toNat = h (im.length - 2)
    let scalars : Option Byte :=
      if 4 < b 5 then some 1
      else if b 4 = 0 ∨ 3 < b 4 then some 2
      else if 8191 < h 7 ∨ 8191 < h 9 then some 3
      else if h 9 < h 7 then some 4
      else if h 16 < h 14 then some 5
      else if h 26 < h 24 then some 6
      else if h 30 ≤ h 28 then some 7
      else none
    let seg (j : Nat) : Nat := 34 + 8 * j
    let overlaps (j : Nat) : Prop := ∃ i, i < j ∧ b (seg i) = b (seg j) ∧ h (seg j + 2) ≤ h (seg i + 4) ∧ h (seg i + 2) ≤ h (seg j + 4)
    let segment (j : Nat) (o : Option Byte) : Prop :=
      if s.cfg.valveCount ≤ b (seg j) then o = some 8
      else if 8191 < h (seg j + 2) ∨ 8191 < h (seg j + 4) then o = some 3
      else if h (seg j + 4) ≤ h (seg j + 2) then o = some 9
      else if b (seg j + 1) ≠ 1 ∧ b (seg j + 1) ≠ 2 then o = some 10
      else if b (seg j + 1) = 1 ∧ b (seg j + 6) = 0 ∨ b (seg j + 1) = 2 ∧ b (seg j + 7) = 0 then o = some 11
      else overlaps j ∧ o = some 12 ∨ ¬ overlaps j ∧ o = none
    let zone (j : Nat) : Option Byte :=
      let i := 34 + 8 * b 12 + 9 * j
      if b i ≠ 1 ∧ b i ≠ 2 then some 13
      else if 8191 < h (i + 1) ∨ 8191 < h (i + 3) ∨ 8191 < h (i + 5) ∨ 8191 < h (i + 7) then some 3
      else if h (i + 3) < h (i + 1) ∨ h (i + 7) < h (i + 5) then some 14
      else none
    let goodTo (m : Nat) : Prop := scalars = none ∧ ∀ j, j < m → segment j none
    let tRef : Int := if temp 18 < 400 then 400 else if 2000 < temp 18 then 2000 else temp 18
    let clamps (i : Nat) : Prop := i = 0 ∧ (temp 18 < 400 ∨ 2000 < temp 18) ∨ i = 1 ∧ tRef < temp 20 ∨ i = 2 ∧ temp 22 < tRef ∨
      i = 3 ∧ 100 < b 11 ∨ i = 4 ∧ 1023 < h 14 ∨ i = 5 ∧ 1023 < h 16 ∨ i = 6 ∧ 1800 < h 28 ∨ i = 7 ∧ 7200 < h 30 ∨
      i = 8 ∧ (h 32 = 0 ∨ 600 < h 32) ∨
      i = 9 ∧ ∃ j, j < b 12 ∧ b (seg j + 1) = 2 ∧ (b (seg j + 6) % 2 = 1 ∨ b (seg j + 6) < 4)
    let popped : State := { s with
      link := { s.link.popInbound with
        assemblyBroken := if n = 0 ∧ s.store.assembler ≠ .idle then true else s.link.assemblyBroken }
      store := { s.store with assembler := .idle } }
    2 ≤ p.length → p.length ≤ 62 → byteAt p 1 &&& 0x70 = 0 → (byteAt p 0).toNat = k.val → (byteAt p 1).getLsbD 7 = true →
    (n = 0 ∧ buf = [] ∨ n ≠ 0 ∧ s.store.assembler = .assembling k n buf) →
    let answer (t : State) (more : List Byte) : State := t.post g.src kindRecipeAnswer (byteAt p 0 :: more)
    (¬ form → exec .recipePart s = .next (answer popped (2 ::
      if 2 ≤ im.length then 1 :: be16 (halfAt im (im.length - 2)) else [0, 0, 0]))) ∧
    (form →
      (∀ c, scalars = some c → exec .recipePart s = .next (answer popped [3, 255, c])) ∧
      (∀ j c, j < b 12 → goodTo j → segment j (some c) → exec .recipePart s = .next (answer popped [3, byteOf j, c])) ∧
      (∀ j c, j < b 13 → goodTo (b 12) → (∀ i, i < j → zone i = none) → zone j = some c →
        exec .recipePart s = .next (answer popped [3, byteOf (64 + j), c]))) ∧
    (form → goodTo (b 12) → (∀ j, j < b 13 → zone j = none) →
      ((∀ i : Fin 12, s.store.records[i] ≠ .free) →
        exec .recipePart s = .next (answer popped [4, byteOf (s.store.records.toList.filter RecipeCell.isRetiring).length])) ∧
      ∀ i : Fin 12, s.store.records[i] = .free → (∀ j : Fin 12, j < i → s.store.records[j] ≠ .free) →
        s.store.slots[k].staged ≠ some i → ∃ (st : Store) (clampBits : Half),
          exec .recipePart s = .next (answer { popped with store := st }
            (1 :: byteOf i.val :: (be16 (halfAt im (im.length - 2)) ++ be16 clampBits))) ∧
          (∀ j, j < 16 → (clampBits.getLsbD j = true ↔ clamps j)) ∧
          (∀ j : Fin 12, st.records[j] = if j = i then .staged (recipeOf im)
            else if s.store.slots[k].staged = some j then .free else s.store.records[j]) ∧
          (∀ l : Fin 8, st.slots[l] = if l = k then { s.store.slots[k] with staged := some i } else s.store.slots[l]) ∧
          st.assembler = .idle)

/-- The recipe record that an image of the right form becomes: each field from its bytes, with the clamps of R55. The side byte is read
by its code, 1 top, 2 bottom, 3 either (another fails the content check of R54). -/
def Obligations.RecipeRecordFromImage : Prop :=
  ∀ im, imageFormOk im = true →
    let b (i : Nat) : Nat := (byteAt im i).toNat
    let h (i : Nat) : Nat := 256 * b i + b (i + 1)
    let t (i : Nat) : Int := (halfAt im i).toInt
    let near (lo hi n : Nat) : Nat := if n < lo then lo else if hi < n then hi else n
    let rc := recipeOf im
    rc.base = halfAt im 0 ∧ rc.mask = halfAt im 2 ∧
      (b 4 = 1 → rc.side = .top) ∧ (b 4 = 2 → rc.side = .bottom) ∧ (b 4 = 3 → rc.side = .either) ∧
      rc.step = b 5 ∧ rc.prereq = (byteAt im 6).setWidth 4 ∧
      rc.lenMin = h 7 ∧ rc.lenMax = h 9 ∧ rc.clearance = near 0 100 (b 11) ∧ rc.hMin = near 0 1023 (h 14) ∧
      rc.hMax = near 0 1023 (h 16) ∧
      rc.tRef = (if t 18 < 400 then 400 else if 2000 < t 18 then 2000 else t 18) ∧
      rc.tOn = (if rc.tRef < t 20 then rc.tRef else t 20) ∧ rc.tMax = (if t 22 < rc.tRef then rc.tRef else t 22) ∧
      rc.cureMin = h 24 ∧ rc.cureMax = h 26 ∧ rc.flashMin = near 0 1800 (h 28) ∧ rc.potMax = near 0 7200 (h 30) ∧
      rc.passLimit = near 1 600 (h 32) ∧
      rc.segments.length = b 12 ∧ rc.zones.length = b 13 ∧ rc.crc = crc16 (im.take (im.length - 2)) ∧
      (∀ k g, rc.segments[k]? = some g → let i := 34 + 8 * k
        g.valve = b i ∧ g.xOpen = h (i + 2) ∧ g.xClose = h (i + 4) ∧
          (b (i + 1) = 1 → g.rate = .spray (b (i + 6))) ∧
          (b (i + 1) = 2 → g.rate = .jet (if b (i + 6) < 4 then 4 else b (i + 6) - b (i + 6) % 2) (b (i + 7)))) ∧
      ∀ k z, rc.zones[k]? = some z → let i := 34 + 8 * b 12 + 9 * k
        (z.kind = .noCoat ↔ b i = 1) ∧ z.x0 = h (i + 1) ∧ z.x1 = h (i + 3) ∧ z.y0 = h (i + 5) ∧ z.y1 = h (i + 7)

/-- RECIPE_ACTIVATE makes the staged record ACTIVE, and RECIPE_DROP takes the active one away; the record active before becomes
RETIRING while a board references it, and otherwise FREE; each is answered to its source. -/
def Obligations.RecipeActivateAndDrop : Prop :=
  ∀ s g rest, s.loaded = true → s.link.inbound = g :: rest →
    let popped : State := { s with link := s.link.popInbound }
    let b := byteAt g.payload 0
    let answer (t : State) (more : List Byte) : State := t.post g.src kindRecipeAnswer (b :: more)
    let away (old : Fin 12) (ro : Recipe) : RecipeCell := if 0 < s.refCount old then .retiring ro else .free
    (g.payload.length ≠ 1 → (g.kind = kindRecipeActivate → exec .recipeActivate s = .next popped) ∧
      (g.kind = kindRecipeDrop → exec .recipeDrop s = .next popped)) ∧
    (g.payload.length = 1 → 8 ≤ b.toNat → (g.kind = kindRecipeActivate → exec .recipeActivate s = .next (answer popped [8])) ∧
      (g.kind = kindRecipeDrop → exec .recipeDrop s = .next (answer popped [8]))) ∧
    ∀ k : Fin 8, g.payload.length = 1 → b.toNat = k.val →
      (g.kind = kindRecipeActivate → s.store.slots[k].staged = none → exec .recipeActivate s = .next (answer popped [10])) ∧
      (g.kind = kindRecipeDrop → s.store.slots[k].active = none → exec .recipeDrop s = .next (answer popped [12])) ∧
      (∀ i rc, g.kind = kindRecipeActivate → s.store.slots[k].staged = some i → s.store.records[i] = .staged rc →
        (s.store.slots[k].active = none → exec .recipeActivate s = .next (answer { popped with
            store := { s.store with
              records := s.store.records.set i.val (.active rc) i.isLt
              slots := s.store.slots.set k.val { active := some i, staged := none } k.isLt } }
          (9 :: byteOf i.val :: (be16 rc.crc ++ [0, 0, 0, 0])))) ∧
        ∀ old ro, old ≠ i → s.store.slots[k].active = some old → s.store.records[old] = .active ro →
          exec .recipeActivate s = .next (answer { popped with
            store := { s.store with
              records := (s.store.records.set i.val (.active rc) i.isLt).set old.val (away old ro) old.isLt
              slots := s.store.slots.set k.val { active := some i, staged := none } k.isLt } }
          (9 :: byteOf i.val :: (be16 rc.crc ++ [1] ++ be16 ro.crc ++ [if 0 < s.refCount old then 1 else 0])))) ∧
      ∀ old ro, g.kind = kindRecipeDrop → s.store.slots[k].active = some old → s.store.records[old] = .active ro →
        exec .recipeDrop s = .next (answer { popped with
            store := { s.store with
              records := s.store.records.set old.val (away old ro) old.isLt
              slots := s.store.slots.set k.val { s.store.slots[k] with active := none } k.isLt } }
          (11 :: (be16 ro.crc ++ [if 0 < s.refCount old then 1 else 0])))

/-! ## Mask verification (chapter 4) -/

/-- TRANSPORT_ENCODER_COUNT outside a measurement: a forward count samples the datum, whose accepted level takes two agreeing
samples; a reverse count is not sampled. In ARMED the change from empty to occupied opens the measurement at x = 1: a MASKED zone without
a qualifying channel, or too narrow for its window, becomes UNCHECKABLE with MASK_UNCHECKED, any other zone keeps its verdict and its
mark is cleared, and the count is then a sampling count: a PENDING zone at its window's start becomes WATCHING, one WATCHING in its
window is read, which sets its mark, and a qualifying channel that reads absent makes it MISSING with MASK_MISSING. A zone whose window
ends there is VERIFIED or UNCHECKABLE. That x and the high mark keep their last values outside a measurement is the
model's (DESIGN CHOICE, log 47). No other reason is added, and nothing else of the record changes; without a recipe there are no
zones. MASK_CHANNEL_EDGE takes its channel's level alone; that it sets the pin's raw level too is the model's (DESIGN CHOICE, log 6), and
so is that a channel without a level takes it at once (DESIGN CHOICE, log 63).
A channel qualifies for a zone where it is fitted and its centre lies within the zone less the inset in y. -/
def Obligations.DatumSampledOutsideMeasurement : Prop :=
  (∀ (c : CellCfg) (z : BoardZone) (k : Nat), qualifies c z k = true ↔ k < c.maskCount ∧
    z.y0 + c.inset ≤ c.maskY0 + k * c.maskPitch ∧ c.maskY0 + k * c.maskPitch + c.inset ≤ z.y1) ∧
  (∀ s d, s.tracking = true → s.mask.phase ≠ .measuring →
    exec (.transportEncoderCount .reverse d) s = .next s ∧
    (¬ (s.mask.phase = .armed ∧ s.mask.accepted = some false ∧ s.mask.lastSample = some true ∧ d = true) →
      exec (.transportEncoderCount .forward d) s = .next { s with mask := { s.mask with
        lastSample := some d
        accepted := if s.mask.lastSample = some d then some d else s.mask.accepted } })) ∧
    (∀ s q r, s.tracking = true → s.mask.phase = .armed → s.mask.accepted = some false → s.mask.lastSample = some true →
      s.mask.cand = some q → s.table.get q = some r → ∃ t m, exec (.transportEncoderCount .forward true) s = .next t ∧
        t = { s with
          table := s.table.put q (some m)
          mask := { s.mask with
            phase := .measuring
            x := 1
            high := 1
            lastSample := some true
            accepted := some true
            sampled := t.mask.sampled } } ∧
        m = { r with verdicts := m.verdicts, trav := { r.trav with reasons := m.trav.reasons } } ∧
        (r.bound s.store = none → m = { r with verdicts := [] } ∧ t.mask.sampled = []) ∧
        ∀ rc, r.bound s.store = some rc →
          let became (v : Verdict) : Prop := ∃ (k : Nat) (z : BoardZone) (w : Verdict), rc.zones[k]? = some z ∧
            z.kind = .masked ∧ r.verdicts[k]? = some w ∧ w ≠ v ∧ m.verdicts[k]? = some v
          (∀ (k : Nat) z v, rc.zones[k]? = some z → r.verdicts[k]? = some v →
            let starts := (z.x0 : Int) + s.cfg.inset
            let ends := (z.x1 : Int) - s.cfg.inset
            let barred := (∀ c : Fin 32, qualifies s.cfg z c.val = false) ∨ (z.x1 : Int) - z.x0 ≤ 2 * s.cfg.inset
            let absent := ∃ c : Fin 32, qualifies s.cfg z c.val = true ∧ s.inputs.mask[c].level ≠ some true
            (z.kind = .noCoat → m.verdicts[k]? = some v ∧ t.mask.sampled[k]? = some false) ∧
            (z.kind = .masked → barred → m.verdicts[k]? = some .uncheckable ∧ t.mask.sampled[k]? = some false) ∧
            (z.kind = .masked → ¬ barred → v = .verified ∨ v = .missing ∨ v = .uncheckable →
              m.verdicts[k]? = some v ∧ t.mask.sampled[k]? = some false) ∧
            ∀ w, z.kind = .masked → ¬ barred → v = .pending ∨ v = .watching →
              (w = if v = .pending ∧ starts = 1 then .watching else v) →
              let read := w = .watching ∧ starts ≤ 1 ∧ 1 ≤ ends
              (read → t.mask.sampled[k]? = some true) ∧ (¬ read → t.mask.sampled[k]? = some false) ∧
              (read → absent → m.verdicts[k]? = some .missing) ∧
              (¬ (read ∧ absent) → w = .watching → ends = 1 →
                (read → m.verdicts[k]? = some .verified) ∧ (¬ read → m.verdicts[k]? = some .uncheckable)) ∧
              (¬ (read ∧ absent) → w ≠ .watching ∨ ends ≠ 1 → m.verdicts[k]? = some w)) ∧
          (hasReason m.trav.reasons .maskMissing = true ↔ hasReason r.trav.reasons .maskMissing = true ∨ became .missing) ∧
          (hasReason m.trav.reasons .maskUnchecked = true ↔
            hasReason r.trav.reasons .maskUnchecked = true ∨ became .uncheckable) ∧
          ∀ y, y ≠ .maskMissing → y ≠ .maskUnchecked → hasReason m.trav.reasons y = hasReason r.trav.reasons y) ∧
    (∀ s d e, s.loaded = true → s.cell = .start → exec (.transportEncoderCount d e) s = .next s) ∧
    ∀ s (k : Fin 32) b, s.loaded = true → exec (.maskChannelEdge k b) s = .next { s with
      inputs := { s.inputs with mask := s.inputs.mask.set k.val { raw := b, last := some b, level := some b } k.isLt } }

/-- TRANSPORT_ENCODER_COUNT in a measurement: counts below the high mark move x alone; more than 64 counts back is BROKEN, and x
= 8192 on new ground is OVERRUN, both closing with the unjudged MASKED zones UNCHECKABLE and LENGTH for a bound record; and the
datum's change to empty is the trailing edge, whose length is the count before the sample that confirmed it. There a MASKED zone that
runs past the length and is PENDING, WATCHING or VERIFIED becomes UNCHECKABLE, with MASK_UNCHECKED; a NO_COAT zone, a verdict MISSING
or UNCHECKABLE, and VERIFIED within the length stand; and LENGTH is added exactly where the length lies outside the window. Every close
adds MASK_UNCHECKED exactly where a zone becomes UNCHECKABLE at it. That the OVERRUN count takes no sample, of the datum or of the
channels, is the model's reading (DEDUCED, log 21); that after a close x and the high mark keep their last values, x that of 8191 at an
OVERRUN, is the model's (DESIGN CHOICE, log 47). -/
def Obligations.MeasurementCountsAndCloses : Prop :=
  ∀ s q r, s.tracking = true → s.mask.phase = .measuring → s.mask.cand = some q → s.table.get q = some r →
    (∀ d, s.mask.x + 1 ≤ s.mask.high → exec (.transportEncoderCount .forward d) s =
      .next { s with mask := { s.mask with x := s.mask.x + 1 } }) ∧
    (∀ d, s.mask.high - (s.mask.x - 1) ≤ 64 → exec (.transportEncoderCount .reverse d) s =
      .next { s with mask := { s.mask with x := s.mask.x - 1 } }) ∧
    (∀ c dir d x len, (dir = .reverse ∧ 64 < s.mask.high - (s.mask.x - 1) ∧ x = s.mask.x - 1 ∧ len = r.trav.length ∨
        dir = .forward ∧ s.mask.high < s.mask.x + 1 ∧ s.mask.x + 1 = 8192 ∧ x = s.mask.x ∧ len = some 8191) →
      c = .transportEncoderCount dir d → ∃ m, exec c s = .next { s with
          table := s.table.put q (some m)
          mask := { s.mask with phase := .closed, x := x } } ∧
        m.trav.length = len ∧ m.spray = r.spray ∧ m.recipe = r.recipe ∧
        (r.recipe.isSome = true → hasReason m.trav.reasons .length = true) ∧
        (r.recipe = none → m.trav.reasons = r.trav.reasons) ∧
        ∀ rc, r.bound s.store = some rc →
          (∀ (j : Nat) z v, rc.zones[j]? = some z → r.verdicts[j]? = some v →
            m.verdicts[j]? = some (if z.kind = .masked ∧ (v = .pending ∨ v = .watching) then .uncheckable else v)) ∧
          (hasReason m.trav.reasons .maskUnchecked = true ↔ hasReason r.trav.reasons .maskUnchecked = true ∨
            ∃ (j : Nat) (z : BoardZone) (v : Verdict), rc.zones[j]? = some z ∧ r.verdicts[j]? = some v ∧ z.kind = .masked ∧
              (v = .pending ∨ v = .watching)) ∧
          ∀ y, y ≠ .length → y ≠ .maskUnchecked → hasReason m.trav.reasons y = hasReason r.trav.reasons y) ∧
    (s.mask.high < s.mask.x + 1 → s.mask.x + 1 ≠ 8192 → 0 ≤ s.mask.x → s.mask.accepted = some true →
      s.mask.lastSample = some false → ∃ m t, exec (.transportEncoderCount .forward false) s = .next t ∧
        t = { s with
          table := s.table.put q (some m)
          mask := { s.mask with
            phase := .closed
            x := s.mask.x + 1
            high := s.mask.x + 1
            lastSample := some false
            accepted := some false
            sampled := t.mask.sampled } } ∧
        m.trav.length = some (BitVec.ofInt 16 s.mask.x) ∧ m.spray = r.spray ∧ m.recipe = r.recipe ∧
        (r.bound s.store = none → m.trav.reasons = r.trav.reasons) ∧
        ∀ rc, r.bound s.store = some rc →
          (hasReason m.trav.reasons .length = true ↔ hasReason r.trav.reasons .length = true ∨
            s.mask.x < rc.lenMin ∨ rc.lenMax < s.mask.x) ∧
          (∀ (j : Nat) z v, rc.zones[j]? = some z → r.verdicts[j]? = some v →
            (z.kind = .masked → s.mask.x < z.x1 → v = .pending ∨ v = .watching ∨ v = .verified →
              m.verdicts[j]? = some .uncheckable ∧ hasReason m.trav.reasons .maskUnchecked = true) ∧
            (z.kind = .noCoat ∨ v = .missing ∨ v = .uncheckable ∨ v = .verified ∧ (z.x1 : Int) ≤ s.mask.x →
              m.verdicts[j]? = some v)) ∧
          (hasReason m.trav.reasons .maskUnchecked = true → hasReason r.trav.reasons .maskUnchecked = true ∨
            ∃ (j : Nat) (z : BoardZone) (v : Verdict), rc.zones[j]? = some z ∧ z.kind = .masked ∧
              m.verdicts[j]? = some .uncheckable ∧ r.verdicts.getD j .pending = v ∧ v ≠ .uncheckable) ∧
          ∀ y, y ≠ .length → y ≠ .maskUnchecked → hasReason m.trav.reasons y = hasReason r.trav.reasons y)

/-- A sampling count that is not the trailing edge, with the datum occupied or empty. A MASKED zone that is PENDING at its window's start
becomes WATCHING; one WATCHING in its window is read where the datum sample is occupied, which sets its sampled mark, and a qualifying
channel that reads absent makes it MISSING, with MASK_MISSING; at its window's end it is otherwise VERIFIED, or with its mark clear
UNCHECKABLE, with MASK_UNCHECKED. With the datum empty nothing is read. A verdict already given stands, the two reasons are added
where a zone becomes MISSING or UNCHECKABLE alone, and no other reason is added.
A channel qualifies for a zone where it is fitted and its centre lies within the zone less the inset in y. -/
def Obligations.ZonesJudgedAtSamplingCount : Prop :=
  (∀ (c : CellCfg) (z : BoardZone) (k : Nat), qualifies c z k = true ↔ k < c.maskCount ∧
    z.y0 + c.inset ≤ c.maskY0 + k * c.maskPitch ∧ c.maskY0 + k * c.maskPitch + c.inset ≤ z.y1) ∧
  ∀ s q r rc (d : Bool), s.tracking = true → s.mask.phase = .measuring → s.mask.cand = some q → s.table.get q = some r →
    r.bound s.store = some rc → s.mask.high < s.mask.x + 1 → s.mask.x + 1 ≠ 8192 → s.mask.accepted = some true →
    d = true ∨ s.mask.lastSample ≠ some false →
    let x := s.mask.x + 1
    let became (m : Record) (v : Verdict) : Prop := ∃ (k : Nat) (z : BoardZone) (w : Verdict), rc.zones[k]? = some z ∧
      z.kind = .masked ∧ r.verdicts[k]? = some w ∧ w ≠ v ∧ m.verdicts[k]? = some v
    ∃ t m, exec (.transportEncoderCount .forward d) s = .next t ∧
      t = { s with
        table := s.table.put q (some m)
        mask := { s.mask with x := x, high := x, lastSample := some d, sampled := t.mask.sampled } } ∧
      m = { r with verdicts := m.verdicts, trav := { r.trav with reasons := m.trav.reasons } } ∧
      (∀ (k : Nat) z v, rc.zones[k]? = some z → r.verdicts[k]? = some v →
        let starts := (z.x0 : Int) + s.cfg.inset
        let ends := (z.x1 : Int) - s.cfg.inset
        let mark := s.mask.sampled.getD k false
        let absent := ∃ c : Fin 32, qualifies s.cfg z c.val = true ∧ s.inputs.mask[c].level ≠ some true
        (v = .verified ∨ v = .missing ∨ v = .uncheckable ∨ z.kind = .noCoat →
          m.verdicts[k]? = some v ∧ t.mask.sampled[k]? = some mark) ∧
        ∀ w, z.kind = .masked → v = .pending ∨ v = .watching → (w = if v = .pending ∧ x = starts then .watching else v) →
          let read := d = true ∧ w = .watching ∧ starts ≤ x ∧ x ≤ ends
          (read → t.mask.sampled[k]? = some true) ∧ (¬ read → t.mask.sampled[k]? = some mark) ∧
          (read → absent → m.verdicts[k]? = some .missing) ∧
          (¬ (read ∧ absent) → w = .watching → x = ends →
            (read ∨ mark = true → m.verdicts[k]? = some .verified) ∧
            (¬ read → mark = false → m.verdicts[k]? = some .uncheckable)) ∧
          (¬ (read ∧ absent) → w ≠ .watching ∨ x ≠ ends → m.verdicts[k]? = some w)) ∧
      (hasReason m.trav.reasons .maskMissing = true ↔ hasReason r.trav.reasons .maskMissing = true ∨ became m .missing) ∧
      (hasReason m.trav.reasons .maskUnchecked = true ↔ hasReason r.trav.reasons .maskUnchecked = true ∨ became m .uncheckable) ∧
      ∀ y, y ≠ .maskMissing → y ≠ .maskUnchecked → hasReason m.trav.reasons y = hasReason r.trav.reasons y

/-! ## The spray sequencer (chapter 5) -/

/-- The schedule of a recipe under its final verdicts. The pieces are the runs of consecutive x of a segment's interval that lie in no
exclusion of its valve, by a NO_COAT zone or a MASKED zone that is not VERIFIED, as widened by the zone's guard: each as long as it
can be, from its first x to the first x past it. Each piece of at least min_open gives one interval with the segment's valve, rate and
index, and nothing else does; in order by x_open and valve, the first 128 of them are the schedule, and SCHEDULE_FULL holds exactly
when there are more. So no x of an interval lies in an exclusion (the law of R93), and without the cut every x of a piece of at
least min_open stands in an interval. -/
def Obligations.ScheduleAvoidsExclusions : Prop :=
  ∀ (c : CellCfg) (rc : Recipe) (vs : List Verdict),
    let built := buildSchedule c rc vs
    let l := built.intervals
    let shut (valve x : Nat) : Prop := ∃ (k gd : Nat) (z : BoardZone), rc.zones[k]? = some z ∧
      (z.kind = .noCoat ∧ gd = rc.clearance ∨
        z.kind = .masked ∧ vs.getD k .pending ≠ .verified ∧ gd = rc.clearance + c.maskGuard) ∧
      2 * (c.valveY0 + valve * c.valvePitch : Int) - c.swath ≤ 2 * ((z.y1 : Int) + gd) ∧
      2 * ((z.y0 : Int) - gd) ≤ 2 * (c.valveY0 + valve * c.valvePitch : Int) + c.swath ∧
      (z.x0 : Int) - gd ≤ (x : Int) ∧ (x : Int) ≤ (z.x1 : Int) + gd
    let piece (g : Segment) (a b : Nat) : Prop := g.xOpen ≤ a ∧ a < b ∧ b ≤ g.xClose ∧
      (∀ x, a ≤ x → x < b → ¬ shut g.valve x) ∧ (a = g.xOpen ∨ shut g.valve (a - 1)) ∧ (b = g.xClose ∨ shut g.valve b)
    (l.length ≤ 128 ∧ l.Pairwise (fun a b => a.xOpen < b.xOpen ∨ a.xOpen = b.xOpen ∧ a.valve ≤ b.valve)) ∧
    (∀ i ∈ l, i.xOpen < i.xClose ∧ c.minOpen ≤ i.xClose - i.xOpen ∧ ∀ x, i.xOpen ≤ x → x < i.xClose → ¬ shut i.valve x) ∧
    (built.full = false → ∀ (k : Nat) g a b x, rc.segments[k]? = some g → piece g a b → c.minOpen ≤ b - a → a ≤ x → x < b →
      ∃ i ∈ l, i.segment = k ∧ i.valve = g.valve ∧ i.xOpen ≤ x ∧ x < i.xClose) ∧
    ∃ all : List Interval, all.Nodup ∧
      all.Pairwise (fun a b => a.xOpen < b.xOpen ∨ a.xOpen = b.xOpen ∧ a.valve ≤ b.valve) ∧
      (∀ i, i ∈ all ↔ i.progress = .armed ∧ ∃ g, rc.segments[i.segment]? = some g ∧ i.valve = g.valve ∧ i.rate = g.rate ∧
        piece g i.xOpen i.xClose ∧ c.minOpen ≤ i.xClose - i.xOpen) ∧
      l = all.take 128 ∧ (built.full = true ↔ 128 < all.length)

/-- What one forward count does to each interval of a schedule. An open event that has not fired is due by its test at this count, or
since it became due at an earlier one and had to wait; it then stays due, whatever the lead becomes. It fires exactly when it is due,
opens may fire and every earlier interval of its valve is finished, unless the close of the interval has become due, at this count or at
an earlier one: the interval is then passed over, and not opened at all. That a close that has become due before the open fires stays
due under a smaller lead, and that the interval is passed over at the count at which its open would fire, join R93 with R96 (DEDUCED, log
66). An open interval closes exactly when its close is due; an open JET interval whose close is not due counts its pitch down and at 0
switches its valve, each opening one more dot; and a finished one stays as it is. The count reports one JET_DOTS event for each dot. The
pending events are those not fired, ordered by aimed position, a close before an open, then by valve. That the dots of an interval have
no cap of their own is the model's (DESIGN CHOICE, log 53). -/
def Obligations.EventsFireWhenDue : Prop :=
  (∀ (c : CountAt) (l : List Interval),
    let out := (fireFrom c [] l).1
    let dots (i : Interval) : Nat := match i.progress with
      | .opened _ _ _ d => d
      | .closed _ d => d
      | .armed => 0
      | .due => 0
      | .lapsed _ => 0
      | .passedOver => 0
    out.length = l.length ∧ (out.map dots).sum = (l.map dots).sum + (fireFrom c [] l).2 ∧
    ∀ (j : Nat) i, l[j]? = some i → ∃ o, out[j]? = some o ∧ o = { i with progress := o.progress } ∧
      let waits := ∃ (k : Nat) (e : Interval), k < j ∧ out[k]? = some e ∧ e.valve = i.valve ∧ e.finished = false
      let ready := i.progress = .due ∨ i.progress = .lapsed true ∨ c.stopToBar + i.xOpen ≤ c.travelled + c.openLead
      let opens := c.mayOpen = true ∧ ready ∧ ¬ waits
      let closes := c.stopToBar + i.xClose ≤ c.travelled + c.closeLead
      let lapses := (∃ b, i.progress = .lapsed b) ∨ closes
      (i.progress = .armed ∨ i.progress = .due ∨ (∃ b, i.progress = .lapsed b) →
        (¬ opens → (¬ ready → ¬ lapses → o.progress = .armed) ∧ (ready → ¬ lapses → o.progress = .due) ∧
          (¬ ready → lapses → o.progress = .lapsed false) ∧ (ready → lapses → o.progress = .lapsed true)) ∧
        (opens → lapses → o.progress = .passedOver) ∧
        (opens → ¬ lapses → (∀ f, i.rate = .spray f → o.progress = .opened c.now true 0 0) ∧
          ∀ pitch v, i.rate = .jet pitch v → o.progress = .opened c.now true (pitch / 2) 1)) ∧
      (∀ since on left d, i.progress = .opened since on left d →
        (closes → o.progress = .closed (min (c.now - since) (2 ^ 20 - 1)) d) ∧
        (¬ closes → (∀ f, i.rate = .spray f → o = i) ∧ ∀ pitch v, i.rate = .jet pitch v →
          (1 < left → o.progress = .opened since on (left - 1) d) ∧
          (left ≤ 1 → on = true → o.progress = .opened since false (pitch / 2) d) ∧
          (left ≤ 1 → on = false → c.mayOpen = true → o.progress = .opened since true (pitch / 2) (d + 1)) ∧
          (left ≤ 1 → on = false → c.mayOpen = false → o.progress = .opened since false (pitch / 2) d))) ∧
      (i.finished = true → o = i)) ∧
    ∀ l : List Interval,
      (pendingEvents l).Pairwise (fun a b => a.aimed < b.aimed ∨
        a.aimed = b.aimed ∧ (a.opens = false ∧ b.opens = true ∨ a.opens = b.opens ∧ a.valve ≤ b.valve)) ∧
      ∀ e, e ∈ pendingEvents l ↔ ∃ i ∈ l, e.valve = i.valve ∧
        ((i.progress = .armed ∨ i.progress = .due ∨ ∃ b, i.progress = .lapsed b) ∧ e.opens = true ∧ e.aimed = i.xOpen ∨ i.finished = false ∧ e.opens = false ∧ e.aimed = i.xClose)

/-- The wet film of a SPRAY interval that closed normally is floor(flow x t x 40 / (L x W)), at most 1023; its product stays
below 2^36 and its divisor below 2^24; and at a constant speed v, with t = 10 x L / v, it is floor(400 x flow / (v x W))
whatever the length. -/
def Obligations.SprayFilmFormula : Prop :=
  (∀ (w flow t dots : Nat) (i : Interval), i.rate = .spray flow → i.progress = .closed t dots →
    i.film w = some (min (flow * t * 40 / ((i.xClose - i.xOpen) * w)) 1023)) ∧
    (∀ flow t, flow ≤ 255 → t ≤ 2 ^ 20 - 1 → flow * t * 40 < 2 ^ 36) ∧
    (∀ l w, l ≤ 8191 → w ≤ 1023 → l * w < 2 ^ 24) ∧
    ∀ flow t l w v, 0 < l → 0 < w → 0 < v → v * t = 10 * l → flow * t * 40 / (l * w) = 400 * flow / (v * w)

/-- The dots and the film of a JET interval. Open for k forward counts with its close not due and opens allowed, an interval of pitch
2 x h has its valve open where floor(k / h) is even, h - k mod h counts left to the next switch, and 1 + floor(k / pitch) dots. Closed
normally its wet film is floor(dots x dot_vol x 400 / (L x W)), at most 1023; an interval that did not close normally has none; and
film_min and film_max are the least and the greatest film of the intervals of a schedule that have one. That the dots of an interval
that stays open past its length have no cap is the model's (DESIGN CHOICE, log 53). -/
def Obligations.JetDotsAndFilm : Prop :=
  (∀ (c : Nat → CountAt) (i : Interval) (h v since k : Nat), 0 < h → i.rate = .jet (2 * h) v →
    i.progress = .opened since true h 1 →
    (∀ j, j < k → (c j).mayOpen = true ∧ (c j).travelled + (c j).closeLead < (c j).stopToBar + i.xClose) →
    (List.range k).foldl (fun x j => (x.fire (c j) false).1) i =
      { i with progress := .opened since (decide (k / h % 2 = 0)) (h - k % h) (1 + k / (2 * h)) }) ∧
    (∀ (w pitch v t dots : Nat) (i : Interval), i.rate = .jet pitch v → i.progress = .closed t dots →
      i.film w = some (min (dots * v * 400 / ((i.xClose - i.xOpen) * w)) 1023)) ∧
    (∀ w (i : Interval), (∀ t d, i.progress ≠ .closed t d) → i.film w = none) ∧
    ∀ w (l : List Interval), (extremes (filmsOf w l) = none ↔ ∀ i ∈ l, i.film w = none) ∧
      ∀ lo hi, extremes (filmsOf w l) = some (lo, hi) → (∃ i ∈ l, i.film w = some lo) ∧ (∃ i ∈ l, i.film w = some hi) ∧
        ∀ i ∈ l, ∀ f, i.film w = some f → lo ≤ f ∧ f ≤ hi

/-- CLAIM_REQUEST and PURGE_CLAIM_REQUEST ask for the own claim when their conditions hold: for the board that waits at SPRAY,
with its serial and its recipe's pass_limit; for a purge, without a serial, for the purge time and 1 s. The SUPPLY_CLAIM is
posted and the claim is QUEUED. Under the drive hold neither asks. PASS_START: with intervals and the board's claim granted the
record is SPRAYING, travelled is 0, every event is armed and the move to GATE is under way; with an empty schedule the record is
DONE in the same event, with film 0. -/
def Obligations.ClaimAskedAndPassStarted : Prop :=
  (
  (∀ s r rc i l, s.loaded = true → s.table.spray = some r → r.spray = .waitingSupply → r.bound s.store = some rc →
    s.spray.schedule = some (i :: l) → s.table.gate = none → s.tracker.hold = false → s.spray.purge ≠ .claiming →
    s.spray.purge ≠ .purging → s.supply.own = .none → exec .claimRequest s = .next { s with
      supply := { s.supply with
        own := .queued
        holder := some .board
        claimSerial := r.trav.serial
        claimDuration := rc.passLimit * 10 }
      link := s.link.post { postings := 1, tg :=
        { dst := 0, src := s.cfg.station, kind := kindSupplyClaim, payload :=
          s.cfg.group :: (if r.trav.serial.isSome then 1 else 0) :: (optWord r.trav.serial ++ half16 (rc.passLimit * 10)) } } }) ∧
    (∀ s, s.loaded = true → s.spray.purge = .requested → s.table.spray = none → s.tracker.hold = false → s.supply.own = .none →
      exec .purgeClaimRequest s = .next { s with
        spray := { s.spray with purge := .claiming }
        supply := { s.supply with
          own := .queued
          holder := some .purge
          claimSerial := none
          claimDuration := (s.cfg.purgeTime + 10) * 10 }
        link := s.link.post { postings := 1, tg :=
          { dst := 0, src := s.cfg.station, kind := kindSupplyClaim, payload :=
            s.cfg.group :: 0 :: ([0, 0, 0, 0] ++ half16 ((s.cfg.purgeTime + 10) * 10)) } } }) ∧
    ∀ s, s.tracker.hold = true → exec .claimRequest s = .next s ∧ exec .purgeClaimRequest s = .next s) ∧
  (
  (∀ s r i l, s.loaded = true → s.table.spray = some r → r.spray = .waitingSupply → s.table.gate = none → s.tracker.hold = false →
    s.spray.schedule = some (i :: l) → s.supply.own = .granted → s.supply.holder = some .board →
    exec .passStart s = .next { s with
      table := { s.table with spray := some { r with spray := .spraying } }
      spray := { s.spray with
        travelled := 0
        abort := none
        schedule := some ((i :: l).map fun j => { j with progress := .armed }) }
      tracker := { s.tracker with moves := { s.tracker.moves with toGate := true } } }) ∧
    ∀ s r rc, s.loaded = true → s.table.spray = some r → r.spray = .waitingSupply → r.bound s.store = some rc →
      s.table.gate = none → s.tracker.hold = false → s.spray.schedule = some [] → s.spray.purge ≠ .claiming →
      s.spray.purge ≠ .purging → ∃ t m, exec .passStart s = .next t ∧ t.table = { s.table with spray := some m } ∧
        m.spray = .done ∧ m.sprayEnd = some s.seconds ∧ m.elapsed = 0 ∧
        m.film = some { min := 0, max := 0, margin := max (-1023) (-(rc.hMin : Int)) } ∧
        (0 < rc.hMin → hasReason m.trav.reasons .filmThin = true) ∧ t.spray.schedule = none ∧
        t.tracker = { s.tracker with moves := { s.tracker.moves with toGate := true } } ∧ t.supply = s.supply ∧
        t.tunnel = s.tunnel ∧ t.holds = s.holds ∧ t.store = s.store ∧ t.mask = s.mask ∧ t.cell = s.cell)

/-- SPRAY_ENCODER_COUNT outside a pass feeds the speed window alone, and SPEED_WINDOW_END takes its count into n. The time base
moves with each event of the encoder (log 18), and an edge that is not a count is none. SPRAY_ENCODER_COUNT in a pass: a forward
count raises travelled, fires what is due and reports a JET_DOTS event for each dot opened; the count that finishes the last
interval ends the pass, with the record DONE, its film and spray end time written and reported by a FILM_MARGIN event, its
schedule discarded and its claim ended; a reverse count requests an abort. Stated of a pass with the spray encoder taken on this
edge; what the count does to the intervals is `Obligations.EventsFireWhenDue`. That the JET_DOTS events of one count are taken one by
one (log 61), and that travelled keeps its last value after the pass (log 60), is the model's (DESIGN CHOICE). -/
def Obligations.SprayEncoderCounts : Prop :=
  (
  (∀ s rising e, s.loaded = true → s.sprayIs .spraying = false →
    exec (.sprayEncoderCount .forward rising e) s = .next { s with spray := { s.spray with
      tenths := s.spray.tenths + e
      windowCount := if rising = true ∨ s.cfg.edge = .both then min (s.spray.windowCount + 1) 255
        else s.spray.windowCount } } ∧
    exec (.sprayEncoderCount .reverse rising e) s = .next { s with spray := { s.spray with tenths := s.spray.tenths + e } }) ∧
    ∀ s, s.loaded = true → ∃ t, exec .speedWindowEnd s = .next t ∧
      t = { s with spray := { s.spray with speed := min s.spray.windowCount 255, windowCount := 0 } } ∧
      t.openLead = min s.spray.windowCount 255 * s.cfg.lagOn / 160 ∧ t.closeLead = min s.spray.windowCount 255 * s.cfg.lagOff / 160) ∧
  (
  ∀ s r l rising e, s.loaded = true → s.table.spray = some r → r.spray = .spraying → s.spray.schedule = some l →
    s.spray.abort = none → rising = true ∨ s.cfg.edge = .both →
    let now := s.spray.tenths + e
    let count : CountAt :=
      { travelled := min (s.spray.travelled + 1) 65535, now := now, stopToBar := s.cfg.stopToBar, openLead := s.openLead,
        closeLead := s.closeLead, mayOpen := true }
    let out := (fireFrom count [] l).1
    let counted : State := (fun t : State => t.report .jetDots 0)^[(fireFrom count [] l).2] { s with spray := { s.spray with
      tenths := now
      windowCount := min (s.spray.windowCount + 1) 255
      travelled := min (s.spray.travelled + 1) 65535
      schedule := some out } }
    (exec (.sprayEncoderCount .reverse rising e) s =
      .next { s with spray := { s.spray with tenths := now, abort := some 200 } }) ∧
    ((∃ o ∈ out, o.finished = false) → exec (.sprayEncoderCount .forward rising e) s = .next counted) ∧
    ∀ rc, (∀ o ∈ out, o.finished = true) → r.bound s.store = some rc → s.supply.own = .granted →
      s.supply.holder = some .board →
      ∃ f, (f.min, f.max) = (extremes (filmsOf s.cfg.swath out)).getD (0, 0) ∧
        f.margin = max (-1023) (min 1023 ((f.min : Int) - rc.hMin)) ∧
        let thin := if f.min < rc.hMin then addReason r.trav.reasons .filmThin else r.trav.reasons
        let judged : State := State.report { counted with
          table := { s.table with spray := some { r with
            spray := .done
            film := some f
            sprayEnd := some s.seconds
            elapsed := 0
            trav := { r.trav with reasons := if rc.hMax < f.max then addReason thin .filmThick else thin } } }
          spray := { counted.spray with schedule := none, abort := none } } .filmMargin f.margin
        exec (.sprayEncoderCount .forward rising e) s = .next { judged with
          supply := { s.supply with own := .ending }
          link := judged.link.post s.doneTelegram })

/-- An abort takes effect at PASS_STALL_TIMEOUT, or at the next spray encoder count in either direction, of a pass whose abort is
pending, and at the completion of the move to GATE of a pass that has not ended: the record is ABORTED with SPRAY_ABORTED, judged over the
intervals closed normally alone (a forward count fires the closes due before it, log 16) with a FILM_MARGIN event, or without any
left as it was; its schedule is discarded and its claim ended. That travelled keeps its last value is the model's (DESIGN CHOICE, log
60).
That an edge command sets the pin's raw level too is the model's (DESIGN CHOICE, log 6). -/
def Obligations.AbortTakesEffect : Prop :=
  ∀ s r rc l, s.table.spray = some r → r.spray = .spraying → s.spray.schedule = some l → r.bound s.store = some rc →
    s.supply.holder ≠ some .board ∨ s.supply.own = .granted ∨ s.supply.own = .none →
    let aborted : Record := { r with
      spray := .aborted
      sprayEnd := some s.seconds
      elapsed := 0
      trav := { r.trav with reasons := addReason r.trav.reasons .sprayAborted } }
    let judged (films : List Nat) : Record := match extremes films with
      | none => aborted
      | some (lo, hi) =>
        let thin := if lo < rc.hMin then addReason aborted.trav.reasons .filmThin else aborted.trav.reasons
        { aborted with
          film := some { min := lo, max := hi, margin := max (-1023) (min 1023 ((lo : Int) - rc.hMin)) }
          trav := { r.trav with reasons := if rc.hMax < hi then addReason thin .filmThick else thin } }
    let told (films : List Nat) (t : State) : State := match extremes films with
      | none => t
      | some (lo, _) => t.report .filmMargin (max (-1023) (min 1023 ((lo : Int) - rc.hMin)))
    let ended (t : State) : State := if s.supply.holder = some .board ∧ s.supply.own = .granted then
        { t with supply := { s.supply with own := .ending }, link := t.link.post s.doneTelegram } else t
    let after (films : List Nat) (sp : Sprayer) : State := ended (told films { s with
      table := { s.table with spray := some (judged films) }
      spray := { sp with schedule := none, abort := none } })
    (∀ k, s.loaded = true → s.spray.abort = some k →
      exec .passStallTimeout s = .next (after (filmsOf s.cfg.swath l) s.spray) ∧
      ∀ rising e, rising = true ∨ s.cfg.edge = .both →
        exec (.sprayEncoderCount .reverse rising e) s =
          .next (after (filmsOf s.cfg.swath l) { s.spray with tenths := s.spray.tenths + e }) ∧
        let count : CountAt :=
          { travelled := min (s.spray.travelled + 1) 65535, now := s.spray.tenths + e, stopToBar := s.cfg.stopToBar,
            openLead := s.openLead, closeLead := s.closeLead, mayOpen := false }
        exec (.sprayEncoderCount .forward rising e) s =
          .next (after (filmsOf s.cfg.swath (fireFrom count [] l).1) { s.spray with
            tenths := s.spray.tenths + e
            windowCount := min (s.spray.windowCount + 1) 255
            travelled := min (s.spray.travelled + 1) 65535 })) ∧
    ∀ p b, s.tracking = true → (s.inputs.pos.get p).level = some (!b) → s.tracker.moves.toGate = true → s.mask.cand ≠ some .spray →
      (p = .gate ∧ b = true ∧ s.sensorEmpty .spray = true ∨ p = .spray ∧ b = false ∧ s.occupied .gate = true) →
      exec (edgeCommand p b) s = .next (State.settle { after (filmsOf s.cfg.swath l) s.spray with
        inputs := (s.setLevel p b).inputs
        table := { s.table with gate := some (judged (filmsOf s.cfg.swath l)), spray := none }
        tracker := { s.tracker with moves := { s.tracker.moves with toGate := false } } })

/-- PURGE_TIMER_EXPIRY ends a purge: its valves close, its claim is ended, its mark is cleared, and every counter armed for
PURGE is disarmed, cleared and reloaded. -/
def Obligations.PurgeEndsAtItsTimer : Prop :=
  ∀ s k, s.loaded = true → s.spray.purge = .purging → s.spray.purgeTimer = some k → s.supply.own = .granted →
    s.supply.holder = some .purge → ∃ u, exec .purgeTimerExpiry s = .next (State.starts u) ∧
      u = { s with
        spray := { s.spray with purge := .none, purgeTimer := none, purgeMark := false }
        supply := { s.supply with own := .ending }
        watch := u.watch
        link := s.link.post { postings := 1, tg :=
          { dst := 0, src := s.cfg.station, kind := kindSupplyDone, payload :=
            s.cfg.group :: (if s.supply.claimSerial.isSome then 1 else 0) :: optWord s.supply.claimSerial } } } ∧
      ∀ i : Fin 4, u.watch[i] = if s.watch[i].armed = true ∧ s.cfg.watch[i].action = .purge then
        { count := s.cfg.watch[i].reload, flag := false, armed := false, edgeMark := s.watch[i].edgeMark } else s.watch[i]

/-- The outputs. A valve below the valve count is driven exactly while the guard's raw input is closed and an interval of it is open in a
pass, for JET switched on, or a purge is under way and the valve is of the purge set; and then, under the laws of
Safety.lean, only with a granted claim that has fewer than L entries ahead, or for a pass whose abort is pending (R122). The
guard's raw input cuts every drive (R222). With it closed and the cell loaded: the entry stop is driven while it is lowered, the entry
conveyor in RUN and CLEAR_OUT unless the sensor stands occupied with no move out of ENTRY under way, the transport conveyor for the
moves into and out of TRANSPORT, the spray conveyor for the move to GATE unless a purge holds the bar, the exit conveyor for a record
DIVERTING or TRANSFERRING and not cleared, the index drive while the tunnel asserts it, the diverter for a record DIVERTING, and the
rack select with its last target. The carrier of a move or a diversion waits for the end of the drive hold. FAULT is driven in
CONFIG_FAULT alone, where every other output is off, as before the load. That the entry stop keeps its demand through the hold, and
that a rack select not driven reads 0, is the model's reading (DEDUCED, log 24). -/
def Obligations.ValvesOpenOnlyUnderClaim : Prop :=
  (∀ (s : State) v, s.sprayLaw → s.supplyLaw → s.valvePin v = true → s.cut = false ∧ v < s.cfg.valveCount ∧
    (s.supply.own = .granted ∧ (∃ n, s.entriesAhead = some n ∧ n < s.cfg.limit) ∨
      s.sprayIs .spraying = true ∧ s.spray.abort.isSome = true)) ∧
  (∀ (s : State) v, s.valvePin v = true ↔ s.loaded = true ∧ s.inputs.guard.raw = false ∧ v < s.cfg.valveCount ∧
    ((∃ r l i since left dots, s.table.spray = some r ∧ r.spray = .spraying ∧ s.spray.schedule = some l ∧ i ∈ l ∧ i.valve = v ∧
        i.progress = .opened since true left dots) ∨
      s.spray.purge = .purging ∧ s.cfg.purgeSet.getLsbD v = true)) ∧
  (∀ s : State, s.cutLaw) ∧
  (∀ s : State, s.loaded = true → s.inputs.guard.raw = false →
    let free := s.tracker.hold = false
    let diverting := ∃ r k, s.table.exit = some r ∧ r.diversion = some (.diverting k)
    (s.entryStopPin = true ↔ s.tracker.stopLowered = true) ∧
    (s.entryConvPin = true ↔ (s.cell = .run ∨ s.cell = .clearOut) ∧
      (s.tracker.moves.toTransport = true ∧ free ∨
        s.tracker.moves.toTransport = false ∧ s.inputs.pos.entry.level ≠ some true)) ∧
    (s.transConvPin = true ↔ free ∧ (s.tracker.moves.toTransport = true ∨ s.tracker.moves.toSpray = true)) ∧
    (s.sprayConvPin = true ↔ free ∧ s.tracker.moves.toGate = true ∧ s.spray.purge ≠ .claiming ∧ s.spray.purge ≠ .purging) ∧
    (s.exitConvPin = true ↔ free ∧ (diverting ∨
      ∃ r n received timer, s.table.exit = some r ∧ r.handoff = some (.transferring n false received timer))) ∧
    (s.indexPin = true ↔ s.tunnel.drive = true) ∧
    (s.diverterPin = true ↔ free ∧ diverting) ∧
    (free ∨ ¬ diverting → s.rackSelectPins = BitVec.ofNat 3 s.holds.rackSelect.val) ∧
    (¬ free → diverting → s.rackSelectPins = 0)) ∧
  (∀ s : State, s.faultPin = true ↔ s.cell = .configFault) ∧
  ∀ s : State, s.blankLaw → s.loaded = false →
    (∀ v, s.valvePin v = false) ∧ s.entryStopPin = false ∧ s.entryConvPin = false ∧ s.transConvPin = false ∧
      s.sprayConvPin = false ∧ s.exitConvPin = false ∧ s.indexPin = false ∧ s.diverterPin = false ∧ s.rackSelectPins = 0

/-! ## Shared fluid supply (chapter 6) -/

/-- SUPPLY_CLAIM in CLEAR_OUT, RUN and STOPPED: a claim of another station replaces its entry behind every other, with its duration, 0
entered as 1; one of another group removes its entry alone; and one that does not fit, from source 0 or from this cell is discarded.
The grant test follows. In the other cell states the view takes none (R128, log 35). -/
def Obligations.SupplyClaimTaken : Prop :=
  (∀ s src p, s.tracking = true →
    let others := s.supply.view.filter fun e => e.station != src
    (p.length ≠ 8 ∨ src = 0 ∨ src = s.cfg.station → exec (.supplyClaim src p) s = .next s) ∧
    (p.length = 8 → src ≠ 0 → src ≠ s.cfg.station → src.toNat ≤ 31 →
      (byteAt p 0 = s.cfg.group → exec (.supplyClaim src p) s = .next (State.afterView { s with supply := { s.supply with
        view := others ++ [{ station := src, serial := none, remaining := max 1 (256 * (byteAt p 6).toNat + (byteAt p 7).toNat) }] } })) ∧
      (byteAt p 0 ≠ s.cfg.group → exec (.supplyClaim src p) s =
        .next (State.afterView { s with supply := { s.supply with view := others } })))) ∧
    ∀ s src p, s.cell = .start ∨ s.cell = .configFault → exec (.supplyClaim src p) s = .next s

/-- SUPPLY_DONE of another station, in CLEAR_OUT, RUN and STOPPED, removes its entry, whatever group and serial it carries; with no
entry it has no effect; one that does not fit, from source 0 or from this cell is discarded; and where the removal leaves fewer than
L entries ahead of a WAITING claim after the learning time, the claim is granted. What starts after it is log 2. In the other cell
states the view takes none (R128, log 35). -/
def Obligations.SupplyDoneRemovesEntry : Prop :=
  (∀ s src p, s.tracking = true →
    let others := s.supply.view.filter fun e => e.station != src
    (p.length ≠ 6 ∨ src = 0 ∨ src = s.cfg.station → exec (.supplyDone src p) s = .next s) ∧
    (p.length = 6 → (∀ e ∈ s.supply.view, e.station ≠ src) → exec (.supplyDone src p) s = .next s) ∧
    (p.length = 6 → src ≠ 0 → src ≠ s.cfg.station → src.toNat ≤ 31 → (∃ e ∈ s.supply.view, e.station = src) →
      ∃ t, exec (.supplyDone src p) s = .next t ∧ t.supply.view = others ∧ t.store = s.store ∧ t.inputs = s.inputs ∧
        (s.supply.own ≠ .waiting → exec (.supplyDone src p) s =
          .next (State.starts { s with supply := { s.supply with view := others } })) ∧
        ∀ ahead own behind, s.supply.own = .waiting → s.supply.learning = none → others = ahead ++ own :: behind →
          own.station = s.cfg.station → (∀ e ∈ ahead, e.station ≠ s.cfg.station) →
          (ahead.length < s.cfg.limit → t.supply.own = .granted) ∧ (s.cfg.limit ≤ ahead.length → t.supply.own = .waiting))) ∧
    ∀ s src p, s.cell = .start ∨ s.cell = .configFault → exec (.supplyDone src p) s = .next s

/-- The grant of R123: CLAIM_GRANTED and the end of the learning time make the test. A claim that WAITS with fewer than L
entries ahead, after the learning time, is GRANTED, and for a purge the valves open and the purge timer starts; in every other
case nothing is granted. -/
def Obligations.ClaimGrantedByTest : Prop :=
  (∀ s ahead own behind, s.loaded = true → s.supply.own = .waiting → s.supply.learning = none →
    s.supply.view = ahead ++ own :: behind → own.station = s.cfg.station → (∀ e ∈ ahead, e.station ≠ s.cfg.station) →
    ahead.length < s.cfg.limit →
    (s.supply.holder = some .board → exec .claimGranted s =
      .next (State.starts { s with supply := { s.supply with own := .granted } })) ∧
    (s.supply.holder = some .purge → s.spray.purge = .claiming → s.tracker.hold = false → exec .claimGranted s =
      .next (State.starts { s with
        supply := { s.supply with own := .granted }
        spray := { s.spray with purge := .purging, purgeTimer := some (s.cfg.purgeTime * 100) } }))) ∧
    (∀ s, s.loaded = true → s.supply.own ≠ .waiting ∨ s.supply.learning ≠ none ∨ s.entriesAhead = none ∨
      (∃ n, s.entriesAhead = some n ∧ s.cfg.limit ≤ n) → exec .claimGranted s = .next s.starts) ∧
    (∀ s k, s.loaded = true → s.supply.learning = some k → exec .learningTimeEnd s =
      .next (State.afterView { s with supply := { s.supply with learning := none } })) ∧
    ∀ s, s.loaded = true → exec .claimGranted s = .next s.afterView

/-- The read-back of the own telegrams at the end of their sends: a delivered claim appends the own entry and WAITS; a refused
one is withdrawn with SUPPLY_DONE and asked for again after 50 ms; a claim whose end was asked for during its send is ended; and
the SUPPLY_DONE of an ENDING claim, delivered or refused, removes the own entry and leaves no claim. RE_CLAIM_TIMER_EXPIRY posts
the claim again. SUPPLY_TICK lowers every entry by one and removes those that reach 0; CLAIM_ENTRY_EXPIRY removes one station's
entry. Where the own entry of a WAITING or GRANTED claim goes, the claim is gone with no telegram: a pass is requested to abort,
and a purge goes back to REQUESTED. Conventions of the model: entries that run out at one tick go together (log 11), a held telegram
enters before the report is acted on (log 12), the two read-back rows are the SEND_END of their telegram (log 28), and the state of a
purge whose claim runs out is log 48. -/
def Obligations.OwnClaimReadBackAndExpired : Prop :=
  (
  (∀ s e rest c refused, s.loaded = true → s.link.line = .sending → s.link.out = e :: rest → e.tg.kind = kindSupplyClaim →
    (c = .sendEnd refused ∨ c = .ownClaimReadback refused) →
    let sent : State := { s with link := s.link.sent s.isStopped }
    let done (t : State) : State := t.post 0 kindSupplyDone
      (s.cfg.group :: (if s.supply.claimSerial.isSome then 1 else 0) :: optWord s.supply.claimSerial)
    (s.supply.own = .sending → refused = false → exec c s = .next (State.afterView { sent with supply := { s.supply with
      own := .waiting
      view := (s.supply.view.filter fun v => v.station != s.cfg.station) ++
        [{ station := s.cfg.station, serial := s.supply.claimSerial, remaining := s.supply.claimDuration }] } })) ∧
    (s.supply.own = .sending → refused = true → exec c s = .next (State.starts (done { sent with supply := { s.supply with
      own := .refusedWait
      doneRead := false
      reClaim := some 50 } }))) ∧
    (s.supply.own = .ending → exec c s = .next (State.starts (done sent)))) ∧
    (∀ s e rest c refused, s.loaded = true → s.link.line = .sending → s.link.out = e :: rest → e.tg.kind = kindSupplyDone →
      (c = .sendEnd refused ∨ c = .ownDoneReadback refused) →
      let sent : State := { s with link := s.link.sent s.isStopped }
      (s.supply.own = .ending → exec c s = .next (State.starts { sent with supply := { s.supply with
        own := .none
        holder := none
        reClaim := none
        view := s.supply.view.filter fun v => v.station != s.cfg.station } })) ∧
      (s.supply.own = .refusedWait → exec c s = .next (State.starts { sent with supply := { s.supply with doneRead := true } }))) ∧
    ∀ s k, s.loaded = true → s.supply.own = .refusedWait → s.supply.reClaim = some k → exec .reClaimTimerExpiry s = .next { s with
      supply := { s.supply with own := .queued, reClaim := none }
      link := s.link.post { postings := 1, tg :=
        { dst := 0, src := s.cfg.station, kind := kindSupplyClaim, payload :=
          s.cfg.group :: (if s.supply.claimSerial.isSome then 1 else 0) ::
            (optWord s.supply.claimSerial ++ half16 s.supply.claimDuration) } } }) ∧
  (
  ∀ s c view, s.loaded = true →
    (c = .supplyTick ∧ view = (s.supply.view.map fun e => { e with remaining := e.remaining - 1 }).filter
        (fun e => decide (0 < e.remaining)) ∨
      ∃ st, c = .claimEntryExpiry st ∧ view = s.supply.view.filter fun e => e.station != st) →
    ((∃ e ∈ view, e.station = s.cfg.station) ∨ (∀ e ∈ s.supply.view, e.station ≠ s.cfg.station) ∨
        s.supply.own ≠ .waiting ∧ s.supply.own ≠ .granted →
      exec c s = .next (State.afterView { s with supply := { s.supply with view := view } })) ∧
    ((∃ e ∈ s.supply.view, e.station = s.cfg.station) → (∀ e ∈ view, e.station ≠ s.cfg.station) →
      s.supply.own = .waiting ∨ s.supply.own = .granted →
      let gone : Supply := { s.supply with view := view, own := .none, holder := none, reClaim := none }
      (s.supply.holder = some .board → s.sprayIs .spraying = true → s.spray.abort = none →
        exec c s = .next (State.starts { s with supply := gone, spray := { s.spray with abort := some 200 } })) ∧
      (s.supply.holder = some .board → s.sprayIs .spraying = false →
        exec c s = .next (State.starts { s with supply := gone })) ∧
      (s.supply.holder = some .purge → s.spray.purge = .claiming ∨ s.spray.purge = .purging →
        exec c s = .next (State.starts { s with
          supply := gone
          spray := { s.spray with purge := .requested, purgeTimer := none } }))))

/-! ## The cure tunnel (chapters 7 and 8) -/

/-- The weight of a cure tick: 0 for a LOST zone and below T_on; otherwise, with d the whole degrees above Tref, at most 49, q
its decade and r the rest, the factor of r scaled by 2 to the power q, 0 below q = -8. It lies in 0..7648 and never falls as the
reading rises. -/
def Obligations.WeightOfReading : Prop :=
  (∀ rc, weight none rc = 0) ∧ (∀ rc t, t < rc.tOn → weight (some t) rc = 0) ∧
    (∀ rc t (d q : Int) (r f : Nat), rc.tOn ≤ t → (10 * d ≤ t - rc.tRef ∧ t - rc.tRef < 10 * d + 10 ∧ d ≤ 49 ∨
        d = 49 ∧ 490 ≤ t - rc.tRef) → d = 10 * q + r → r < 10 →
      [256, 274, 294, 315, 338, 362, 388, 416, 446, 478][r]? = some f →
      (∀ n : Nat, q = n → weight (some t) rc = f * 2 ^ n) ∧
      (∀ n : Nat, q = -(n : Int) → 1 ≤ n → n ≤ 8 → weight (some t) rc = f / 2 ^ n) ∧
      (q < -8 → weight (some t) rc = 0)) ∧
    (∀ rc t, weight (some t) rc ≤ 7648) ∧ ∀ rc t u, t ≤ u → weight (some t) rc ≤ weight (some u) rc

/-- CURE_TICK for the records: a record sprayed here in a slot gains its weight, with CURE_DATA_GAP in a LOST zone, OVERCURE
above its window and OVERTEMP above T_max; any other gains nothing; the flash/pot count advances, and POT_LIFE arises at SPRAY
and GATE; no other reason arises, and nothing else of a record changes. The tick starts a poll with zone A. POT_LIFE_EXPIRY makes the
pot test alone. -/
def Obligations.CureTickTimesAndDoses : Prop :=
  (∀ s, s.loaded = true → ∃ t, exec .cureTick s = .next t ∧
    t = { s with
      table := t.table
      tunnel := { s.tunnel with
        phase := t.tunnel.phase
        dwell := t.tunnel.dwell
        extensionUsed := t.tunnel.extensionUsed
        drive := t.tunnel.drive
        timeout := t.tunnel.timeout
        carriesGate := t.tunnel.carriesGate
        poll := some { zone := .a, timer := 250 }
        probeRequest := s.tunnel.probeRequest + 1 } } ∧
    (∀ p, s.table.get p = none → t.table.get p = none) ∧
    (∀ p r, s.table.get p = some r → ∃ m, t.table.get p = some m ∧
      m = { r with
        dose := m.dose
        tickWeight := m.tickWeight
        elapsed := m.elapsed
        trav := { r.trav with reasons := m.trav.reasons } } ∧
      m.elapsed = (if r.sprayEnd.isSome then min (r.elapsed + 1) (2 ^ 32 - 1) else r.elapsed) ∧
      (∀ x, hasReason r.trav.reasons x = true → hasReason m.trav.reasons x = true) ∧
      (∀ x, hasReason m.trav.reasons x = true → hasReason r.trav.reasons x = true ∨ r.sprayedHere = true ∧
        (x = .potLife ∧ (p = .spray ∨ p = .gate) ∨
          (x = .cureDataGap ∨ x = .overcure ∨ x = .overtemp) ∧ (slotZoneOf s.cfg.slotZone p).isSome = true)) ∧
      (∀ rc z, slotZoneOf s.cfg.slotZone p = some z → r.sprayedHere = true → r.bound s.store = some rc →
        let value := (s.tunnel.zones.get z).value
        m.tickWeight = some (weight value rc) ∧ m.dose = min (r.dose + weight value rc) (2 ^ 32 - 1) ∧
        (hasReason m.trav.reasons .cureDataGap = true ↔ value = none ∨ hasReason r.trav.reasons .cureDataGap = true) ∧
        (hasReason m.trav.reasons .overcure = true ↔ rc.cureMax * 256 < m.dose ∨ hasReason r.trav.reasons .overcure = true) ∧
        (hasReason m.trav.reasons .overtemp = true ↔
          (∃ v, value = some v ∧ rc.tMax < v) ∨ hasReason r.trav.reasons .overtemp = true)) ∧
      (slotZoneOf s.cfg.slotZone p = none ∨ r.sprayedHere = false → m.tickWeight = none ∧ m.dose = r.dose ∧
        (¬ ((p = .spray ∨ p = .gate) ∧ r.sprayedHere = true) → m.trav.reasons = r.trav.reasons)) ∧
      (∀ rc, p = .spray ∨ p = .gate → r.sprayedHere = true → r.bound s.store = some rc →
        (hasReason m.trav.reasons .potLife = true ↔ rc.potMax ≤ m.elapsed ∨ hasReason r.trav.reasons .potLife = true)))) ∧
    ∀ s, s.loaded = true → ∃ t, exec .potLifeExpiry s = .next t ∧ t = { s with table := t.table } ∧
      ∀ p, t.table.get p = (s.table.get p).map fun r =>
        if (p = .spray ∨ p = .gate) ∧ r.sprayedHere = true ∧ (r.bound s.store).any (fun rc => decide (rc.potMax ≤ r.elapsed)) = true
        then r.addReason .potLife else r

/-- The dwell at a cure tick, its expiry, and the index: above one second it counts down while the tunnel is RUNNING in DWELL;
at the expiry in RUN an extension is taken where slot 5 is short, the total allows it and no projected dose passes its window;
otherwise the index falls due. A due index starts where EXIT is free, the tunnel RUNNING and there is something to carry. At its
timeout the tunnel is in FAULT. -/
def Obligations.DwellExpiryAndIndex : Prop :=
  (∀ s t, s.loaded = true → exec .cureTick s = .next t → s.tunnel.phase = .dwell → s.tunnel.dwell ≠ 1 ∨ s.runState ≠ .running →
    t.tunnel.phase = .dwell ∧ t.tunnel.extensionUsed = s.tunnel.extensionUsed ∧
    t.tunnel.dwell = if s.runState = .running then s.tunnel.dwell - 1 else s.tunnel.dwell) ∧
    (∀ s t c v, s.loaded = true → exec .cureTick s = .next t →
      (c = .dwellExpiry ∧ s.tunnel.phase = .dwell ∧ s.tunnel.dwell = 1 ∧ s.runState = .running ∨
        c = .indexStart ∧ s.tunnel.phase = .indexPending) →
      exec c { s with table := t.table } = .next v →
      t.tunnel = { v.tunnel with poll := t.tunnel.poll, probeRequest := t.tunnel.probeRequest }) ∧
    (∀ s : State, s.runState = .running ↔ s.tunnel.fault = false ∧ (s.cell = .clearOut ∨ s.cell = .run) ∧ s.tracker.hold = false) ∧
    (∀ s : State, s.loaded = true → s.runState = .running → s.tunnel.phase = .dwell → 0 < s.tunnel.dwell →
      let extends' := s.cell = .run ∧ s.tunnel.extensionUsed + s.cfg.extensionStep ≤ s.cfg.maxExtension ∧
        (∃ r rc, s.table.tunnel5 = some r ∧ r.sprayedHere = true ∧ r.bound s.store = some rc ∧ r.dose < rc.cureMin * 256) ∧
        ∀ p ∈ slotPositions, ∀ r rc, s.table.get p = some r → r.sprayedHere = true → r.bound s.store = some rc →
          r.dose + s.cfg.extensionStep * r.tickWeight.getD 0 ≤ rc.cureMax * 256
      (extends' → exec .dwellExpiry s = .next { s with tunnel := { s.tunnel with
        dwell := s.cfg.extensionStep, extensionUsed := s.tunnel.extensionUsed + s.cfg.extensionStep } }) ∧
      (¬ extends' → exec .dwellExpiry s = exec .indexStart { s with tunnel := { s.tunnel with
        dwell := 0, phase := .indexPending } })) ∧
    (∀ s, s.loaded = true → ∃ admitted : Bool,
      (s.table.gate = none → admitted = false) ∧
      (∀ r, s.table.gate = some r → r.sprayedHere = false → admitted = true) ∧
      (∀ r rc, s.table.gate = some r → r.sprayedHere = true → r.bound s.store = some rc →
        (admitted = true ↔ rc.flashMin ≤ r.elapsed)) ∧
      let due := s.tunnel.phase = .indexPending ∧ s.table.exit = none ∧ s.runState = .running ∧
        ((∃ p ∈ slotPositions, s.table.get p ≠ none) ∨ admitted = true)
      (due → exec .indexStart s = .next { s with tunnel := { s.tunnel with
        phase := .indexing, drive := true, timeout := some 10000, carriesGate := admitted } }) ∧
      (¬ due → exec .indexStart s = .next s)) ∧
    ∀ s k, s.loaded = true → s.tunnel.phase = .indexing → s.tunnel.fault = false → s.tunnel.timeout = some k →
      exec .indexTimeout s = .next (State.notice { s with tunnel := { s.tunnel with drive := false, timeout := none, fault := true } }
        8 [1, byteOf (((coveredPositions s.tunnel.carriesGate).filter fun p => p != .exit && (s.table.get p).isSome).length)])

/-- INDEX_DONE: without effect at an input that is active already, and not taken outside an index or in FAULT; in one, the carried
records move on one place together, a covered position whose sensor stands empty loses its record, one that stands occupied without
a record gains a STRANDED one, and the dwell is loaded again. A record so lost hands its recipe reference back and is told by NOTICE
BOARD_REMOVED, the positions in order from GATE to EXIT; the notices are stated of records without a handoff, where the record that
the index places at EXIT posts nothing of its own. With the exit sensor empty, such a record, placed and removed by one index, makes no
CURE_MARGIN event and so no NOTICE WATCH: this is the model's (DESIGN CHOICE, log 49). The order of the bytes of the reasons in
BOARD_REMOVED is the model's (PRESUMED, log 31). That the command sets the filtered level and the last
sample and leaves the raw pin is the model's (DESIGN CHOICE, log 62). -/
def Obligations.IndexDoneMovesRecords : Prop :=
  ∀ s : State, s.loaded = true →
    let taken : State := { s with inputs := { s.inputs with indexDone := { s.inputs.indexDone with last := some true, level := some true } } }
    (s.inputs.indexDone.level = some true → exec .indexDone s = .next s) ∧
    (s.inputs.indexDone.level ≠ some true → s.tunnel.phase ≠ .indexing ∨ s.tunnel.fault = true → exec .indexDone s = .next taken) ∧
    (s.inputs.indexDone.level ≠ some true → s.tunnel.phase = .indexing → s.tunnel.fault = false →
      let moved := s.table.shifted s.tunnel.carriesGate
      let gone (p : Position) : Option Record := if s.sensorEmpty p then moved.get p else none
      let told : State := (coveredPositions s.tunnel.carriesGate).foldl (fun t p => match gone p with
        | none => t
        | some r => t.notice 3 (byteOf (positionBit p) :: (if r.trav.serial.isSome then 1 else 0) ::
            (optWord r.trav.serial ++ be16 r.trav.variant ++ be16 r.trav.lot ++ be24 r.trav.reasons))) s
      ∃ u, exec .indexDone s = .next (State.settle u) ∧ u.tunnel = { s.tunnel with
          phase := .dwell
          dwell := s.cfg.baseDwell
          extensionUsed := 0
          drive := false
          timeout := none
          carriesGate := false } ∧
        u.tracker.moves = s.tracker.moves ∧ u.inputs = taken.inputs ∧ u.cell = s.cell ∧ u.holds = s.holds ∧ u.fixed = s.fixed ∧
        (∀ p, p ∉ coveredPositions s.tunnel.carriesGate → u.table.get p = s.table.get p) ∧
        (∀ p, p ∈ coveredPositions s.tunnel.carriesGate → p ≠ .exit →
          u.table.get p = match moved.get p, (s.inputs.pos.get p).level with
            | some _, some false => none
            | some r, _ => some r
            | none, some true => some Record.strandedRecord
            | none, _ => none) ∧
        (moved.exit.isSome = true → s.sensorEmpty .exit = true → u.table.exit = none) ∧
        (moved.exit = none → s.occupied .exit = true →
          u.table.exit = some { Record.strandedRecord with diversion := some .waitingRack }) ∧
        (moved.exit = none → s.occupied .exit = false → u.table.exit = none) ∧
        ((∀ p ∈ coveredPositions s.tunnel.carriesGate, ∀ r, gone p = some r → r.handoff = none) →
          (s.table.tunnel5 = none ∨ s.sensorEmpty .exit = true ∨ ∃ r, s.table.tunnel5 = some r ∧ r.trav.reasons ≠ 0 ∧
            ∀ i : Fin 4, s.cfg.watch[i].source = .cureMargin → s.cfg.watch[i].action ≠ .notice) →
          u.link = told.link) ∧
        u.store = { s.store with records := u.store.records } ∧
        ∀ i : Fin 12,
          let lost := ∃ p ∈ coveredPositions s.tunnel.carriesGate, ∃ r, gone p = some r ∧ r.recipe = some i
          let kept := ∃ p r, u.table.get p = some r ∧ r.recipe = some i
          (s.store.records[i].isRetiring = true → lost → ¬ kept → u.store.records[i] = .free) ∧
          (s.store.records[i].isRetiring = false ∨ ¬ lost ∨ kept → u.store.records[i] = s.store.records[i]))

/-- INDEX_DONE places the record of slot 5 at EXIT, with every sensor agreeing. A record sprayed here is judged: it reports its cure margin
by a CURE_MARGIN event, and short of its minimum gains CURE_SHORT; a clean one gains its coat result and its step. Then any record
clean while a counter is armed for AUDIT (after that event) is the audit sample. A record with a reason then waits for the rack; a
clean one is offered, or goes into the line end. -/
def Obligations.RecordJudgedAtExit : Prop :=
  ∀ s r, s.loaded = true → s.inputs.indexDone.level ≠ some true → s.tunnel.phase = .indexing → s.tunnel.fault = false →
    s.table.tunnel5 = some r →
    s.cell = .run ∨ s.cell = .stopped →
    (∀ p, p ∈ coveredPositions s.tunnel.carriesGate →
      ((s.table.shifted s.tunnel.carriesGate).get p = none → s.occupied p = false) ∧
      ((s.table.shifted s.tunnel.carriesGate).get p ≠ none → s.sensorEmpty p = false)) →
    ∃ u m, exec .indexDone s = .next (State.settle u) ∧ u.table.exit = some m ∧ m.identity = r.identity ∧ m.dose = r.dose ∧
      m.spray = r.spray ∧ m.recipe = r.recipe ∧ m.film = r.film ∧ m.clip = r.clip ∧ m.trav.length = r.trav.length ∧
      (∀ watch reasons steps results,
        (r.sprayedHere = false ∧ watch = s.watch ∧ reasons = r.trav.reasons ∧ steps = r.trav.stepsDone ∧
            results = r.trav.results ∨
          ∃ rc, r.sprayedHere = true ∧ r.bound s.store = some rc ∧
            watch = (s.report .cureMargin (max (-65535) (min 65535 (((r.dose / 256 : Nat) : Int) - rc.cureMin)))).watch ∧
            reasons = (if r.dose < rc.cureMin * 256 then addReason r.trav.reasons .cureShort else r.trav.reasons) ∧
            steps = (if reasons = 0 then addStep r.trav.stepsDone rc.step else r.trav.stepsDone) ∧
            results = if reasons = 0 ∧ r.trav.results.length < 4 then r.trav.results ++
              [{ step := byteOf rc.step
                 cell := s.cfg.station
                 filmMin := BitVec.ofNat 16 ((r.film.map (·.min)).getD 0)
                 filmMax := BitVec.ofNat 16 ((r.film.map (·.max)).getD 0)
                 dose := BitVec.ofNat 16 (r.dose / 256) }] else r.trav.results) →
        m.trav.stepsDone = steps ∧ m.trav.results = results ∧
        ((reasons = 0 ∧ ∃ i : Fin 4, watch[i].armed = true ∧ s.cfg.watch[i].action = .audit) →
          m.trav.reasons = reasonBit .auditSample ∧
          (∃ b, m.trav.snapshot = some b ∧ ∀ i : Fin 4, b.getLsbD i.val = watch[i].flag) ∧
          ∀ i : Fin 4, u.watch[i] = if watch[i].armed = true ∧ s.cfg.watch[i].action = .audit then
            { watch[i] with count := s.cfg.watch[i].reload, flag := false, armed := false } else watch[i]) ∧
        (¬ (reasons = 0 ∧ ∃ i : Fin 4, watch[i].armed = true ∧ s.cfg.watch[i].action = .audit) →
          m.trav.reasons = reasons ∧ m.trav.snapshot = r.trav.snapshot ∧ u.watch = watch)) ∧
      (m.trav.reasons ≠ 0 → m.diversion = some .waitingRack ∧ m.handoff = none) ∧
      (m.trav.reasons = 0 → s.cfg.downstream = 0 → m.handoff = some (.transferring none false true none)) ∧
      (m.trav.reasons = 0 → s.cfg.downstream ≠ 0 → u.tracker.handoffCounter = s.tracker.handoffCounter + 1 ∧
        m.handoff = some (.offered (s.tracker.handoffCounter + 1) (if s.cell = .stopped then .due else .posting)) ∧
        (s.cell = .run →
          u.posted s.cfg.downstream kindOffer (offerPayload (s.tracker.handoffCounter + 1) m.trav)))

/-- The read under way ends at its answer or at its timeout: a good temperature is taken; a failed read keeps the value for
three misses, and the fourth drops it with NOTICE ZONE_LOST; the next fitted zone's read begins. An answer for no read, or with
another zone or number, is discarded. -/
def Obligations.ProbeReadTaken : Prop :=
  ∀ s : State, s.loaded = true →
    (∀ z n a, s.tunnel.poll = none ∨ (∃ rd, s.tunnel.poll = some rd ∧ rd.zone ≠ z) ∨ n ≠ s.tunnel.probeRequest →
      exec (.probeReadDone z n a) s = .next s) ∧
    (s.tunnel.poll = none → exec .probeReadTimeout s = .next s) ∧
    ∀ rd c good, s.tunnel.poll = some rd →
      (c = .probeReadTimeout ∧ good = none ∨
        (∃ t, c = .probeReadDone rd.zone s.tunnel.probeRequest (.value t) ∧
          good = if -500 ≤ t ∧ t ≤ 3000 then some t else none) ∨
        (c = .probeReadDone rd.zone s.tunnel.probeRequest .error ∨ c = .probeReadDone rd.zone s.tunnel.probeRequest .badCheck) ∧
          good = none) →
      let before := s.tunnel.zones.get rd.zone
      let after : ZoneState := match good, before.value with
        | some t, _ => { value := some t, miss := 0 }
        | none, some v => if before.miss < 3 then { value := some v, miss := before.miss + 1 } else { value := none, miss := 4 }
        | none, none => before
      let next := match rd.zone with
        | .a => if 2 ≤ s.cfg.zoneCount then some Zone.b else none
        | .b => if 3 ≤ s.cfg.zoneCount then some Zone.c else none
        | .c => none
      let ended : State := { s with tunnel := { s.tunnel with
        zones := s.tunnel.zones.put rd.zone after
        poll := next.map fun z => { zone := z, timer := 250 }
        probeRequest := s.tunnel.probeRequest + if next.isSome then 1 else 0 } }
      (after.value.isSome = true ∨ before.value = none → exec c s = .next ended) ∧
      ∀ v, before.value = some v → after.value = none → exec c s = .next (ended.notice 9
        (byteOf (zoneIndex rd.zone) :: (signed16 v ++ [byteOf ((slotPositions.filter fun p =>
          slotZoneOf s.cfg.slotZone p == some rd.zone && (s.table.get p).any (·.sprayedHere)).length)])))

/-! ## Rework holds and lot quarantine (chapter 9) -/

/-- DIVERSION_START, for the record that waits for the rack: with no drive hold, the lowest free rack position becomes its
target and the rack select output takes it; with no free position, under the hold, or with no such record, nothing starts. A
diversion completes at the edge after which the target's rack sensor stands occupied and the exit sensor empty, in either order:
the record leaves the table, its entry stands HELD at the target, NOTICE HOLD_PLACED is posted, the HOLD_PLACED event is reported,
and the near-full test follows the count, with NOTICE RACK_NEAR_FULL at an upward crossing, in that order. Any other edge of the exit
sensor changes the level alone while a record is DIVERTING, and every edge of it while one is in WAITING_RACK. The bytes of the reasons in
HOLD_PLACED are log 31, and the raw level that an edge sets is log 6. -/
def Obligations.DiversionStartsAndCompletes : Prop :=
  (
  ∀ s : State, s.loaded = true →
    (∀ r (k : Fin 8), s.table.exit = some r → r.diversion = some .waitingRack → s.tracker.hold = false →
      (∀ e ∈ s.holds.list, e.rack ≠ k) → (∀ j : Fin 8, j < k → ∃ e ∈ s.holds.list, e.rack = j) →
      exec .diversionStart s = .next { s with
        table := { s.table with exit := some { r with diversion := some (.diverting k) } }
        holds := { s.holds with rackSelect := k } }) ∧
    (s.tracker.hold = true ∨ (∀ k : Fin 8, ∃ e ∈ s.holds.list, e.rack = k) ∨
        (∀ r, s.table.exit = some r → r.diversion ≠ some .waitingRack) →
      exec .diversionStart s = .next s)) ∧
  (
  ∀ s c r (k : Fin 8), s.tracking = true → s.table.exit = some r → r.diversion = some (.diverting k) →
    (c = .rackOccupiedEdge k ∧ s.inputs.rack[k].level = some false ∧ s.sensorEmpty .exit = true ∨
      c = .emptyEdge .exit ∧ s.inputs.rack[k].level = some true ∧ s.occupied .exit = true ∧ s.tunnel.phase ≠ .indexing) →
    let list := s.holds.list ++ [HoldEntry.mk k r.trav.serial (some (r.trav.variant, r.trav.lot)) r.trav.reasons s.seconds .held]
    let clip := r.clip.first
    let body : List Byte := byteOf k.val ::
      flagByte [r.trav.serial.isSome, r.trav.readSerial.isSome, r.trav.length.isSome, r.trav.snapshot.isSome, clip.isSome] ::
        (optWord r.trav.serial ++ optWord r.trav.readSerial ++ be16 r.trav.variant ++ be16 r.trav.lot ++ be24 r.trav.reasons ++
          be32 s.seconds ++ [r.trav.stepsDone.setWidth 8, byteOf r.trav.results.length] ++ be16 (r.trav.length.getD 0) ++
          [(r.trav.snapshot.getD 0).setWidth 8, byteOf r.clip.count, byteOf ((clip.map (·.valve)).getD 0)] ++
          be16 (BitVec.ofNat 16 ((clip.map (·.x)).getD 0)) ++ [byteOf ((clip.map (·.zone)).getD 0)])
    let near (t : State) : State :=
      if s.cfg.nearFull ≤ list.length ∧ s.holds.nearFull = false then
        { t with holds := { s.holds with list := list, nearFull := true } }.notice 5 [byteOf list.length, byteOf s.cfg.nearFull]
      else { t with holds := { s.holds with list := list, nearFull := decide (s.cfg.nearFull ≤ list.length) } }
    ∃ u, exec c s = .next (State.settle u) ∧
      (s.mask.cand ≠ some .exit → u = near (State.report (State.notice { s with
          inputs := (if c = .emptyEdge .exit then s.setLevel .exit false else s.setRackLevel k true).inputs
          table := { s.table with exit := none }
          store := s.storeWithout r } 4 body) .holdPlaced 0)) ∧
      u.table = { s.table with exit := none } ∧
      u.holds = { s.holds with
        list := s.holds.list ++ [HoldEntry.mk k r.trav.serial (some (r.trav.variant, r.trav.lot)) r.trav.reasons s.seconds .held]
        nearFull := decide (s.cfg.nearFull ≤ s.holds.list.length + 1) } ∧
      u.tracker = s.tracker ∧ u.tunnel = s.tunnel ∧ u.supply = s.supply ∧ u.cell = s.cell ∧
      (s.cfg.terminal ≠ 0 → s.link.out.length < 8 →
        u.posted s.cfg.terminal kindNotice (4 :: body)) ∧
      ((∀ i : Fin 4, s.cfg.watch[i].source ≠ .holdPlaced) → u.watch = s.watch ∧ u.spray = s.spray) ∧
      (r.recipe = none → u.store = s.store) ∧
      ∀ i rc, r.recipe = some i → s.store.records[i] = .retiring rc →
        (∀ p q, p ≠ .exit → s.table.get p = some q → q.recipe ≠ some i) → u.store.records[i] = .free) ∧
  ∀ s r b, s.tracking = true → s.table.exit = some r → (s.inputs.pos.get .exit).level = some (!b) →
    (r.diversion = some .waitingRack ∨
      ∃ k : Fin 8, r.diversion = some (.diverting k) ∧ (b = true ∨ s.inputs.rack[k].level ≠ some true)) →
    exec (edgeCommand .exit b) s = .next (State.settle { s with inputs := { s.inputs with
      pos := s.inputs.pos.put .exit { raw := b, last := some b, level := some b } } })

/-- An edge of a rack sensor: at the target of a diversion it goes to the completion test alone; an empty edge at a position
with an entry removes it, with NOTICE RACK_TAKEN for a HELD one; an occupied edge at a free position makes a STRANDED entry,
with NOTICE RACK_NEAR_FULL at an upward crossing; any other changes the level alone. The order of the bytes of RACK_TAKEN's reasons
is PRESUMED (log 31).
That an edge command sets the pin's raw level too is the model's (DESIGN CHOICE, log 6). -/
def Obligations.RackEdgesTaken : Prop :=
  ∀ s c (k : Fin 8) b, s.tracking = true → s.inputs.rack[k].level = some (!b) →
    c = (if b = true then Instr.rackOccupiedEdge k else Instr.rackEmptyEdge k) →
    let level : State := { s with inputs := { s.inputs with
      rack := s.inputs.rack.set k.val { raw := b, last := some b, level := some b } k.isLt } }
    let listed (l : List HoldEntry) : State := { level with
      holds := { s.holds with list := l, nearFull := decide (s.cfg.nearFull ≤ l.length) } }
    let rest := s.holds.list.filter fun e => e.rack != k
    let more := s.holds.list ++
      [HoldEntry.mk k none none (reasonBit .stranded) s.seconds .held]
    (s.target = some k → b = false ∨ s.sensorEmpty .exit = false → exec c s = .next level.settle) ∧
    (s.target ≠ some k →
      (∀ e before after, b = false → s.holds.list = before ++ e :: after → (∀ x ∈ before, x.rack ≠ k) → e.rack = k →
        (s.cfg.nearFull ≤ rest.length → s.holds.nearFull = true) →
        (e.state ≠ .held → exec c s = .next (listed rest).settle) ∧
        (e.state = .held → exec c s = .next (State.settle ((listed rest).notice 6
          (byteOf k.val :: flagByte [e.serial.isSome, e.variantLot.isSome] ::
            (optWord e.serial ++ be16 ((e.variantLot.map (·.1)).getD 0) ++ be16 ((e.variantLot.map (·.2)).getD 0) ++
              be24 e.reasons ++ be32 e.time)))))) ∧
      ((∀ e ∈ s.holds.list, e.rack ≠ k) → b = true →
        (s.cfg.nearFull ≤ more.length → s.holds.nearFull = true → exec c s = .next (listed more).settle) ∧
        (s.cfg.nearFull ≤ more.length → s.holds.nearFull = false →
          exec c s = .next (State.settle ((listed more).notice 5 [byteOf more.length, byteOf s.cfg.nearFull]))) ∧
        (more.length < s.cfg.nearFull → exec c s = .next (listed more).settle)) ∧
      ((∀ e ∈ s.holds.list, e.rack ≠ k) → b = false → exec c s = .next level.settle) ∧
      ((∃ e ∈ s.holds.list, e.rack = k) → b = true → exec c s = .next level.settle))

/-- RELEASE: one that does not pass R176 is answered MALFORMED; one that names no entry NOT_HELD; a HELD entry takes its
disposition and is answered RELEASED; and one released before is answered ALREADY_RELEASED. Each answer carries the selector. -/
def Obligations.ReleaseAnswered : Prop :=
  ∀ s g rest, s.loaded = true → s.link.inbound = g :: rest → g.kind = kindRelease →
    let p := g.payload
    let popped : State := { s with link := s.link.popInbound }
    let passes := p.length = 6 ∧ (byteAt p 0 = 1 ∨ byteAt p 0 = 2 ∧ (wordAt p 1).toNat ≤ 7) ∧ (byteAt p 5 = 1 ∨ byteAt p 5 = 2)
    let named (e : HoldEntry) := byteAt p 0 = 1 ∧ e.serial = some (wordAt p 1) ∨ byteAt p 0 = 2 ∧ e.rack.val = (wordAt p 1).toNat
    let answer (t : State) (more : List Byte) : State := t.post g.src kindReleaseAnswer (p.take 5 ++ more)
    let found (e : HoldEntry) (st : Byte) : List Byte :=
      (if e.serial.isSome then 3 else 1) :: byteOf e.rack.val :: (optWord e.serial ++ [st])
    (¬ passes → 5 ≤ p.length → exec .release s = .next (answer popped [4, 0, 0, 0, 0, 0, 0, 0])) ∧
    (p.length < 5 → ∃ more : List Byte, p.length + more.length = 5 ∧ exec .release s =
      .next (State.post { popped with free := s.free + more.length } g.src kindReleaseAnswer
        (p ++ more ++ [4, 0, 0, 0, 0, 0, 0, 0]))) ∧
    (passes →
      ((∀ e ∈ s.holds.list, ¬ named e) → exec .release s = .next (answer popped [2, 0, 0, 0, 0, 0, 0, 0])) ∧
      ∀ before e after, s.holds.list = before ++ e :: after → (∀ x ∈ before, ¬ named x) → named e →
        (e.state = .releasedRework → exec .release s = .next (answer popped (3 :: found e 2))) ∧
        (e.state = .releasedScrap → exec .release s = .next (answer popped (3 :: found e 3))) ∧
        (e.state = .held → (∀ x ∈ before ++ after, x.rack ≠ e.rack) →
          (byteAt p 5 = 1 → exec .release s = .next (answer { popped with holds := { s.holds with
            list := before ++ { e with state := .releasedRework } :: after } } (1 :: found e 2))) ∧
          (byteAt p 5 = 2 → exec .release s = .next (answer { popped with holds := { s.holds with
            list := before ++ { e with state := .releasedScrap } :: after } } (1 :: found e 3)))))

/-- A board record matches a lot filter when variant and lot agree with their bases wherever the masks hold 0; a mask of FFFFh
matches every value and one of 0000h the base alone; and applying the stored filters adds LOT_HOLD, once, exactly where one of
them matches. -/
def Obligations.LotFilterMatches : Prop :=
  (∀ (f : LotFilter) (variant lot : Half), f.hits variant lot = true ↔
    (∀ i, i < 16 → f.variantMask.getLsbD i = false → variant.getLsbD i = f.variantBase.getLsbD i) ∧
    (∀ i, i < 16 → f.lotMask.getLsbD i = false → lot.getLsbD i = f.lotBase.getLsbD i)) ∧
    (∀ (f : LotFilter) (variant lot : Half),
      (f.variantMask = 0xFFFF → ∀ w, f.hits variant lot = f.hits w lot) ∧
      (f.variantMask = 0 → f.hits variant lot = true → variant = f.variantBase) ∧
      (f.lotMask = 0xFFFF → ∀ w, f.hits variant lot = f.hits variant w) ∧
      (f.lotMask = 0 → f.hits variant lot = true → lot = f.lotBase)) ∧
    ∀ (s : State) (r : Record), ((∃ (k : Fin 8) (f : LotFilter), s.holds.filters[k] = some f ∧ f.hits r.trav.variant r.trav.lot = true) →
        s.applyFilters r = r.addReason .lotHold) ∧
      ((∀ (k : Fin 8) (f : LotFilter), s.holds.filters[k] = some f → f.hits r.trav.variant r.trav.lot = false) →
        s.applyFilters r = r)

/-- LOT_HOLD stores its filter in the slot of its id, or the lowest empty slot, and applies it to the table: a record that
matches gains LOT_HOLD, one that waits for supply is SKIPPED with its schedule discarded, and one OFFERED waits for the rack
with its OFFER withdrawn; with every slot in use NOTICE FILTER_FULL is posted. LOT_LIFT empties slots and takes no reason away. -/
def Obligations.LotFiltersStoredAndApplied : Prop :=
  (∀ s g rest, s.loaded = true → s.link.inbound = g :: rest → g.kind = kindLotHold →
    let p := g.payload
    let popped : State := { s with link := s.link.popInbound }
    let f : LotFilter := { id := byteAt p 0, variantBase := halfAt p 1, variantMask := halfAt p 3, lotBase := halfAt p 5, lotMask := halfAt p 7 }
    let holds (k : Fin 8) := ∃ h, s.holds.filters[k] = some h ∧ h.id = f.id
    (p.length ≠ 9 ∨ byteAt p 0 = 0 → exec .lotHold s = .next popped.starts) ∧
    (p.length = 9 → byteAt p 0 ≠ 0 → (∀ k : Fin 8, s.holds.filters[k] ≠ none ∧ ¬ holds k) →
      exec .lotHold s = .next (State.starts (popped.notice 11 [byteAt p 0]))) ∧
    ∀ k : Fin 8, p.length = 9 → byteAt p 0 ≠ 0 →
      (holds k ∧ (∀ j : Fin 8, j < k → ¬ holds j) ∨
        (∀ j, ¬ holds j) ∧ s.holds.filters[k] = none ∧ ∀ j : Fin 8, j < k → s.holds.filters[j] ≠ none) →
      ∃ u, exec .lotHold s = .next (State.starts u) ∧ u.holds = { s.holds with filters := s.holds.filters.set k.val (some f) k.isLt } ∧
        u.tracker = s.tracker ∧ u.tunnel = s.tunnel ∧ u.store = s.store ∧ u.watch = s.watch ∧ u.inputs = s.inputs ∧
        (∀ q, s.table.get q = none → u.table.get q = none) ∧
        (∀ q r, s.table.get q = some r → f.hits r.trav.variant r.trav.lot = false → u.table.get q = some r) ∧
        (∀ q r, s.table.get q = some r → f.hits r.trav.variant r.trav.lot = true →
          let offered := q = .exit ∧ ∃ n w, r.handoff = some (.offered n w)
          ∃ m, u.table.get q = some m ∧ m.trav = (r.addReason .lotHold).trav ∧ m.recipe = r.recipe ∧ m.dose = r.dose ∧
            m.elapsed = r.elapsed ∧ m.verdicts = r.verdicts ∧ m.film = r.film ∧
            m.spray = (if q = .spray ∧ r.spray = .waitingSupply then .skipped else r.spray) ∧
            (offered → m.handoff = none ∧ m.diversion = some .waitingRack ∧
              ∀ e ∈ u.link.waitingOut ++ u.link.held, e.tg.kind ≠ kindOffer) ∧
            (¬ offered → m.handoff = r.handoff ∧ m.diversion = r.diversion)) ∧
        (∀ r, s.table.spray = some r → f.hits r.trav.variant r.trav.lot = true → r.spray = .waitingSupply →
          u.spray = { s.spray with schedule := none } ∧
          (s.supply.holder = some .board → s.supply.own = .waiting ∨ s.supply.own = .granted →
            u.supply = { s.supply with own := .ending }))) ∧
    ∀ s g rest, s.loaded = true → s.link.inbound = g :: rest → g.kind = kindLotLift →
      let popped : State := { s with link := s.link.popInbound }
      (g.payload.length ≠ 1 → exec .lotLift s = .next popped) ∧
      (g.payload.length = 1 → ∃ u, exec .lotLift s = .next u ∧
        u = { popped with holds := { s.holds with filters := u.holds.filters } } ∧
        ∀ k : Fin 8, (byteAt g.payload 0 = 0 → u.holds.filters[k] = none) ∧
          (∀ h, s.holds.filters[k] = some h → h.id = byteAt g.payload 0 → u.holds.filters[k] = none) ∧
          (byteAt g.payload 0 ≠ 0 → (∀ h, s.holds.filters[k] = some h → h.id ≠ byteAt g.payload 0) →
            u.holds.filters[k] = s.holds.filters[k]))

/-! ## The watch counters (chapter 10) -/

/-- An event of a source reaches each counter of that source, and no other: its qualification, its edge mark, its count, its
overflow and arming; a NOTICE counter that begins its action posts NOTICE WATCH and is reloaded, and a PURGE counter sets the purge mark.
The notices of one event are posted in counter order, each with its counter, source, reset value, time and flags; that the flags of
higher counters which the same event overflows do not show yet is the model's (DESIGN CHOICE, log 50). WATCH_CLEAR clears, disarms and reloads the counters it names, and leaves their edge marks. -/
def Obligations.EventsCountedAndCleared : Prop :=
  (∀ (s : State) src (margin : Int),
    let isMargin := src = .filmMargin ∨ src = .cureMargin
    let passes (i : Fin 4) : Prop := isMargin → (s.cfg.watch[i].compare = .atLeast → s.cfg.watch[i].threshold ≤ margin) ∧
      (s.cfg.watch[i].compare = .below → margin < s.cfg.watch[i].threshold)
    let counted (i : Fin 4) : Prop := passes i ∧ ¬ (s.cfg.watch[i].mode = .edge ∧ isMargin ∧ s.watch[i].edgeMark = true)
    let code : Byte := match src with
      | .off => 0 | .cleanExit => 1 | .clipped => 2 | .filmMargin => 3 | .cureMargin => 4 | .jetDots => 5 | .holdPlaced => 6
    ∃ t, s.report src margin = t ∧
    t = { s with
      watch := t.watch
      link := t.link
      spray := { s.spray with purgeMark := t.spray.purgeMark, purge := t.spray.purge } } ∧
    (∀ i : Fin 4,
      let c := s.cfg.watch[i]
      let w := s.watch[i]
      (c.source ≠ src → t.watch[i] = w) ∧
      (c.source = src → ∃ mark : Bool, (mark = true ↔ passes i) ∧
        (¬ counted i → t.watch[i] = { w with edgeMark := mark }) ∧
        (counted i → w.count ≠ 0xFFFF → t.watch[i] = { w with edgeMark := mark, count := w.count + 1 }) ∧
        (counted i → w.count = 0xFFFF → w.armed = true ∨ c.action ≠ .notice →
          t.watch[i] = { count := 0, flag := true, armed := true, edgeMark := mark }) ∧
        (counted i → w.count = 0xFFFF → w.armed = false → c.action = .notice →
          t.watch[i] = { count := c.reload, flag := true, armed := false, edgeMark := mark }) ∧
        (counted i → w.count = 0xFFFF → w.armed = false → c.action = .purge → t.spray.purgeMark = true ∧ t.spray.purge ≠ .none))) ∧
    (∃ (ns : List (Fin 4)) (flags : Fin 4 → Byte), ns.Pairwise (· < ·) ∧
      (∀ i, i ∈ ns ↔ s.cfg.watch[i].source = src ∧ s.cfg.watch[i].action = .notice ∧ s.watch[i].armed = false ∧
        s.watch[i].count = 0xFFFF ∧ counted i) ∧
      (∀ i : Fin 4, (flags i).toNat < 16 ∧
        ∀ j : Fin 4, (flags i).getLsbD j.val = if j ≤ i then t.watch[j].flag else s.watch[j].flag) ∧
      t.link = ns.foldl (fun l i => if s.cfg.terminal = 0 then l else l.post { postings := 1, tg :=
        { dst := s.cfg.terminal, src := s.cfg.station, kind := kindNotice, payload := 7 :: byteOf i.val :: code ::
          (be16 s.cfg.watch[i].reload ++ flags i :: be32 s.seconds) } }) s.link) ∧
    ((∀ i : Fin 4, s.cfg.watch[i].source = src → s.cfg.watch[i].action ≠ .purge) → t.spray = s.spray) ∧
    ((∀ i : Fin 4, s.cfg.watch[i].source = src → s.cfg.watch[i].action ≠ .notice) → t.link = s.link)) ∧
    ∀ s g rest, s.loaded = true → s.link.inbound = g :: rest → g.kind = kindWatchClear →
      let popped : State := { s with link := s.link.popInbound }
      (g.payload.length ≠ 1 ∨ 16 ≤ (byteAt g.payload 0).toNat → exec .watchClear s = .next popped) ∧
      (g.payload.length = 1 → (byteAt g.payload 0).toNat < 16 → ∃ u, exec .watchClear s = .next u ∧
        u = { popped with watch := u.watch } ∧
        ∀ i : Fin 4, u.watch[i] = if (byteAt g.payload 0).getLsbD i.val then
          { count := s.cfg.watch[i].reload, flag := false, armed := false, edgeMark := s.watch[i].edgeMark } else s.watch[i])

/-! ## The cell link (chapter 11) -/

/-- A posted telegram takes its place behind those of its class and lower; into a full queue class 2 is lost, and another
displaces the youngest class-2 telegram outside its send, or is held. The head in its send stays. HELD_TELEGRAM_ENTERED gives a
free place to the held telegram of lowest class, held longest; that an OFFER held before STOPPED waits through it is DEDUCED (log 14). A
full queue takes it in the same way where a place was freed in STOPPED for an OFFER and a class-2 telegram has filled it, which it
displaces; else what is held stays held (DEDUCED, log 52). The place freed at the end of a send, and by a withdrawal of a telegram of the
queue, goes to the held telegram in the same way, and is owed to an OFFER that STOPPED keeps from it; a withdrawal takes out the telegrams
it names, queued or held, but for the one in its send, for which it is kept. -/
def Obligations.PostedAndHeldTelegrams : Prop :=
  ((∀ (l : Link) (e : OutEntry), (l.out ≠ [] → (l.post e).inSend = l.inSend) ∧ (l.post e).line = l.line ∧
    (l.out.length < 8 → ∃ before after, l.waitingOut = before ++ after ∧ (∀ x ∈ before, x.cls ≤ e.cls) ∧
      (∀ x, after.head? = some x → e.cls < x.cls) ∧ l.post e = l.withWaitingOut (before ++ e :: after)) ∧
    (8 ≤ l.out.length → e.cls = 2 → l.post e = { l with noticeLost := true }) ∧
    (∀ before y after, 8 ≤ l.out.length → e.cls ≠ 2 → l.waitingOut = before ++ y :: after → y.cls = 2 → (∀ x ∈ after, x.cls ≠ 2) →
      l.post e = { (l.withWaitingOut (before ++ after)).enter e with noticeLost := true }) ∧
    (8 ≤ l.out.length → e.cls ≠ 2 → (∀ x ∈ l.waitingOut, x.cls ≠ 2) → l.post e = { l with held := l.held ++ [e] })) ∧
    ∀ s : State, s.loaded = true →
      let may (x : OutEntry) := ¬ (s.cell = .stopped ∧ x.tg.kind = kindOffer)
      let kept : Link := { s.link with owed := s.link.owed && s.isStopped }
      let takes := s.link.out.length < 8 ∨ s.link.owed = true ∧ s.cell ≠ .stopped ∧ ∃ x ∈ s.link.waitingOut, x.cls = 2
      (∀ before e after, s.link.held = before ++ e :: after → may e →
        (∀ x ∈ before, may x → e.cls < x.cls) → (∀ x ∈ after, may x → e.cls ≤ x.cls) →
        (takes → exec .heldTelegramEntered s = .next { s with link := Link.post { kept with held := before ++ after } e }) ∧
        (¬ takes → exec .heldTelegramEntered s = .next { s with link := kept })) ∧
      ((∀ x ∈ s.link.held, ¬ may x) → exec .heldTelegramEntered s = .next s)) ∧
  ∀ (l : Link) (stopped : Bool), l.out.length ≤ 8 →
    let may (x : OutEntry) := ¬ (stopped = true ∧ x.tg.kind = kindOffer)
    let offered (base t : Link) : Prop :=
      ((∀ x ∈ base.held, ¬ may x) → t = { base with owed := base.owed || !base.held.isEmpty }) ∧
      ∀ before e after, base.held = before ++ e :: after → may e → (∀ x ∈ before, may x → e.cls < x.cls) →
        (∀ x ∈ after, may x → e.cls ≤ x.cls) → t = Link.post { base with held := before ++ after } e
    (∀ e rest, l.out = e :: rest →
      offered { l with line := .busy, penalty := true, withdrawAsked := false, out := rest } (l.sent stopped)) ∧
    ∀ mine : OutEntry → Bool,
      let inSend := if l.line = .sending then l.out.take 1 else []
      let waits := if l.line = .sending then l.out.drop 1 else l.out
      let base : Link := { l with
        out := inSend ++ waits.filter fun x => !mine x
        held := l.held.filter fun x => !mine x
        owed := l.owed && (l.held.filter fun x => !mine x).any fun x => x.tg.kind == kindOffer
        withdrawAsked := l.withdrawAsked || inSend.any mine }
      ((∀ x ∈ waits, mine x = false) → l.withdraw stopped mine = base) ∧
      ((∃ x ∈ waits, mine x = true) → offered base (l.withdraw stopped mine))

/-- The line: idle opens the access count; a start bit heard stops it; the head of the queue is sent at its access position
(log 27) as its bytes with delimiter, length and CRC; a clash leaves the telegram in its place, behind any more urgent class (DEDUCED,
log 13), or withdraws it, and counts to 255. The place that a withdrawn or sent telegram frees goes to the held telegram of lowest class,
held longest; that an OFFER held before STOPPED waits through it, and the place stays its own, is DEDUCED from R30 and R214 (logs 14, 52).
Bytes that arrive are put behind those before; bytes that make
no whole telegram, with a wrong delimiter or too long, are abandoned. At the last CRC byte the acceptance slot begins (log 51): of a good telegram it is driven where the telegram is for this station and the
inbound queue has no room, of a faulty one where its fields as received are for this station. At its end the penalty is lifted and the
line waits for idle; a good telegram not refused goes to the supply view (class 0) or into the inbound queue, where one that no
block owns is discarded at the head (log 40), also behind a head that is taken; one not for this station, or with a bad source or kind, is not taken. -/
def Obligations.LineEventsAndTelegrams : Prop :=
  (
  ∀ s : State, s.loaded = true →
    let may (x : OutEntry) := ¬ (s.cell = .stopped ∧ x.tg.kind = kindOffer)
    let offered (base t : Link) : Prop :=
      ((∀ x ∈ base.held, ¬ may x) → t = { base with owed := base.owed || !base.held.isEmpty }) ∧
      ∀ before e after, base.held = before ++ e :: after → may e → (∀ x ∈ before, may x → e.cls < x.cls) →
        (∀ x ∈ after, may x → e.cls ≤ x.cls) → t = Link.post { base with held := before ++ after } e
    (s.link.line = .busy ∨ (∃ b f, s.link.line = .receiving b f) → exec .linkIdle s =
      .next { s with link := { s.link with line := .idle, access := some 0 } }) ∧
    (∀ good d, s.link.line = .slot good d → exec .linkIdle s = .next s ∧ s.slotPin = d) ∧
    (s.link.line = .idle → exec .startBitHeard s = .next { s with link := { s.link with line := .receiving [] false, access := none } }) ∧
    (s.link.line ≠ .idle → exec .startBitHeard s = .next s ∧ ∀ slot, exec (.sendStart slot) s = .next s) ∧
    (∀ e rest n slot, s.link.line = .idle → s.link.access = some n → s.link.out = e :: rest →
      let position := e.cls * 32 + s.cfg.station.toNat + if s.link.penalty then 32 else 0
      (position ≤ max n slot → ∃ t, exec (.sendStart slot) s = .next t ∧
        t = { s with
          link := { s.link with line := .sending, access := none, withdrawAsked := false }
          supply := { s.supply with
            own := if e.tg.kind = kindSupplyClaim ∧ s.supply.own = .queued then .sending else s.supply.own } } ∧
        t.sentBytes = some (telegramBytes e.tg)) ∧
      (max n slot < position → exec (.sendStart slot) s =
        .next { s with link := { s.link with access := some (min (max n slot) 127) } })) ∧
    (s.link.line ≠ .sending → exec .clash s = .next s) ∧
    (∀ e rest, s.link.line = .sending → s.link.out = e :: rest →
      let after : Supply := if e.tg.kind = kindSupplyClaim then
          match s.supply.own with
          | .sending => { s.supply with own := .queued }
          | .ending => { s.supply with own := .none, holder := none, reClaim := none }
          | _ => s.supply
        else s.supply
      let clashed (q : List OutEntry) : Link := { s.link with
        line := .receiving [] false, withdrawAsked := false, out := q, clashes := min (s.link.clashes + 1) 255 }
      (s.link.withdrawAsked = false → ∃ before behind, rest = before ++ behind ∧ (∀ x ∈ before, x.cls < e.cls) ∧
        (∀ x, behind.head? = some x → e.cls ≤ x.cls) ∧
        exec .clash s = .next { s with link := clashed (before ++ e :: behind), supply := after }) ∧
      (s.link.withdrawAsked = true → rest.length < 8 ∨ s.link.held = [] → ∃ t, offered (clashed rest) t ∧
        exec .clash s = .next (State.starts { s with link := t, supply := after }))) ∧
    ∀ e rest refused, s.link.line = .sending → s.link.out = e :: rest →
      e.tg.kind ≠ kindOffer → e.tg.kind ≠ kindReceived → e.tg.kind ≠ kindSupplyClaim → e.tg.kind ≠ kindSupplyDone →
      rest.length < 8 ∨ s.link.held = [] → ∃ t, offered { s.link with
        line := .busy, penalty := true, withdrawAsked := false, out := rest } t ∧ exec (.sendEnd refused) s = .next { s with link := t }) ∧
  (∀ (l : Link) g rest, l.inbound = g :: rest → l.popInbound = { l with
    inbound := rest.dropWhile fun x => x.kind = 0x84 ∨ x.kind = 0x86 ∨ x.kind = 0x89 ∨ x.kind = 0x8A }) ∧
  (∀ (heard : List Byte) (b : Byte), crc16 [] = 0xFFFF ∧ crc16 (heard ++ [b]) =
    (List.range 8).foldl (fun r _ => if r.msb then (r <<< 1) ^^^ 0x1021#16 else r <<< 1) (crc16 heard ^^^ (b ++ 0#8 : BitVec 16))) ∧
  (
  ∀ (s : State) (g : Telegram), s.loaded = true → g.payload.length ≤ 64 →
    let body := g.dst :: g.src :: g.kind :: byteOf g.payload.length :: g.payload
    let here := (g.dst = s.cfg.station ∨ g.dst = 0) ∧ g.src ≠ 0 ∧ g.src ≠ s.cfg.station ∧ g.src.toNat ≤ 31 ∧ g.kind ∈ kindTable
    let slot (good : Option Telegram) (driven : Bool) : State := { s with link := { s.link with line := .slot good driven } }
    let ended : State := { s with link := { s.link with line := .busy, penalty := false } }
    telegramBytes g = 0x5A :: (body ++ be16 (crc16 body)) ∧
    (∀ heard fault bytes stopFault c, s.link.line = .receiving heard fault →
      c = .telegramTaken (.arrive bytes stopFault) ∨ c = .faultyTelegram (.arrive bytes stopFault) →
      exec c s = .next { s with link := { s.link with line := .receiving (heard ++ bytes) (fault || stopFault) } }) ∧
    (s.link.line = .receiving (0x5A :: (body ++ be16 (crc16 body))) false → exec (.telegramTaken .slotBegins) s =
      .next (slot (some g) (decide (here ∧ 64 ≤ g.kind.toNat ∧ 8 ≤ s.link.inbound.length)))) ∧
    (∀ (crc : Half) stopFault, s.link.line = .receiving (0x5A :: (body ++ be16 crc)) stopFault →
      stopFault = true ∨ crc ≠ crc16 body → exec (.faultyTelegram .slotBegins) s = .next (slot none (decide here))) ∧
    (∀ (bytes : List Byte) stopFault, s.link.line = .receiving bytes stopFault →
      bytes.length < 7 ∨ byteAt bytes 0 ≠ 0x5A ∨ 64 < (byteAt bytes 4).toNat ∨ bytes.length < (byteAt bytes 4).toNat + 7 →
      exec .telegramAbandoned s = .next { s with link := { s.link with line := .busy } }) ∧
    (s.link.line = .slot none true ∨ s.link.line = .slot none false → exec (.faultyTelegram .slotEnds) s = .next ended) ∧
    (s.link.line = .slot (some g) true → exec (.telegramTaken .slotEnds) s = .next ended) ∧
    (s.link.line = .slot (some g) false →
      (¬ here → exec (.telegramTaken .slotEnds) s = .next ended) ∧
      (here → g.kind = kindSupplyClaim → exec (.telegramTaken .slotEnds) s = exec (.supplyClaim g.src g.payload) ended) ∧
      (here → g.kind = kindSupplyDone → exec (.telegramTaken .slotEnds) s = exec (.supplyDone g.src g.payload) ended) ∧
      (here → g.kind ≠ kindSupplyClaim → g.kind ≠ kindSupplyDone →
        (∀ x, s.link.inbound.head? = some x → ownerless x.kind = false) →
        exec (.telegramTaken .slotEnds) s = .next { ended with link := { ended.link with
          inbound := if s.link.inbound = [] ∧ ownerless g.kind = true then [] else s.link.inbound ++ [g] } })))

/-- STATUS_QUERY: page 0 is answered with 48 bytes that report the cell, and clears the flags where it enters the queue; page 1
with 47 bytes that report the recipe store; another page, or a payload of another length, is discarded. The own serial is that of the
cell's own entry in the supply view: present where that entry holds one, and 0 where it is absent. That the assembler's slot and next
fragment number are 0 in IDLE is the model's (DESIGN CHOICE, log 59). -/
def Obligations.StatusAnswered : Prop :=
  ∀ s g rest, s.loaded = true → s.link.inbound = g :: rest → g.kind = kindStatusQuery →
    let popped : State := { s with link := s.link.popInbound }
    (g.payload.length ≠ 1 ∨ 2 ≤ (byteAt g.payload 0).toNat → exec .statusQuery s = .next popped) ∧
    (g.payload = [0] → ∃ body : List Byte, body.length = 48 ∧
      (8 ≤ s.link.out.length → exec .statusQuery s = .next (popped.post g.src kindStatus body)) ∧
      (s.link.out.length < 8 → exec .statusQuery s = .next { popped with
        link := { (popped.post g.src kindStatus body).link with noticeLost := false, assemblyBroken := false, clashes := 0 } }) ∧
      byteAt body 0 = 0 ∧
      byteAt body 1 = (match s.cell with | .configFault => 0 | .start => 1 | .clearOut => 2 | .run => 3 | .stopped => 4) ∧
      (byteAt body 2).getLsbD 0 = s.link.noticeLost ∧ (byteAt body 2).getLsbD 1 = s.link.assemblyBroken ∧
      (byteAt body 2).getLsbD 2 = s.link.barShort ∧ byteAt body 3 = byteOf s.link.clashes ∧
      byteAt body 4 = byteOf (positions.filter fun p => (s.table.get p).isSome).length ∧
      (∀ p, (halfAt body 5).getLsbD (positionBit p) = (s.table.get p).isSome) ∧
      byteAt body 7 = byteOf s.holds.list.length ∧ 
      byteAt body 8 = (if s.tunnel.fault = true then 2
        else if (s.cell = .clearOut ∨ s.cell = .run) ∧ s.tracker.hold = false then 1 else 0) ∧
      byteAt body 9 = (match s.tunnel.phase with | .dwell => 0 | .indexPending => 1 | .indexing => 2) ∧
      (s.tunnel.phase = .dwell → halfAt body 10 = BitVec.ofNat 16 s.tunnel.dwell) ∧
      (s.tunnel.phase ≠ .dwell → halfAt body 10 = 0) ∧ halfAt body 12 = BitVec.ofNat 16 s.tunnel.extensionUsed ∧
      byteAt body 14 = byteOf (slotPositions.filter fun p => (s.table.get p).isSome).length ∧
      (∀ z, let code := if s.cfg.zoneCount ≤ zoneIndex z then 3 else
            match s.tunnel.zones.get z with
            | { value := none, miss := _ } => 0
            | { value := some _, miss := n } => if n = 0 then 2 else 1
        (byteAt body 15).toNat / 4 ^ zoneIndex z % 4 = code ∧
        (code = 0 ∨ code = 3 → halfAt body (16 + 2 * zoneIndex z) = 0x8000) ∧
        ∀ v, zoneIndex z < s.cfg.zoneCount → (s.tunnel.zones.get z).value = some v →
          halfAt body (16 + 2 * zoneIndex z) = BitVec.ofInt 16 v) ∧
      byteAt body 22 = byteOf s.supply.view.length ∧ byteAt body 23 = (match s.supply.own with
        | .none => 0 | .queued => 1 | .sending => 2 | .waiting => 3 | .granted => 4 | .refusedWait => 5 | .ending => 6) ∧
      (s.entriesAhead = none → byteAt body 24 = 0xFF) ∧ (∀ n, s.entriesAhead = some n → byteAt body 24 = byteOf n) ∧
      (byteAt body 25).getLsbD 1 = (s.supply.holder == some .purge) ∧ (byteAt body 25).getLsbD 2 = s.supply.learning.isSome ∧
      ((∀ e ∈ s.supply.view, e.station ≠ s.cfg.station) → (byteAt body 25).getLsbD 0 = false ∧ wordAt body 26 = 0) ∧
      (∀ before e behind, s.supply.view = before ++ e :: behind → e.station = s.cfg.station →
        (∀ x ∈ before, x.station ≠ s.cfg.station) →
        (byteAt body 25).getLsbD 0 = e.serial.isSome ∧ wordAt body 26 = e.serial.getD 0) ∧
      (∀ i : Fin 4, halfAt body (30 + 2 * i.val) = s.watch[i].count ∧ (byteAt body 38).getLsbD i.val = s.watch[i].flag ∧
        (byteAt body 38).getLsbD (4 + i.val) = s.watch[i].armed) ∧
      ∀ k : Fin 8, (byteAt body 39).getLsbD k.val = s.holds.filters[k].isSome ∧
        byteAt body (40 + k.val) = ((s.holds.filters[k].map (·.id)).getD 0)) ∧
    (g.payload = [1] → ∃ body : List Byte, body.length = 47 ∧ exec .statusQuery s = .next (popped.post g.src kindStatus body) ∧
      byteAt body 0 = 1 ∧
      (∀ k : Fin 8, (byteAt body 1).getLsbD k.val = s.store.slots[k].active.isSome ∧
        (byteAt body 2).getLsbD k.val = s.store.slots[k].staged.isSome ∧
        (∀ i rc, s.store.slots[k].active = some i → s.store.records[i] = .active rc →
          halfAt body (3 + 2 * k.val) = rc.crc ∧ byteAt body (19 + k.val) = byteOf (s.refCount i)) ∧
        ∀ i rc, s.store.slots[k].staged = some i → s.store.records[i] = .staged rc → halfAt body (27 + 2 * k.val) = rc.crc) ∧
      byteAt body 43 = byteOf (s.store.records.toList.filter RecipeCell.isRetiring).length ∧
      byteAt body 44 = byteOf (s.store.records.toList.filter RecipeCell.isFree).length ∧
      (s.store.assembler = .idle → halfAt body 45 = 0) ∧
      ∀ k n data, s.store.assembler = .assembling k n data → byteAt body 45 = 0x80 ||| byteOf k.val ∧ byteAt body 46 = byteOf n)

/-! ## The guard (chapters 1, 5, 7 and 11) -/

/-- The guard opening, or a first level of open: the drive hold is in force and no settle time runs, a RUN cell is STOPPED, a
pass under way is aborted, with its film judged over the intervals closed normally and one FILM_MARGIN event where there are any, the
claim of the board at SPRAY or of a purge is ended as its own state says (R125), a purge goes back to REQUESTED, and an index loses its drive
and timeout; no record is made or removed. The guard closing begins the settle time of 2 s while the hold is in force; that it begins
none with no hold in force is the model's reading, since R222 says without condition that the closing edge begins it (DEDUCED, log
39). At the end of the settle time the hold is lifted, a STOPPED cell returns to RUN, an interrupted index goes on with a fresh timeout, an OFFER that was
held enters a free place, or one that was freed for it and that a class-2 telegram has filled, which it displaces (DEDUCED, logs 14, 52), an
OFFER that fell due is posted, and what can start starts; that the OFFER goes before the SUPPLY_CLAIMs of what starts is the model's (DESIGN CHOICE, log
65). A first level of closed puts no hold in force. That a
first level of open turns a RUN cell STOPPED, as an opening does, is the model's (DESIGN CHOICE, log 64).
That an edge command sets the pin's raw level too is the model's (DESIGN CHOICE, log 6). -/
def Obligations.GuardTakesAndEndsHold : Prop :=
  (
  ∀ (s : State) c, s.loaded = true → (c = .guardOpening ∨ c = .guardFirstLevel true ∧ s.inputs.guard.level = none) →
    ∃ t, exec c s = .next t ∧ t.cell = (if s.cell = .run then .stopped else s.cell) ∧
      t.tracker = { s.tracker with hold := true, settle := none } ∧
      t.inputs = { s.inputs with guard := { raw := true, last := some true, level := some true } } ∧
      t.tunnel = (if s.tunnel.phase = .indexing then { s.tunnel with drive := false, timeout := none } else s.tunnel) ∧
      t.holds = s.holds ∧ t.store = s.store ∧ t.mask = s.mask ∧ t.fixed = s.fixed ∧
      (s.sprayIs .spraying = false → t.table = s.table ∧ t.watch = s.watch) ∧
      (∀ r, s.table.spray = some r → r.spray = .spraying → ∃ m, t.table = { s.table with spray := some m } ∧
        m = { r with spray := .aborted, sprayEnd := some s.seconds, elapsed := 0, film := m.film,
                     trav := { r.trav with reasons := m.trav.reasons } } ∧
        t.spray.schedule = none ∧ t.spray.abort = none ∧
        let reasons := addReason r.trav.reasons .sprayAborted
        let films := filmsOf s.cfg.swath (s.spray.schedule.getD [])
        (films = [] → m.film = r.film ∧ m.trav.reasons = reasons ∧ t.watch = s.watch) ∧
        ∀ rc lo hi, r.bound s.store = some rc → extremes films = some (lo, hi) →
          let margin : Int := max (-1023) (min 1023 ((lo : Int) - rc.hMin))
          let thin := if lo < rc.hMin then addReason reasons .filmThin else reasons
          m.film = some { min := lo, max := hi, margin := margin } ∧
            m.trav.reasons = (if rc.hMax < hi then addReason thin .filmThick else thin) ∧
            t.watch = (s.report .filmMargin margin).watch) ∧
      (s.spray.purge = .claiming ∨ s.spray.purge = .purging → t.spray.purge = .requested ∧ t.spray.purgeTimer = none) ∧
      ((s.sprayIs .spraying = true ∨ s.sprayIs .waitingSupply = true) ∧ s.supply.holder = some .board ∧
          s.spray.purge ≠ .claiming ∧ s.spray.purge ≠ .purging ∨
        s.sprayIs .spraying = false ∧ s.supply.holder = some .purge ∧ (s.spray.purge = .claiming ∨ s.spray.purge = .purging) →
        (s.supply.own = .waiting ∨ s.supply.own = .granted → t.supply = { s.supply with own := .ending } ∧
          t.posted 0 kindSupplyDone
            (s.cfg.group :: (if s.supply.claimSerial.isSome then 1 else 0) :: optWord s.supply.claimSerial)) ∧
        (s.supply.own = .queued → t.supply = { s.supply with own := .none, holder := none, reClaim := none } ∧
          ∀ e ∈ t.link.waitingOut ++ t.link.held, e.tg.kind ≠ kindSupplyClaim) ∧
        (s.supply.own = .sending → t.supply = { s.supply with own := .ending } ∧
          (∀ e, s.link.inSend = some e → e.tg.kind = kindSupplyClaim → t.link.withdrawAsked = true)) ∧
        (s.supply.own = .refusedWait → t.supply =
          if s.supply.doneRead then { s.supply with own := .none, holder := none, reClaim := none }
          else { s.supply with own := .ending, reClaim := none }) ∧
        (s.supply.own = .ending ∨ s.supply.own = .none → t.supply = s.supply))) ∧
  (
  ∀ s : State, s.loaded = true →
    let closed : State := { s with inputs := { s.inputs with guard := { raw := false, last := some false, level := some false } } }
    (s.tracker.hold = true → exec .guardClosing s = .next { closed with tracker := { s.tracker with settle := some 2000 } }) ∧
    (s.tracker.hold = false → exec .guardClosing s = .next closed) ∧
    (s.inputs.guard.level = none → exec (.guardFirstLevel false) s = .next closed) ∧
    (∀ b, s.inputs.guard.level ≠ none → exec (.guardFirstLevel b) s = .next s) ∧
    (s.tracker.hold = false ∨ s.tracker.settle = none → exec .settleTimeExpiry s = .next s) ∧
    ∀ k, s.tracker.hold = true → s.tracker.settle = some k → ∃ u, exec .settleTimeExpiry s = .next (State.starts u) ∧
      u = { s with
        cell := if s.cell = .stopped then .run else s.cell
        tracker := { s.tracker with hold := false, settle := none }
        tunnel := if s.tunnel.phase = .indexing ∧ s.tunnel.fault = false then
          { s.tunnel with drive := true, timeout := some 10000 } else s.tunnel
        table := u.table
        link := u.link } ∧
      (∀ r n, s.table.exit = some r → r.handoff = some (.offered n .due) →
        u.table = { s.table with exit := some { r with handoff := some (.offered n .posting) } } ∧
        u.posted s.cfg.downstream kindOffer (offerPayload n r.trav)) ∧
      ((∀ r n, s.table.exit = some r → r.handoff ≠ some (.offered n .due)) → u.table = s.table ∧
        (s.link.held = [] → u.link = s.link) ∧
        ∀ before e after, s.link.held = before ++ e :: after → (∀ x ∈ before, e.cls < x.cls) → (∀ x ∈ after, e.cls ≤ x.cls) →
          let takes := s.link.out.length < 8 ∨ s.link.owed = true ∧ ∃ x ∈ s.link.waitingOut, x.cls = 2
          (takes → u.link = Link.post { s.link with held := before ++ after, owed := false } e) ∧
          (¬ takes → u.link = { s.link with owed := false })))

/-! ## Invariants that every step keeps -/

/-- The law of R5: no step from a state in which no serial is recorded twice records one twice. -/
def Obligations.NoSerialRecordedTwice : Prop := ∀ s t : State, s.serialLaw → step s = .next t → t.serialLaw

/-- The queues keep their room of 8 and the order by class of R213, and the CLASH count stays at most 255. -/
def Obligations.QueuesKeepRoomAndOrder : Prop := ∀ s t : State, s.queueLaw → step s = .next t → t.queueLaw

/-- The supply view keeps one entry a station, a granted claim keeps fewer than L entries ahead, and a pass or a purge goes on
under its own granted claim or a pending abort alone (R116, R122, R123). -/
def Obligations.SprayingUnderGrantedClaim : Prop :=
  ∀ s t : State, s.supplyLaw → s.sprayLaw → step s = .next t → t.supplyLaw ∧ t.sprayLaw

/-- Handoff and diversion states stay with the record at EXIT, an OFFERED record stays clean, and each entry of the hold list
has a rack position of its own that no diversion is for (R29, R165, R168). -/
def Obligations.ExitAndRackLaws : Prop := ∀ s t : State, s.exitLaw → step s = .next t → t.exitLaw

/-- Slots name records of their state, no two slots one record, and every board's recipe stays ACTIVE or RETIRING (R48, R49,
R62). -/
def Obligations.RecipeReferencesStand : Prop := ∀ s t : State, s.storeLaw → step s = .next t → t.storeLaw
end

