-- ==== Sys2Proof/Laws/State.lean ====
section
/-! SUPPORT. The lemmas of the plain updates: what a place reads after a put, what a posting leaves, and what the two wrappers of the
commands do. -/

namespace Sys2Proof.Machine

/-! ## Places -/

/-- A place put reads the value put. -/
@[simp] theorem PerPos.get_put_self {α : Type} (t : PerPos α) (p : Position) (x : α) : (t.put p x).get p = x := by
  cases p <;> rfl

/-- A put leaves every other place. -/
theorem PerPos.get_put_of_ne {α : Type} (t : PerPos α) {p q : Position} (h : q ≠ p) (x : α) : (t.put p x).get q = t.get q := by
  cases p <;> cases q <;> first | rfl | exact absurd rfl h

/-- A place after a put. -/
theorem PerPos.get_put {α : Type} (t : PerPos α) (p q : Position) (x : α) :
    (t.put p x).get q = if q = p then x else t.get q := by
  by_cases h : q = p
  · subst h; simp
  · simp [h, PerPos.get_put_of_ne t h]

/-- The second put at a place is the one that counts. -/
@[simp] theorem PerPos.put_put {α : Type} (t : PerPos α) (p : Position) (x y : α) : (t.put p x).put p y = t.put p y := by
  cases p <;> rfl

/-- A place of a table changed everywhere. -/
@[simp] theorem PerPos.get_mapPos {α β : Type} (t : PerPos α) (f : Position → α → β) (p : Position) :
    (t.mapPos f).get p = f p (t.get p) := by
  cases p <;> rfl

/-- A place of a table with one value everywhere. -/
@[simp] theorem PerPos.get_all {α : Type} (x : α) (p : Position) : (PerPos.all x).get p = x := by
  cases p <;> rfl

/-- Two tables with the same value at each place are one table. -/
theorem PerPos.ext_get {α : Type} {t u : PerPos α} (h : ∀ p, t.get p = u.get p) : t = u := by
  cases t; cases u
  congr
  · exact h .entry
  · exact h .transport
  · exact h .spray
  · exact h .gate
  · exact h .tunnel0
  · exact h .tunnel1
  · exact h .tunnel2
  · exact h .tunnel3
  · exact h .tunnel4
  · exact h .tunnel5
  · exact h .exit

/-- A value is one of the eleven exactly where it stands at a place. -/
theorem PerPos.mem_toList {α : Type} (t : PerPos α) (x : α) : x ∈ t.toList ↔ ∃ p, t.get p = x := by
  constructor
  · intro h
    obtain ⟨p, -, hp⟩ := List.mem_map.1 h
    exact ⟨p, hp⟩
  · rintro ⟨p, rfl⟩
    exact List.mem_map_of_mem (by cases p <;> decide)

@[simp] theorem PerZone.get_put_self {α : Type} (t : PerZone α) (z : Zone) (x : α) : (t.put z x).get z = x := by
  cases z <;> rfl

theorem PerZone.get_put_of_ne {α : Type} (t : PerZone α) {z w : Zone} (h : w ≠ z) (x : α) : (t.put z x).get w = t.get w := by
  cases z <;> cases w <;> first | rfl | exact absurd rfl h

/-! ## Wrappers -/

@[simp] theorem State.when_true (s : State) (f : State → State) : s.when true f = f s := rfl

@[simp] theorem State.when_false (s : State) (f : State → State) : s.when false f = s := rfl

/-- A command's wrapper acts on a loaded cell alone. -/
theorem State.live_of_loaded {s : State} (h : s.loaded = true) (f : State → State) : s.live f = f s := by
  simp [State.live, h]

theorem State.live_of_not_loaded {s : State} (h : s.loaded = false) (f : State → State) : s.live f = s := by
  simp [State.live, h]

/-! ## Single updates -/

@[simp] theorem State.post_link (s : State) (dst kind : Byte) (payload : List Byte) :
    (s.post dst kind payload).link = s.link.post (s.telegram dst kind payload) := rfl

@[simp] theorem State.putRecord_table (s : State) (p : Position) (r : Record) :
    (s.putRecord p r).table = s.table.put p (some r) := rfl

@[simp] theorem State.setLevel_pos (s : State) (p : Position) (b : Bool) :
    (s.setLevel p b).inputs.pos = s.inputs.pos.put p (Filter.forced b) := rfl

@[simp] theorem State.indexDoneRise_indexDone (s : State) :
    s.indexDoneRise.inputs.indexDone = { s.inputs.indexDone with last := some true, level := some true } := rfl

@[simp] theorem State.setGuard_guard (s : State) (b : Bool) : (s.setGuard b).inputs.guard = Filter.forced b := rfl

@[simp] theorem State.setAssembler_store (s : State) (a : Assembler) :
    (s.setAssembler a).store = { s.store with assembler := a } := rfl

@[simp] theorem State.setHandoff_exit (s : State) (h : Option Handoff) :
    (s.setHandoff h).table.exit = s.table.exit.map fun r => { r with handoff := h } := rfl

@[simp] theorem State.setDiversion_exit (s : State) (d : Diversion) :
    (s.setDiversion d).table.exit = s.table.exit.map fun r => { r with diversion := some d } := rfl

@[simp] theorem State.atSpray_spray (s : State) (f : Record → Record) : (s.atSpray f).table.spray = s.table.spray.map f := rfl

@[simp] theorem State.atExit_exit (s : State) (f : Record → Record) : (s.atExit f).table.exit = s.table.exit.map f := rfl

@[simp] theorem State.appendHold_list (s : State) (e : HoldEntry) : (s.appendHold e).holds.list = s.holds.list ++ [e] := rfl

@[simp] theorem Filter.forced_level (b : Bool) : (Filter.forced b).level = some b := rfl

end Sys2Proof.Machine
end

