-- ==== Sys2Proof/Laws/Frames.lean ====
section
/-! SUPPORT. For each shared operation over the state, the fields it leaves as they are: one lemma per operation, in the order of the
files that define them. The exec definitions are compositions of these operations, so a frame follows by simp. -/

namespace Sys2Proof.Machine

/-- A field that each step of a fold leaves is left by the fold. -/
theorem State.foldl_frame {α β : Type} (g : State → β) (f : State → α → State) (h : ∀ s a, g (f s a) = g s) (l : List α)
    (s : State) : g (l.foldl f s) = g s := by
  induction l generalizing s with
  | nil => rfl
  | cons a t ih => rw [List.foldl_cons, ih, h]

/-! ## Ops.lean -/

@[simp] theorem State.post_frame (s : State) (dst kind : Byte) (payload : List Byte) :
    (State.post s dst kind payload).pending = s.pending ∧ (State.post s dst kind payload).cell = s.cell ∧
    (State.post s dst kind payload).loaded = s.loaded ∧ (State.post s dst kind payload).seconds = s.seconds ∧
    (State.post s dst kind payload).secondsMs = s.secondsMs ∧ (State.post s dst kind payload).cfg = s.cfg ∧
    (State.post s dst kind payload).inputs = s.inputs ∧ (State.post s dst kind payload).table = s.table ∧
    (State.post s dst kind payload).tracker = s.tracker ∧ (State.post s dst kind payload).store = s.store ∧
    (State.post s dst kind payload).mask = s.mask ∧ (State.post s dst kind payload).spray = s.spray ∧
    (State.post s dst kind payload).supply = s.supply ∧ (State.post s dst kind payload).tunnel = s.tunnel ∧
    (State.post s dst kind payload).holds = s.holds ∧ (State.post s dst kind payload).watch = s.watch ∧
    (State.post s dst kind payload).free = s.free := by simp [State.post]

@[simp] theorem State.notice_frame (s : State) (code : Byte) (body : List Byte) :
    (State.notice s code body).pending = s.pending ∧ (State.notice s code body).cell = s.cell ∧
    (State.notice s code body).loaded = s.loaded ∧ (State.notice s code body).seconds = s.seconds ∧
    (State.notice s code body).secondsMs = s.secondsMs ∧ (State.notice s code body).cfg = s.cfg ∧
    (State.notice s code body).inputs = s.inputs ∧ (State.notice s code body).table = s.table ∧
    (State.notice s code body).tracker = s.tracker ∧ (State.notice s code body).store = s.store ∧
    (State.notice s code body).mask = s.mask ∧ (State.notice s code body).spray = s.spray ∧
    (State.notice s code body).supply = s.supply ∧ (State.notice s code body).tunnel = s.tunnel ∧
    (State.notice s code body).holds = s.holds ∧ (State.notice s code body).watch = s.watch ∧
    (State.notice s code body).free = s.free := by
  unfold State.notice
  split <;> simp

@[simp] theorem State.withdrawKind_frame (s : State) (kind : Byte) :
    (State.withdrawKind s kind).pending = s.pending ∧ (State.withdrawKind s kind).cell = s.cell ∧
    (State.withdrawKind s kind).loaded = s.loaded ∧ (State.withdrawKind s kind).seconds = s.seconds ∧
    (State.withdrawKind s kind).secondsMs = s.secondsMs ∧ (State.withdrawKind s kind).cfg = s.cfg ∧
    (State.withdrawKind s kind).inputs = s.inputs ∧ (State.withdrawKind s kind).table = s.table ∧
    (State.withdrawKind s kind).tracker = s.tracker ∧ (State.withdrawKind s kind).store = s.store ∧
    (State.withdrawKind s kind).mask = s.mask ∧ (State.withdrawKind s kind).spray = s.spray ∧
    (State.withdrawKind s kind).supply = s.supply ∧ (State.withdrawKind s kind).tunnel = s.tunnel ∧
    (State.withdrawKind s kind).holds = s.holds ∧ (State.withdrawKind s kind).watch = s.watch ∧
    (State.withdrawKind s kind).free = s.free := by simp [State.withdrawKind]

@[simp] theorem State.beginAction_frame (s : State) (i : Fin 4) :
    (State.beginAction s i).pending = s.pending ∧ (State.beginAction s i).cell = s.cell ∧
    (State.beginAction s i).loaded = s.loaded ∧ (State.beginAction s i).seconds = s.seconds ∧
    (State.beginAction s i).secondsMs = s.secondsMs ∧ (State.beginAction s i).cfg = s.cfg ∧
    (State.beginAction s i).inputs = s.inputs ∧ (State.beginAction s i).table = s.table ∧
    (State.beginAction s i).tracker = s.tracker ∧ (State.beginAction s i).store = s.store ∧
    (State.beginAction s i).mask = s.mask ∧ (State.beginAction s i).supply = s.supply ∧
    (State.beginAction s i).tunnel = s.tunnel ∧ (State.beginAction s i).holds = s.holds ∧
    (State.beginAction s i).free = s.free := by
  unfold State.beginAction
  dsimp only
  split <;> simp

@[simp] theorem State.reportTo_frame (src : Source) (margin : Int) (s : State) (i : Fin 4) :
    (State.reportTo src margin s i).pending = s.pending ∧ (State.reportTo src margin s i).cell = s.cell ∧
    (State.reportTo src margin s i).loaded = s.loaded ∧ (State.reportTo src margin s i).seconds = s.seconds ∧
    (State.reportTo src margin s i).secondsMs = s.secondsMs ∧ (State.reportTo src margin s i).cfg = s.cfg ∧
    (State.reportTo src margin s i).inputs = s.inputs ∧ (State.reportTo src margin s i).table = s.table ∧
    (State.reportTo src margin s i).tracker = s.tracker ∧ (State.reportTo src margin s i).store = s.store ∧
    (State.reportTo src margin s i).mask = s.mask ∧ (State.reportTo src margin s i).supply = s.supply ∧
    (State.reportTo src margin s i).tunnel = s.tunnel ∧ (State.reportTo src margin s i).holds = s.holds ∧
    (State.reportTo src margin s i).free = s.free := by
  unfold State.reportTo
  dsimp only
  repeat' split
  all_goals simp

@[simp] theorem State.report_frame (s : State) (src : Source) (margin : Int) :
    (State.report s src margin).pending = s.pending ∧ (State.report s src margin).cell = s.cell ∧
    (State.report s src margin).loaded = s.loaded ∧ (State.report s src margin).seconds = s.seconds ∧
    (State.report s src margin).secondsMs = s.secondsMs ∧ (State.report s src margin).cfg = s.cfg ∧
    (State.report s src margin).inputs = s.inputs ∧ (State.report s src margin).table = s.table ∧
    (State.report s src margin).tracker = s.tracker ∧ (State.report s src margin).store = s.store ∧
    (State.report s src margin).mask = s.mask ∧ (State.report s src margin).supply = s.supply ∧
    (State.report s src margin).tunnel = s.tunnel ∧ (State.report s src margin).holds = s.holds ∧
    (State.report s src margin).free = s.free := by
  unfold State.report
  refine ⟨State.foldl_frame (·.pending) _ (by simp) _ _, State.foldl_frame (·.cell) _ (by simp) _ _,
    State.foldl_frame (·.loaded) _ (by simp) _ _, State.foldl_frame (·.seconds) _ (by simp) _ _,
    State.foldl_frame (·.secondsMs) _ (by simp) _ _, State.foldl_frame (·.cfg) _ (by simp) _ _,
    State.foldl_frame (·.inputs) _ (by simp) _ _, State.foldl_frame (·.table) _ (by simp) _ _,
    State.foldl_frame (·.tracker) _ (by simp) _ _, State.foldl_frame (·.store) _ (by simp) _ _,
    State.foldl_frame (·.mask) _ (by simp) _ _, State.foldl_frame (·.supply) _ (by simp) _ _,
    State.foldl_frame (·.tunnel) _ (by simp) _ _, State.foldl_frame (·.holds) _ (by simp) _ _,
    State.foldl_frame (·.free) _ (by simp) _ _⟩

@[simp] theorem State.completeAction_frame (s : State) (a : WatchAction) :
    (State.completeAction s a).pending = s.pending ∧ (State.completeAction s a).cell = s.cell ∧
    (State.completeAction s a).loaded = s.loaded ∧ (State.completeAction s a).seconds = s.seconds ∧
    (State.completeAction s a).secondsMs = s.secondsMs ∧ (State.completeAction s a).cfg = s.cfg ∧
    (State.completeAction s a).inputs = s.inputs ∧ (State.completeAction s a).table = s.table ∧
    (State.completeAction s a).tracker = s.tracker ∧ (State.completeAction s a).store = s.store ∧
    (State.completeAction s a).mask = s.mask ∧ (State.completeAction s a).spray = s.spray ∧
    (State.completeAction s a).supply = s.supply ∧ (State.completeAction s a).tunnel = s.tunnel ∧
    (State.completeAction s a).holds = s.holds ∧ (State.completeAction s a).link = s.link ∧
    (State.completeAction s a).free = s.free := by simp [State.completeAction]

@[simp] theorem State.askClaim_frame (s : State) (holder : Holder) (serial : Option Serial) (duration : Nat) :
    (State.askClaim s holder serial duration).pending = s.pending ∧
    (State.askClaim s holder serial duration).cell = s.cell ∧ (State.askClaim s holder serial duration).loaded = s.loaded ∧
    (State.askClaim s holder serial duration).seconds = s.seconds ∧
    (State.askClaim s holder serial duration).secondsMs = s.secondsMs ∧
    (State.askClaim s holder serial duration).cfg = s.cfg ∧ (State.askClaim s holder serial duration).inputs = s.inputs ∧
    (State.askClaim s holder serial duration).table = s.table ∧
    (State.askClaim s holder serial duration).tracker = s.tracker ∧
    (State.askClaim s holder serial duration).store = s.store ∧ (State.askClaim s holder serial duration).mask = s.mask ∧
    (State.askClaim s holder serial duration).spray = s.spray ∧
    (State.askClaim s holder serial duration).tunnel = s.tunnel ∧
    (State.askClaim s holder serial duration).holds = s.holds ∧ (State.askClaim s holder serial duration).watch = s.watch ∧
    (State.askClaim s holder serial duration).free = s.free := by simp [State.askClaim]

@[simp] theorem State.postDone_frame (s : State) :
    (State.postDone s).pending = s.pending ∧ (State.postDone s).cell = s.cell ∧ (State.postDone s).loaded = s.loaded ∧
    (State.postDone s).seconds = s.seconds ∧ (State.postDone s).secondsMs = s.secondsMs ∧ (State.postDone s).cfg = s.cfg ∧
    (State.postDone s).inputs = s.inputs ∧ (State.postDone s).table = s.table ∧ (State.postDone s).tracker = s.tracker ∧
    (State.postDone s).store = s.store ∧ (State.postDone s).mask = s.mask ∧ (State.postDone s).spray = s.spray ∧
    (State.postDone s).supply = s.supply ∧ (State.postDone s).tunnel = s.tunnel ∧ (State.postDone s).holds = s.holds ∧
    (State.postDone s).watch = s.watch ∧ (State.postDone s).free = s.free := by simp [State.postDone]

@[simp] theorem State.endClaim_frame (s : State) :
    (State.endClaim s).pending = s.pending ∧ (State.endClaim s).cell = s.cell ∧ (State.endClaim s).loaded = s.loaded ∧
    (State.endClaim s).seconds = s.seconds ∧ (State.endClaim s).secondsMs = s.secondsMs ∧ (State.endClaim s).cfg = s.cfg ∧
    (State.endClaim s).inputs = s.inputs ∧ (State.endClaim s).table = s.table ∧ (State.endClaim s).tracker = s.tracker ∧
    (State.endClaim s).store = s.store ∧ (State.endClaim s).mask = s.mask ∧ (State.endClaim s).spray = s.spray ∧
    (State.endClaim s).tunnel = s.tunnel ∧ (State.endClaim s).holds = s.holds ∧ (State.endClaim s).watch = s.watch ∧
    (State.endClaim s).free = s.free := by
  unfold State.endClaim
  repeat' split
  all_goals simp

@[simp] theorem State.tryGrant_frame (s : State) :
    (State.tryGrant s).pending = s.pending ∧ (State.tryGrant s).cell = s.cell ∧ (State.tryGrant s).loaded = s.loaded ∧
    (State.tryGrant s).seconds = s.seconds ∧ (State.tryGrant s).secondsMs = s.secondsMs ∧ (State.tryGrant s).cfg = s.cfg ∧
    (State.tryGrant s).inputs = s.inputs ∧ (State.tryGrant s).table = s.table ∧ (State.tryGrant s).tracker = s.tracker ∧
    (State.tryGrant s).store = s.store ∧ (State.tryGrant s).mask = s.mask ∧ (State.tryGrant s).tunnel = s.tunnel ∧
    (State.tryGrant s).holds = s.holds ∧ (State.tryGrant s).watch = s.watch ∧ (State.tryGrant s).link = s.link ∧
    (State.tryGrant s).free = s.free := by
  unfold State.tryGrant
  repeat' split
  all_goals simp

@[simp] theorem State.putRecord_frame (s : State) (p : Position) (r : Record) :
    (State.putRecord s p r).pending = s.pending ∧ (State.putRecord s p r).cell = s.cell ∧
    (State.putRecord s p r).loaded = s.loaded ∧ (State.putRecord s p r).seconds = s.seconds ∧
    (State.putRecord s p r).secondsMs = s.secondsMs ∧ (State.putRecord s p r).cfg = s.cfg ∧
    (State.putRecord s p r).inputs = s.inputs ∧ (State.putRecord s p r).tracker = s.tracker ∧
    (State.putRecord s p r).store = s.store ∧ (State.putRecord s p r).mask = s.mask ∧
    (State.putRecord s p r).spray = s.spray ∧ (State.putRecord s p r).supply = s.supply ∧
    (State.putRecord s p r).tunnel = s.tunnel ∧ (State.putRecord s p r).holds = s.holds ∧
    (State.putRecord s p r).watch = s.watch ∧ (State.putRecord s p r).link = s.link ∧ (State.putRecord s p r).free = s.free := by simp [State.putRecord]

@[simp] theorem State.makeStranded_frame (s : State) (p : Position) :
    (State.makeStranded s p).pending = s.pending ∧ (State.makeStranded s p).cell = s.cell ∧
    (State.makeStranded s p).loaded = s.loaded ∧ (State.makeStranded s p).seconds = s.seconds ∧
    (State.makeStranded s p).secondsMs = s.secondsMs ∧ (State.makeStranded s p).cfg = s.cfg ∧
    (State.makeStranded s p).inputs = s.inputs ∧ (State.makeStranded s p).tracker = s.tracker ∧
    (State.makeStranded s p).store = s.store ∧ (State.makeStranded s p).spray = s.spray ∧
    (State.makeStranded s p).supply = s.supply ∧ (State.makeStranded s p).tunnel = s.tunnel ∧
    (State.makeStranded s p).holds = s.holds ∧ (State.makeStranded s p).watch = s.watch ∧
    (State.makeStranded s p).link = s.link ∧ (State.makeStranded s p).free = s.free := by
  unfold State.makeStranded
  dsimp only
  split <;> simp

@[simp] theorem State.handBack_frame (s : State) (i : Option (Fin 12)) :
    (State.handBack s i).pending = s.pending ∧ (State.handBack s i).cell = s.cell ∧ (State.handBack s i).loaded = s.loaded ∧
    (State.handBack s i).seconds = s.seconds ∧ (State.handBack s i).secondsMs = s.secondsMs ∧
    (State.handBack s i).cfg = s.cfg ∧ (State.handBack s i).inputs = s.inputs ∧ (State.handBack s i).table = s.table ∧
    (State.handBack s i).tracker = s.tracker ∧ (State.handBack s i).mask = s.mask ∧ (State.handBack s i).spray = s.spray ∧
    (State.handBack s i).supply = s.supply ∧ (State.handBack s i).tunnel = s.tunnel ∧ (State.handBack s i).holds = s.holds ∧
    (State.handBack s i).watch = s.watch ∧ (State.handBack s i).link = s.link ∧ (State.handBack s i).free = s.free := by
  unfold State.handBack
  repeat' split
  all_goals simp

@[simp] theorem State.dropSpray_frame (s : State) :
    (State.dropSpray s).pending = s.pending ∧ (State.dropSpray s).cell = s.cell ∧ (State.dropSpray s).loaded = s.loaded ∧
    (State.dropSpray s).seconds = s.seconds ∧ (State.dropSpray s).secondsMs = s.secondsMs ∧
    (State.dropSpray s).cfg = s.cfg ∧ (State.dropSpray s).inputs = s.inputs ∧ (State.dropSpray s).table = s.table ∧
    (State.dropSpray s).tracker = s.tracker ∧ (State.dropSpray s).store = s.store ∧ (State.dropSpray s).mask = s.mask ∧
    (State.dropSpray s).tunnel = s.tunnel ∧ (State.dropSpray s).holds = s.holds ∧ (State.dropSpray s).watch = s.watch ∧
    (State.dropSpray s).free = s.free := by
  unfold State.dropSpray
  split <;> simp

@[simp] theorem State.leave_frame (s : State) (p : Position) :
    (State.leave s p).pending = s.pending ∧ (State.leave s p).cell = s.cell ∧ (State.leave s p).loaded = s.loaded ∧
    (State.leave s p).seconds = s.seconds ∧ (State.leave s p).secondsMs = s.secondsMs ∧ (State.leave s p).cfg = s.cfg ∧
    (State.leave s p).inputs = s.inputs ∧ (State.leave s p).tracker = s.tracker ∧ (State.leave s p).tunnel = s.tunnel ∧
    (State.leave s p).holds = s.holds ∧ (State.leave s p).watch = s.watch ∧ (State.leave s p).free = s.free := by
  unfold State.leave
  dsimp only
  repeat' split
  all_goals simp

@[simp] theorem State.clearOutTest_frame (s : State) :
    (State.clearOutTest s).pending = s.pending ∧ (State.clearOutTest s).loaded = s.loaded ∧
    (State.clearOutTest s).seconds = s.seconds ∧ (State.clearOutTest s).secondsMs = s.secondsMs ∧
    (State.clearOutTest s).cfg = s.cfg ∧ (State.clearOutTest s).inputs = s.inputs ∧ (State.clearOutTest s).table = s.table ∧
    (State.clearOutTest s).tracker = s.tracker ∧ (State.clearOutTest s).store = s.store ∧
    (State.clearOutTest s).mask = s.mask ∧ (State.clearOutTest s).spray = s.spray ∧
    (State.clearOutTest s).supply = s.supply ∧ (State.clearOutTest s).tunnel = s.tunnel ∧
    (State.clearOutTest s).holds = s.holds ∧ (State.clearOutTest s).watch = s.watch ∧ (State.clearOutTest s).link = s.link ∧
    (State.clearOutTest s).free = s.free := by
  unfold State.clearOutTest
  split <;> simp

@[simp] theorem State.removeLifted_frame (s : State) (p : Position) :
    (State.removeLifted s p).pending = s.pending ∧ (State.removeLifted s p).cell = s.cell ∧
    (State.removeLifted s p).loaded = s.loaded ∧ (State.removeLifted s p).seconds = s.seconds ∧
    (State.removeLifted s p).secondsMs = s.secondsMs ∧ (State.removeLifted s p).cfg = s.cfg ∧
    (State.removeLifted s p).inputs = s.inputs ∧ (State.removeLifted s p).tracker = s.tracker ∧
    (State.removeLifted s p).tunnel = s.tunnel ∧ (State.removeLifted s p).holds = s.holds ∧
    (State.removeLifted s p).watch = s.watch ∧ (State.removeLifted s p).free = s.free := by
  unfold State.removeLifted
  repeat' split
  all_goals simp

/-! ## Dose.lean -/

@[simp] theorem State.mapRecords_frame (s : State) (f : Position → Record → Record) :
    (State.mapRecords s f).pending = s.pending ∧ (State.mapRecords s f).cell = s.cell ∧
    (State.mapRecords s f).loaded = s.loaded ∧ (State.mapRecords s f).seconds = s.seconds ∧
    (State.mapRecords s f).secondsMs = s.secondsMs ∧ (State.mapRecords s f).cfg = s.cfg ∧
    (State.mapRecords s f).inputs = s.inputs ∧ (State.mapRecords s f).tracker = s.tracker ∧
    (State.mapRecords s f).store = s.store ∧ (State.mapRecords s f).mask = s.mask ∧ (State.mapRecords s f).spray = s.spray ∧
    (State.mapRecords s f).supply = s.supply ∧ (State.mapRecords s f).tunnel = s.tunnel ∧
    (State.mapRecords s f).holds = s.holds ∧ (State.mapRecords s f).watch = s.watch ∧ (State.mapRecords s f).link = s.link ∧
    (State.mapRecords s f).free = s.free := by simp [State.mapRecords]

/-! ## Tunnel.lean -/

@[simp] theorem State.tryIndex_frame (s : State) :
    (State.tryIndex s).pending = s.pending ∧ (State.tryIndex s).cell = s.cell ∧ (State.tryIndex s).loaded = s.loaded ∧
    (State.tryIndex s).seconds = s.seconds ∧ (State.tryIndex s).secondsMs = s.secondsMs ∧ (State.tryIndex s).cfg = s.cfg ∧
    (State.tryIndex s).inputs = s.inputs ∧ (State.tryIndex s).table = s.table ∧ (State.tryIndex s).tracker = s.tracker ∧
    (State.tryIndex s).store = s.store ∧ (State.tryIndex s).mask = s.mask ∧ (State.tryIndex s).spray = s.spray ∧
    (State.tryIndex s).supply = s.supply ∧ (State.tryIndex s).holds = s.holds ∧ (State.tryIndex s).watch = s.watch ∧
    (State.tryIndex s).link = s.link ∧ (State.tryIndex s).free = s.free := by
  unfold State.tryIndex
  split <;> simp

@[simp] theorem State.indexTimeout_frame (s : State) :
    (State.indexTimeout s).pending = s.pending ∧ (State.indexTimeout s).cell = s.cell ∧
    (State.indexTimeout s).loaded = s.loaded ∧ (State.indexTimeout s).seconds = s.seconds ∧
    (State.indexTimeout s).secondsMs = s.secondsMs ∧ (State.indexTimeout s).cfg = s.cfg ∧
    (State.indexTimeout s).inputs = s.inputs ∧ (State.indexTimeout s).table = s.table ∧
    (State.indexTimeout s).tracker = s.tracker ∧ (State.indexTimeout s).store = s.store ∧
    (State.indexTimeout s).mask = s.mask ∧ (State.indexTimeout s).spray = s.spray ∧
    (State.indexTimeout s).supply = s.supply ∧ (State.indexTimeout s).holds = s.holds ∧
    (State.indexTimeout s).watch = s.watch ∧ (State.indexTimeout s).free = s.free := by simp [State.indexTimeout]

@[simp] theorem State.expiry_frame (s : State) :
    (State.expiry s).pending = s.pending ∧ (State.expiry s).cell = s.cell ∧ (State.expiry s).loaded = s.loaded ∧
    (State.expiry s).seconds = s.seconds ∧ (State.expiry s).secondsMs = s.secondsMs ∧ (State.expiry s).cfg = s.cfg ∧
    (State.expiry s).inputs = s.inputs ∧ (State.expiry s).table = s.table ∧ (State.expiry s).tracker = s.tracker ∧
    (State.expiry s).store = s.store ∧ (State.expiry s).mask = s.mask ∧ (State.expiry s).spray = s.spray ∧
    (State.expiry s).supply = s.supply ∧ (State.expiry s).holds = s.holds ∧ (State.expiry s).watch = s.watch ∧
    (State.expiry s).link = s.link ∧ (State.expiry s).free = s.free := by
  unfold State.expiry
  split <;> simp

@[simp] theorem State.dwellTick_frame (s : State) :
    (State.dwellTick s).pending = s.pending ∧ (State.dwellTick s).cell = s.cell ∧ (State.dwellTick s).loaded = s.loaded ∧
    (State.dwellTick s).seconds = s.seconds ∧ (State.dwellTick s).secondsMs = s.secondsMs ∧
    (State.dwellTick s).cfg = s.cfg ∧ (State.dwellTick s).inputs = s.inputs ∧ (State.dwellTick s).table = s.table ∧
    (State.dwellTick s).tracker = s.tracker ∧ (State.dwellTick s).store = s.store ∧ (State.dwellTick s).mask = s.mask ∧
    (State.dwellTick s).spray = s.spray ∧ (State.dwellTick s).supply = s.supply ∧ (State.dwellTick s).holds = s.holds ∧
    (State.dwellTick s).watch = s.watch ∧ (State.dwellTick s).link = s.link ∧ (State.dwellTick s).free = s.free := by
  unfold State.dwellTick
  repeat' split
  all_goals simp

@[simp] theorem State.startRead_frame (s : State) (z : Zone) :
    (State.startRead s z).pending = s.pending ∧ (State.startRead s z).cell = s.cell ∧
    (State.startRead s z).loaded = s.loaded ∧ (State.startRead s z).seconds = s.seconds ∧
    (State.startRead s z).secondsMs = s.secondsMs ∧ (State.startRead s z).cfg = s.cfg ∧
    (State.startRead s z).inputs = s.inputs ∧ (State.startRead s z).table = s.table ∧
    (State.startRead s z).tracker = s.tracker ∧ (State.startRead s z).store = s.store ∧
    (State.startRead s z).mask = s.mask ∧ (State.startRead s z).spray = s.spray ∧ (State.startRead s z).supply = s.supply ∧
    (State.startRead s z).holds = s.holds ∧ (State.startRead s z).watch = s.watch ∧ (State.startRead s z).link = s.link ∧
    (State.startRead s z).free = s.free := by simp [State.startRead]

@[simp] theorem State.startPoll_frame (s : State) :
    (State.startPoll s).pending = s.pending ∧ (State.startPoll s).cell = s.cell ∧ (State.startPoll s).loaded = s.loaded ∧
    (State.startPoll s).seconds = s.seconds ∧ (State.startPoll s).secondsMs = s.secondsMs ∧
    (State.startPoll s).cfg = s.cfg ∧ (State.startPoll s).inputs = s.inputs ∧ (State.startPoll s).table = s.table ∧
    (State.startPoll s).tracker = s.tracker ∧ (State.startPoll s).store = s.store ∧ (State.startPoll s).mask = s.mask ∧
    (State.startPoll s).spray = s.spray ∧ (State.startPoll s).supply = s.supply ∧ (State.startPoll s).holds = s.holds ∧
    (State.startPoll s).watch = s.watch ∧ (State.startPoll s).link = s.link ∧ (State.startPoll s).free = s.free := by simp [State.startPoll]

@[simp] theorem State.zoneLostNotice_frame (s : State) (z : Zone) (before : ZoneState) :
    (State.zoneLostNotice s z before).pending = s.pending ∧ (State.zoneLostNotice s z before).cell = s.cell ∧
    (State.zoneLostNotice s z before).loaded = s.loaded ∧ (State.zoneLostNotice s z before).seconds = s.seconds ∧
    (State.zoneLostNotice s z before).secondsMs = s.secondsMs ∧ (State.zoneLostNotice s z before).cfg = s.cfg ∧
    (State.zoneLostNotice s z before).inputs = s.inputs ∧ (State.zoneLostNotice s z before).table = s.table ∧
    (State.zoneLostNotice s z before).tracker = s.tracker ∧ (State.zoneLostNotice s z before).store = s.store ∧
    (State.zoneLostNotice s z before).mask = s.mask ∧ (State.zoneLostNotice s z before).spray = s.spray ∧
    (State.zoneLostNotice s z before).supply = s.supply ∧ (State.zoneLostNotice s z before).tunnel = s.tunnel ∧
    (State.zoneLostNotice s z before).holds = s.holds ∧ (State.zoneLostNotice s z before).watch = s.watch ∧
    (State.zoneLostNotice s z before).free = s.free := by
  unfold State.zoneLostNotice
  split <;> simp

@[simp] theorem State.endRead_frame (s : State) (good : Option Int) :
    (State.endRead s good).pending = s.pending ∧ (State.endRead s good).cell = s.cell ∧
    (State.endRead s good).loaded = s.loaded ∧ (State.endRead s good).seconds = s.seconds ∧
    (State.endRead s good).secondsMs = s.secondsMs ∧ (State.endRead s good).cfg = s.cfg ∧
    (State.endRead s good).inputs = s.inputs ∧ (State.endRead s good).table = s.table ∧
    (State.endRead s good).tracker = s.tracker ∧ (State.endRead s good).store = s.store ∧
    (State.endRead s good).mask = s.mask ∧ (State.endRead s good).spray = s.spray ∧
    (State.endRead s good).supply = s.supply ∧ (State.endRead s good).holds = s.holds ∧
    (State.endRead s good).watch = s.watch ∧ (State.endRead s good).free = s.free := by
  unfold State.endRead
  repeat' split
  all_goals simp

@[simp] theorem State.cureStep_frame (s : State) :
    (State.cureStep s).pending = s.pending ∧ (State.cureStep s).cell = s.cell ∧ (State.cureStep s).loaded = s.loaded ∧
    (State.cureStep s).seconds = s.seconds ∧ (State.cureStep s).secondsMs = s.secondsMs ∧ (State.cureStep s).cfg = s.cfg ∧
    (State.cureStep s).inputs = s.inputs ∧ (State.cureStep s).tracker = s.tracker ∧ (State.cureStep s).store = s.store ∧
    (State.cureStep s).mask = s.mask ∧ (State.cureStep s).spray = s.spray ∧ (State.cureStep s).supply = s.supply ∧
    (State.cureStep s).tunnel = s.tunnel ∧ (State.cureStep s).holds = s.holds ∧ (State.cureStep s).watch = s.watch ∧
    (State.cureStep s).link = s.link ∧ (State.cureStep s).free = s.free := by simp [State.cureStep]

@[simp] theorem State.flashStep_frame (s : State) :
    (State.flashStep s).pending = s.pending ∧ (State.flashStep s).cell = s.cell ∧ (State.flashStep s).loaded = s.loaded ∧
    (State.flashStep s).seconds = s.seconds ∧ (State.flashStep s).secondsMs = s.secondsMs ∧
    (State.flashStep s).cfg = s.cfg ∧ (State.flashStep s).inputs = s.inputs ∧ (State.flashStep s).tracker = s.tracker ∧
    (State.flashStep s).store = s.store ∧ (State.flashStep s).mask = s.mask ∧ (State.flashStep s).spray = s.spray ∧
    (State.flashStep s).supply = s.supply ∧ (State.flashStep s).tunnel = s.tunnel ∧ (State.flashStep s).holds = s.holds ∧
    (State.flashStep s).watch = s.watch ∧ (State.flashStep s).link = s.link ∧ (State.flashStep s).free = s.free := by simp [State.flashStep]

@[simp] theorem State.cureTick_frame (s : State) :
    (State.cureTick s).pending = s.pending ∧ (State.cureTick s).cell = s.cell ∧ (State.cureTick s).loaded = s.loaded ∧
    (State.cureTick s).seconds = s.seconds ∧ (State.cureTick s).secondsMs = s.secondsMs ∧ (State.cureTick s).cfg = s.cfg ∧
    (State.cureTick s).inputs = s.inputs ∧ (State.cureTick s).tracker = s.tracker ∧ (State.cureTick s).store = s.store ∧
    (State.cureTick s).mask = s.mask ∧ (State.cureTick s).spray = s.spray ∧ (State.cureTick s).supply = s.supply ∧
    (State.cureTick s).holds = s.holds ∧ (State.cureTick s).watch = s.watch ∧ (State.cureTick s).link = s.link ∧
    (State.cureTick s).free = s.free := by simp [State.cureTick]

/-! ## Handoff.lean -/

@[simp] theorem State.setHandoff_frame (s : State) (h : Option Handoff) :
    (State.setHandoff s h).pending = s.pending ∧ (State.setHandoff s h).cell = s.cell ∧
    (State.setHandoff s h).loaded = s.loaded ∧ (State.setHandoff s h).seconds = s.seconds ∧
    (State.setHandoff s h).secondsMs = s.secondsMs ∧ (State.setHandoff s h).cfg = s.cfg ∧
    (State.setHandoff s h).inputs = s.inputs ∧ (State.setHandoff s h).tracker = s.tracker ∧
    (State.setHandoff s h).store = s.store ∧ (State.setHandoff s h).mask = s.mask ∧ (State.setHandoff s h).spray = s.spray ∧
    (State.setHandoff s h).supply = s.supply ∧ (State.setHandoff s h).tunnel = s.tunnel ∧
    (State.setHandoff s h).holds = s.holds ∧ (State.setHandoff s h).watch = s.watch ∧ (State.setHandoff s h).link = s.link ∧
    (State.setHandoff s h).free = s.free := by simp [State.setHandoff]

@[simp] theorem State.handForDiversion_frame (s : State) :
    (State.handForDiversion s).pending = s.pending ∧ (State.handForDiversion s).cell = s.cell ∧
    (State.handForDiversion s).loaded = s.loaded ∧ (State.handForDiversion s).seconds = s.seconds ∧
    (State.handForDiversion s).secondsMs = s.secondsMs ∧ (State.handForDiversion s).cfg = s.cfg ∧
    (State.handForDiversion s).inputs = s.inputs ∧ (State.handForDiversion s).tracker = s.tracker ∧
    (State.handForDiversion s).store = s.store ∧ (State.handForDiversion s).mask = s.mask ∧
    (State.handForDiversion s).spray = s.spray ∧ (State.handForDiversion s).supply = s.supply ∧
    (State.handForDiversion s).tunnel = s.tunnel ∧ (State.handForDiversion s).holds = s.holds ∧
    (State.handForDiversion s).watch = s.watch ∧ (State.handForDiversion s).link = s.link ∧
    (State.handForDiversion s).free = s.free := by simp [State.handForDiversion]

@[simp] theorem State.postOffer_frame (s : State) (number : Byte) :
    (State.postOffer s number).pending = s.pending ∧ (State.postOffer s number).cell = s.cell ∧
    (State.postOffer s number).loaded = s.loaded ∧ (State.postOffer s number).seconds = s.seconds ∧
    (State.postOffer s number).secondsMs = s.secondsMs ∧ (State.postOffer s number).cfg = s.cfg ∧
    (State.postOffer s number).inputs = s.inputs ∧ (State.postOffer s number).tracker = s.tracker ∧
    (State.postOffer s number).store = s.store ∧ (State.postOffer s number).mask = s.mask ∧
    (State.postOffer s number).spray = s.spray ∧ (State.postOffer s number).supply = s.supply ∧
    (State.postOffer s number).tunnel = s.tunnel ∧ (State.postOffer s number).holds = s.holds ∧
    (State.postOffer s number).watch = s.watch ∧ (State.postOffer s number).free = s.free := by
  unfold State.postOffer
  repeat' split
  all_goals simp

@[simp] theorem State.becomeOffered_frame (s : State) :
    (State.becomeOffered s).pending = s.pending ∧ (State.becomeOffered s).cell = s.cell ∧
    (State.becomeOffered s).loaded = s.loaded ∧ (State.becomeOffered s).seconds = s.seconds ∧
    (State.becomeOffered s).secondsMs = s.secondsMs ∧ (State.becomeOffered s).cfg = s.cfg ∧
    (State.becomeOffered s).inputs = s.inputs ∧ (State.becomeOffered s).store = s.store ∧
    (State.becomeOffered s).mask = s.mask ∧ (State.becomeOffered s).spray = s.spray ∧
    (State.becomeOffered s).supply = s.supply ∧ (State.becomeOffered s).tunnel = s.tunnel ∧
    (State.becomeOffered s).holds = s.holds ∧ (State.becomeOffered s).watch = s.watch ∧
    (State.becomeOffered s).free = s.free := by simp [State.becomeOffered]

@[simp] theorem State.exitDecision_frame (s : State) :
    (State.exitDecision s).pending = s.pending ∧ (State.exitDecision s).cell = s.cell ∧
    (State.exitDecision s).loaded = s.loaded ∧ (State.exitDecision s).seconds = s.seconds ∧
    (State.exitDecision s).secondsMs = s.secondsMs ∧ (State.exitDecision s).cfg = s.cfg ∧
    (State.exitDecision s).inputs = s.inputs ∧ (State.exitDecision s).store = s.store ∧
    (State.exitDecision s).mask = s.mask ∧ (State.exitDecision s).spray = s.spray ∧
    (State.exitDecision s).supply = s.supply ∧ (State.exitDecision s).tunnel = s.tunnel ∧
    (State.exitDecision s).holds = s.holds ∧ (State.exitDecision s).watch = s.watch ∧ (State.exitDecision s).free = s.free := by
  unfold State.exitDecision
  repeat' split
  all_goals simp

@[simp] theorem State.takeAccept_frame (s : State) (t : Telegram) :
    (State.takeAccept s t).pending = s.pending ∧ (State.takeAccept s t).cell = s.cell ∧
    (State.takeAccept s t).loaded = s.loaded ∧ (State.takeAccept s t).seconds = s.seconds ∧
    (State.takeAccept s t).secondsMs = s.secondsMs ∧ (State.takeAccept s t).cfg = s.cfg ∧
    (State.takeAccept s t).inputs = s.inputs ∧ (State.takeAccept s t).tracker = s.tracker ∧
    (State.takeAccept s t).store = s.store ∧ (State.takeAccept s t).mask = s.mask ∧ (State.takeAccept s t).spray = s.spray ∧
    (State.takeAccept s t).supply = s.supply ∧ (State.takeAccept s t).tunnel = s.tunnel ∧
    (State.takeAccept s t).holds = s.holds ∧ (State.takeAccept s t).watch = s.watch ∧ (State.takeAccept s t).free = s.free := by
  unfold State.takeAccept
  repeat' split
  all_goals simp

@[simp] theorem State.takeDecline_frame (s : State) (t : Telegram) :
    (State.takeDecline s t).pending = s.pending ∧ (State.takeDecline s t).cell = s.cell ∧
    (State.takeDecline s t).loaded = s.loaded ∧ (State.takeDecline s t).seconds = s.seconds ∧
    (State.takeDecline s t).secondsMs = s.secondsMs ∧ (State.takeDecline s t).cfg = s.cfg ∧
    (State.takeDecline s t).inputs = s.inputs ∧ (State.takeDecline s t).tracker = s.tracker ∧
    (State.takeDecline s t).store = s.store ∧ (State.takeDecline s t).mask = s.mask ∧
    (State.takeDecline s t).spray = s.spray ∧ (State.takeDecline s t).supply = s.supply ∧
    (State.takeDecline s t).tunnel = s.tunnel ∧ (State.takeDecline s t).holds = s.holds ∧
    (State.takeDecline s t).watch = s.watch ∧ (State.takeDecline s t).link = s.link ∧ (State.takeDecline s t).free = s.free := by
  unfold State.takeDecline
  repeat' split
  all_goals simp

@[simp] theorem State.departClean_frame (s : State) :
    (State.departClean s).pending = s.pending ∧ (State.departClean s).cell = s.cell ∧
    (State.departClean s).loaded = s.loaded ∧ (State.departClean s).seconds = s.seconds ∧
    (State.departClean s).secondsMs = s.secondsMs ∧ (State.departClean s).cfg = s.cfg ∧
    (State.departClean s).inputs = s.inputs ∧ (State.departClean s).tracker = s.tracker ∧
    (State.departClean s).tunnel = s.tunnel ∧ (State.departClean s).holds = s.holds ∧ (State.departClean s).free = s.free := by simp [State.departClean]

@[simp] theorem State.takeReceived_frame (s : State) (t : Telegram) :
    (State.takeReceived s t).pending = s.pending ∧ (State.takeReceived s t).cell = s.cell ∧
    (State.takeReceived s t).loaded = s.loaded ∧ (State.takeReceived s t).seconds = s.seconds ∧
    (State.takeReceived s t).secondsMs = s.secondsMs ∧ (State.takeReceived s t).cfg = s.cfg ∧
    (State.takeReceived s t).inputs = s.inputs ∧ (State.takeReceived s t).tracker = s.tracker ∧
    (State.takeReceived s t).tunnel = s.tunnel ∧ (State.takeReceived s t).holds = s.holds ∧
    (State.takeReceived s t).free = s.free := by
  unfold State.takeReceived
  repeat' split
  all_goals simp

@[simp] theorem State.exitCleared_frame (s : State) (n : Option Byte) (received : Bool) :
    (State.exitCleared s n received).pending = s.pending ∧ (State.exitCleared s n received).cell = s.cell ∧
    (State.exitCleared s n received).loaded = s.loaded ∧ (State.exitCleared s n received).seconds = s.seconds ∧
    (State.exitCleared s n received).secondsMs = s.secondsMs ∧ (State.exitCleared s n received).cfg = s.cfg ∧
    (State.exitCleared s n received).inputs = s.inputs ∧ (State.exitCleared s n received).tracker = s.tracker ∧
    (State.exitCleared s n received).tunnel = s.tunnel ∧ (State.exitCleared s n received).holds = s.holds ∧
    (State.exitCleared s n received).free = s.free := by
  unfold State.exitCleared
  split <;> simp

@[simp] theorem State.exitReturned_frame (s : State) (n : Option Byte) :
    (State.exitReturned s n).pending = s.pending ∧ (State.exitReturned s n).cell = s.cell ∧
    (State.exitReturned s n).loaded = s.loaded ∧ (State.exitReturned s n).seconds = s.seconds ∧
    (State.exitReturned s n).secondsMs = s.secondsMs ∧ (State.exitReturned s n).cfg = s.cfg ∧
    (State.exitReturned s n).inputs = s.inputs ∧ (State.exitReturned s n).tracker = s.tracker ∧
    (State.exitReturned s n).store = s.store ∧ (State.exitReturned s n).mask = s.mask ∧
    (State.exitReturned s n).spray = s.spray ∧ (State.exitReturned s n).supply = s.supply ∧
    (State.exitReturned s n).tunnel = s.tunnel ∧ (State.exitReturned s n).holds = s.holds ∧
    (State.exitReturned s n).watch = s.watch ∧ (State.exitReturned s n).link = s.link ∧
    (State.exitReturned s n).free = s.free := by simp [State.exitReturned]

@[simp] theorem State.answerExpiry_frame (s : State) :
    (State.answerExpiry s).pending = s.pending ∧ (State.answerExpiry s).cell = s.cell ∧
    (State.answerExpiry s).loaded = s.loaded ∧ (State.answerExpiry s).seconds = s.seconds ∧
    (State.answerExpiry s).secondsMs = s.secondsMs ∧ (State.answerExpiry s).cfg = s.cfg ∧
    (State.answerExpiry s).inputs = s.inputs ∧ (State.answerExpiry s).tracker = s.tracker ∧
    (State.answerExpiry s).store = s.store ∧ (State.answerExpiry s).mask = s.mask ∧ (State.answerExpiry s).spray = s.spray ∧
    (State.answerExpiry s).supply = s.supply ∧ (State.answerExpiry s).tunnel = s.tunnel ∧
    (State.answerExpiry s).holds = s.holds ∧ (State.answerExpiry s).watch = s.watch ∧ (State.answerExpiry s).link = s.link ∧
    (State.answerExpiry s).free = s.free := by
  unfold State.answerExpiry
  split <;> simp

@[simp] theorem State.reOfferExpiry_frame (s : State) :
    (State.reOfferExpiry s).pending = s.pending ∧ (State.reOfferExpiry s).cell = s.cell ∧
    (State.reOfferExpiry s).loaded = s.loaded ∧ (State.reOfferExpiry s).seconds = s.seconds ∧
    (State.reOfferExpiry s).secondsMs = s.secondsMs ∧ (State.reOfferExpiry s).cfg = s.cfg ∧
    (State.reOfferExpiry s).inputs = s.inputs ∧ (State.reOfferExpiry s).tracker = s.tracker ∧
    (State.reOfferExpiry s).store = s.store ∧ (State.reOfferExpiry s).mask = s.mask ∧
    (State.reOfferExpiry s).spray = s.spray ∧ (State.reOfferExpiry s).supply = s.supply ∧
    (State.reOfferExpiry s).tunnel = s.tunnel ∧ (State.reOfferExpiry s).holds = s.holds ∧
    (State.reOfferExpiry s).watch = s.watch ∧ (State.reOfferExpiry s).free = s.free := by
  unfold State.reOfferExpiry
  split <;> simp

@[simp] theorem State.offerReport_frame (s : State) (number : Byte) (refused : Bool) :
    (State.offerReport s number refused).pending = s.pending ∧ (State.offerReport s number refused).cell = s.cell ∧
    (State.offerReport s number refused).loaded = s.loaded ∧ (State.offerReport s number refused).seconds = s.seconds ∧
    (State.offerReport s number refused).secondsMs = s.secondsMs ∧ (State.offerReport s number refused).cfg = s.cfg ∧
    (State.offerReport s number refused).inputs = s.inputs ∧ (State.offerReport s number refused).tracker = s.tracker ∧
    (State.offerReport s number refused).store = s.store ∧ (State.offerReport s number refused).mask = s.mask ∧
    (State.offerReport s number refused).spray = s.spray ∧ (State.offerReport s number refused).supply = s.supply ∧
    (State.offerReport s number refused).tunnel = s.tunnel ∧ (State.offerReport s number refused).holds = s.holds ∧
    (State.offerReport s number refused).watch = s.watch ∧ (State.offerReport s number refused).link = s.link ∧
    (State.offerReport s number refused).free = s.free := by
  unfold State.offerReport
  repeat' split
  all_goals simp

@[simp] theorem State.dropUnconfirmed_frame (s : State) (r : Record) (n : Option Byte) :
    (State.dropUnconfirmed s r n).pending = s.pending ∧ (State.dropUnconfirmed s r n).cell = s.cell ∧
    (State.dropUnconfirmed s r n).loaded = s.loaded ∧ (State.dropUnconfirmed s r n).seconds = s.seconds ∧
    (State.dropUnconfirmed s r n).secondsMs = s.secondsMs ∧ (State.dropUnconfirmed s r n).cfg = s.cfg ∧
    (State.dropUnconfirmed s r n).inputs = s.inputs ∧ (State.dropUnconfirmed s r n).tracker = s.tracker ∧
    (State.dropUnconfirmed s r n).tunnel = s.tunnel ∧ (State.dropUnconfirmed s r n).holds = s.holds ∧
    (State.dropUnconfirmed s r n).free = s.free := by simp [State.dropUnconfirmed]

@[simp] theorem State.postDecline_frame (s : State) (t : Telegram) (code : DeclineCode) :
    (State.postDecline s t code).pending = s.pending ∧ (State.postDecline s t code).cell = s.cell ∧
    (State.postDecline s t code).loaded = s.loaded ∧ (State.postDecline s t code).seconds = s.seconds ∧
    (State.postDecline s t code).secondsMs = s.secondsMs ∧ (State.postDecline s t code).cfg = s.cfg ∧
    (State.postDecline s t code).inputs = s.inputs ∧ (State.postDecline s t code).table = s.table ∧
    (State.postDecline s t code).tracker = s.tracker ∧ (State.postDecline s t code).store = s.store ∧
    (State.postDecline s t code).mask = s.mask ∧ (State.postDecline s t code).spray = s.spray ∧
    (State.postDecline s t code).supply = s.supply ∧ (State.postDecline s t code).tunnel = s.tunnel ∧
    (State.postDecline s t code).holds = s.holds ∧ (State.postDecline s t code).watch = s.watch := by simp [State.postDecline]

@[simp] theorem State.appendArrival_frame (s : State) (t : Telegram) :
    (State.appendArrival s t).pending = s.pending ∧ (State.appendArrival s t).cell = s.cell ∧
    (State.appendArrival s t).loaded = s.loaded ∧ (State.appendArrival s t).seconds = s.seconds ∧
    (State.appendArrival s t).secondsMs = s.secondsMs ∧ (State.appendArrival s t).cfg = s.cfg ∧
    (State.appendArrival s t).inputs = s.inputs ∧ (State.appendArrival s t).table = s.table ∧
    (State.appendArrival s t).store = s.store ∧ (State.appendArrival s t).mask = s.mask ∧
    (State.appendArrival s t).spray = s.spray ∧ (State.appendArrival s t).supply = s.supply ∧
    (State.appendArrival s t).tunnel = s.tunnel ∧ (State.appendArrival s t).holds = s.holds ∧
    (State.appendArrival s t).watch = s.watch ∧ (State.appendArrival s t).link = s.link ∧
    (State.appendArrival s t).free = s.free := by simp [State.appendArrival]

@[simp] theorem State.transferLost_frame (s : State) (e : ArrivalEntry) (cause : Byte) :
    (State.transferLost s e cause).pending = s.pending ∧ (State.transferLost s e cause).cell = s.cell ∧
    (State.transferLost s e cause).loaded = s.loaded ∧ (State.transferLost s e cause).seconds = s.seconds ∧
    (State.transferLost s e cause).secondsMs = s.secondsMs ∧ (State.transferLost s e cause).cfg = s.cfg ∧
    (State.transferLost s e cause).inputs = s.inputs ∧ (State.transferLost s e cause).table = s.table ∧
    (State.transferLost s e cause).tracker = s.tracker ∧ (State.transferLost s e cause).store = s.store ∧
    (State.transferLost s e cause).mask = s.mask ∧ (State.transferLost s e cause).spray = s.spray ∧
    (State.transferLost s e cause).supply = s.supply ∧ (State.transferLost s e cause).tunnel = s.tunnel ∧
    (State.transferLost s e cause).holds = s.holds ∧ (State.transferLost s e cause).watch = s.watch ∧
    (State.transferLost s e cause).free = s.free := by simp [State.transferLost]

@[simp] theorem State.completeMatch_frame (s : State) (e : ArrivalEntry) (others : List ArrivalEntry) (mismatch : Option Serial) :
    (State.completeMatch s e others mismatch).pending = s.pending ∧
    (State.completeMatch s e others mismatch).cell = s.cell ∧ (State.completeMatch s e others mismatch).loaded = s.loaded ∧
    (State.completeMatch s e others mismatch).seconds = s.seconds ∧
    (State.completeMatch s e others mismatch).secondsMs = s.secondsMs ∧
    (State.completeMatch s e others mismatch).cfg = s.cfg ∧ (State.completeMatch s e others mismatch).inputs = s.inputs ∧
    (State.completeMatch s e others mismatch).store = s.store ∧ (State.completeMatch s e others mismatch).mask = s.mask ∧
    (State.completeMatch s e others mismatch).spray = s.spray ∧
    (State.completeMatch s e others mismatch).supply = s.supply ∧
    (State.completeMatch s e others mismatch).tunnel = s.tunnel ∧
    (State.completeMatch s e others mismatch).holds = s.holds ∧ (State.completeMatch s e others mismatch).watch = s.watch ∧
    (State.completeMatch s e others mismatch).free = s.free := by simp [State.completeMatch]

@[simp] theorem State.matchEntry_frame (s : State) (outcome : ReadOutcome) :
    (State.matchEntry s outcome).pending = s.pending ∧ (State.matchEntry s outcome).cell = s.cell ∧
    (State.matchEntry s outcome).loaded = s.loaded ∧ (State.matchEntry s outcome).seconds = s.seconds ∧
    (State.matchEntry s outcome).secondsMs = s.secondsMs ∧ (State.matchEntry s outcome).cfg = s.cfg ∧
    (State.matchEntry s outcome).inputs = s.inputs ∧ (State.matchEntry s outcome).store = s.store ∧
    (State.matchEntry s outcome).mask = s.mask ∧ (State.matchEntry s outcome).spray = s.spray ∧
    (State.matchEntry s outcome).supply = s.supply ∧ (State.matchEntry s outcome).tunnel = s.tunnel ∧
    (State.matchEntry s outcome).holds = s.holds ∧ (State.matchEntry s outcome).watch = s.watch ∧
    (State.matchEntry s outcome).free = s.free := by
  unfold State.matchEntry
  repeat' split
  all_goals simp

@[simp] theorem State.endEntryRead_frame (s : State) (outcome : ReadOutcome) :
    (State.endEntryRead s outcome).pending = s.pending ∧ (State.endEntryRead s outcome).cell = s.cell ∧
    (State.endEntryRead s outcome).loaded = s.loaded ∧ (State.endEntryRead s outcome).seconds = s.seconds ∧
    (State.endEntryRead s outcome).secondsMs = s.secondsMs ∧ (State.endEntryRead s outcome).cfg = s.cfg ∧
    (State.endEntryRead s outcome).inputs = s.inputs ∧ (State.endEntryRead s outcome).store = s.store ∧
    (State.endEntryRead s outcome).mask = s.mask ∧ (State.endEntryRead s outcome).spray = s.spray ∧
    (State.endEntryRead s outcome).supply = s.supply ∧ (State.endEntryRead s outcome).tunnel = s.tunnel ∧
    (State.endEntryRead s outcome).holds = s.holds ∧ (State.endEntryRead s outcome).watch = s.watch ∧
    (State.endEntryRead s outcome).free = s.free := by
  unfold State.endEntryRead
  split <;> simp

@[simp] theorem State.orphanRecord_frame (s : State) (outcome : ReadOutcome) :
    (State.orphanRecord s outcome).pending = s.pending ∧ (State.orphanRecord s outcome).cell = s.cell ∧
    (State.orphanRecord s outcome).loaded = s.loaded ∧ (State.orphanRecord s outcome).seconds = s.seconds ∧
    (State.orphanRecord s outcome).secondsMs = s.secondsMs ∧ (State.orphanRecord s outcome).cfg = s.cfg ∧
    (State.orphanRecord s outcome).inputs = s.inputs ∧ (State.orphanRecord s outcome).store = s.store ∧
    (State.orphanRecord s outcome).mask = s.mask ∧ (State.orphanRecord s outcome).spray = s.spray ∧
    (State.orphanRecord s outcome).supply = s.supply ∧ (State.orphanRecord s outcome).tunnel = s.tunnel ∧
    (State.orphanRecord s outcome).holds = s.holds ∧ (State.orphanRecord s outcome).watch = s.watch ∧
    (State.orphanRecord s outcome).link = s.link ∧ (State.orphanRecord s outcome).free = s.free := by simp [State.orphanRecord]

@[simp] theorem State.takeOffer_frame (s : State) (t : Telegram) :
    (State.takeOffer s t).pending = s.pending ∧ (State.takeOffer s t).cell = s.cell ∧
    (State.takeOffer s t).loaded = s.loaded ∧ (State.takeOffer s t).seconds = s.seconds ∧
    (State.takeOffer s t).secondsMs = s.secondsMs ∧ (State.takeOffer s t).cfg = s.cfg ∧
    (State.takeOffer s t).inputs = s.inputs ∧ (State.takeOffer s t).store = s.store ∧ (State.takeOffer s t).mask = s.mask ∧
    (State.takeOffer s t).spray = s.spray ∧ (State.takeOffer s t).supply = s.supply ∧
    (State.takeOffer s t).tunnel = s.tunnel ∧ (State.takeOffer s t).holds = s.holds ∧ (State.takeOffer s t).watch = s.watch := by
  unfold State.takeOffer
  dsimp only
  repeat' split
  all_goals simp

@[simp] theorem State.expireArrival_frame (s : State) (i : Fin 2) :
    (State.expireArrival s i).pending = s.pending ∧ (State.expireArrival s i).cell = s.cell ∧
    (State.expireArrival s i).loaded = s.loaded ∧ (State.expireArrival s i).seconds = s.seconds ∧
    (State.expireArrival s i).secondsMs = s.secondsMs ∧ (State.expireArrival s i).cfg = s.cfg ∧
    (State.expireArrival s i).inputs = s.inputs ∧ (State.expireArrival s i).table = s.table ∧
    (State.expireArrival s i).store = s.store ∧ (State.expireArrival s i).mask = s.mask ∧
    (State.expireArrival s i).spray = s.spray ∧ (State.expireArrival s i).supply = s.supply ∧
    (State.expireArrival s i).tunnel = s.tunnel ∧ (State.expireArrival s i).holds = s.holds ∧
    (State.expireArrival s i).watch = s.watch ∧ (State.expireArrival s i).free = s.free := by
  unfold State.expireArrival
  split <;> simp

@[simp] theorem State.receivedReport_frame (s : State) (e : OutEntry) (refused : Bool) :
    (State.receivedReport s e refused).pending = s.pending ∧ (State.receivedReport s e refused).cell = s.cell ∧
    (State.receivedReport s e refused).loaded = s.loaded ∧ (State.receivedReport s e refused).seconds = s.seconds ∧
    (State.receivedReport s e refused).secondsMs = s.secondsMs ∧ (State.receivedReport s e refused).cfg = s.cfg ∧
    (State.receivedReport s e refused).inputs = s.inputs ∧ (State.receivedReport s e refused).table = s.table ∧
    (State.receivedReport s e refused).store = s.store ∧ (State.receivedReport s e refused).mask = s.mask ∧
    (State.receivedReport s e refused).spray = s.spray ∧ (State.receivedReport s e refused).supply = s.supply ∧
    (State.receivedReport s e refused).tunnel = s.tunnel ∧ (State.receivedReport s e refused).holds = s.holds ∧
    (State.receivedReport s e refused).watch = s.watch ∧ (State.receivedReport s e refused).link = s.link ∧
    (State.receivedReport s e refused).free = s.free := by
  unfold State.receivedReport
  split <;> simp

@[simp] theorem State.repost_frame (s : State) :
    (State.repost s).pending = s.pending ∧ (State.repost s).cell = s.cell ∧ (State.repost s).loaded = s.loaded ∧
    (State.repost s).seconds = s.seconds ∧ (State.repost s).secondsMs = s.secondsMs ∧ (State.repost s).cfg = s.cfg ∧
    (State.repost s).inputs = s.inputs ∧ (State.repost s).table = s.table ∧ (State.repost s).store = s.store ∧
    (State.repost s).mask = s.mask ∧ (State.repost s).spray = s.spray ∧ (State.repost s).supply = s.supply ∧
    (State.repost s).tunnel = s.tunnel ∧ (State.repost s).holds = s.holds ∧ (State.repost s).watch = s.watch ∧
    (State.repost s).free = s.free := by
  unfold State.repost
  split <;> simp

/-! ## RecipeStore.lean -/

@[simp] theorem State.recipeAnswer_frame (s : State) (dst slot : Byte) (code : RecipeCode) (more : List Byte) :
    (State.recipeAnswer s dst slot code more).pending = s.pending ∧
    (State.recipeAnswer s dst slot code more).cell = s.cell ∧ (State.recipeAnswer s dst slot code more).loaded = s.loaded ∧
    (State.recipeAnswer s dst slot code more).seconds = s.seconds ∧
    (State.recipeAnswer s dst slot code more).secondsMs = s.secondsMs ∧
    (State.recipeAnswer s dst slot code more).cfg = s.cfg ∧ (State.recipeAnswer s dst slot code more).inputs = s.inputs ∧
    (State.recipeAnswer s dst slot code more).table = s.table ∧
    (State.recipeAnswer s dst slot code more).tracker = s.tracker ∧
    (State.recipeAnswer s dst slot code more).store = s.store ∧ (State.recipeAnswer s dst slot code more).mask = s.mask ∧
    (State.recipeAnswer s dst slot code more).spray = s.spray ∧
    (State.recipeAnswer s dst slot code more).supply = s.supply ∧
    (State.recipeAnswer s dst slot code more).tunnel = s.tunnel ∧
    (State.recipeAnswer s dst slot code more).holds = s.holds ∧ (State.recipeAnswer s dst slot code more).watch = s.watch ∧
    (State.recipeAnswer s dst slot code more).free = s.free := by simp [State.recipeAnswer]

@[simp] theorem State.commit_frame (s : State) (dst : Byte) (slot : Fin 8) (im : List Byte) :
    (State.commit s dst slot im).pending = s.pending ∧ (State.commit s dst slot im).cell = s.cell ∧
    (State.commit s dst slot im).loaded = s.loaded ∧ (State.commit s dst slot im).seconds = s.seconds ∧
    (State.commit s dst slot im).secondsMs = s.secondsMs ∧ (State.commit s dst slot im).cfg = s.cfg ∧
    (State.commit s dst slot im).inputs = s.inputs ∧ (State.commit s dst slot im).table = s.table ∧
    (State.commit s dst slot im).tracker = s.tracker ∧ (State.commit s dst slot im).mask = s.mask ∧
    (State.commit s dst slot im).spray = s.spray ∧ (State.commit s dst slot im).supply = s.supply ∧
    (State.commit s dst slot im).tunnel = s.tunnel ∧ (State.commit s dst slot im).holds = s.holds ∧
    (State.commit s dst slot im).watch = s.watch ∧ (State.commit s dst slot im).free = s.free := by
  unfold State.commit
  repeat' split
  all_goals simp

@[simp] theorem State.setAssembler_frame (s : State) (a : Assembler) :
    (State.setAssembler s a).pending = s.pending ∧ (State.setAssembler s a).cell = s.cell ∧
    (State.setAssembler s a).loaded = s.loaded ∧ (State.setAssembler s a).seconds = s.seconds ∧
    (State.setAssembler s a).secondsMs = s.secondsMs ∧ (State.setAssembler s a).cfg = s.cfg ∧
    (State.setAssembler s a).inputs = s.inputs ∧ (State.setAssembler s a).table = s.table ∧
    (State.setAssembler s a).tracker = s.tracker ∧ (State.setAssembler s a).mask = s.mask ∧
    (State.setAssembler s a).spray = s.spray ∧ (State.setAssembler s a).supply = s.supply ∧
    (State.setAssembler s a).tunnel = s.tunnel ∧ (State.setAssembler s a).holds = s.holds ∧
    (State.setAssembler s a).watch = s.watch ∧ (State.setAssembler s a).link = s.link ∧
    (State.setAssembler s a).free = s.free := by simp [State.setAssembler]

@[simp] theorem State.breakAssembly_frame (s : State) :
    (State.breakAssembly s).pending = s.pending ∧ (State.breakAssembly s).cell = s.cell ∧
    (State.breakAssembly s).loaded = s.loaded ∧ (State.breakAssembly s).seconds = s.seconds ∧
    (State.breakAssembly s).secondsMs = s.secondsMs ∧ (State.breakAssembly s).cfg = s.cfg ∧
    (State.breakAssembly s).inputs = s.inputs ∧ (State.breakAssembly s).table = s.table ∧
    (State.breakAssembly s).tracker = s.tracker ∧ (State.breakAssembly s).mask = s.mask ∧
    (State.breakAssembly s).spray = s.spray ∧ (State.breakAssembly s).supply = s.supply ∧
    (State.breakAssembly s).tunnel = s.tunnel ∧ (State.breakAssembly s).holds = s.holds ∧
    (State.breakAssembly s).watch = s.watch ∧ (State.breakAssembly s).free = s.free := by simp [State.breakAssembly]

@[simp] theorem State.takeData_frame (s : State) (dst : Byte) (slot : Fin 8) (n : Nat) (last : Bool) (data : List Byte) :
    (State.takeData s dst slot n last data).pending = s.pending ∧ (State.takeData s dst slot n last data).cell = s.cell ∧
    (State.takeData s dst slot n last data).loaded = s.loaded ∧
    (State.takeData s dst slot n last data).seconds = s.seconds ∧
    (State.takeData s dst slot n last data).secondsMs = s.secondsMs ∧ (State.takeData s dst slot n last data).cfg = s.cfg ∧
    (State.takeData s dst slot n last data).inputs = s.inputs ∧ (State.takeData s dst slot n last data).table = s.table ∧
    (State.takeData s dst slot n last data).tracker = s.tracker ∧ (State.takeData s dst slot n last data).mask = s.mask ∧
    (State.takeData s dst slot n last data).spray = s.spray ∧ (State.takeData s dst slot n last data).supply = s.supply ∧
    (State.takeData s dst slot n last data).tunnel = s.tunnel ∧ (State.takeData s dst slot n last data).holds = s.holds ∧
    (State.takeData s dst slot n last data).watch = s.watch ∧ (State.takeData s dst slot n last data).free = s.free := by
  unfold State.takeData
  repeat' split
  all_goals simp

@[simp] theorem State.takeFragment_frame (s : State) (dst : Byte) (slot : Fin 8) (n : Nat) (last : Bool) (data : List Byte) :
    (State.takeFragment s dst slot n last data).pending = s.pending ∧
    (State.takeFragment s dst slot n last data).cell = s.cell ∧
    (State.takeFragment s dst slot n last data).loaded = s.loaded ∧
    (State.takeFragment s dst slot n last data).seconds = s.seconds ∧
    (State.takeFragment s dst slot n last data).secondsMs = s.secondsMs ∧
    (State.takeFragment s dst slot n last data).cfg = s.cfg ∧
    (State.takeFragment s dst slot n last data).inputs = s.inputs ∧
    (State.takeFragment s dst slot n last data).table = s.table ∧
    (State.takeFragment s dst slot n last data).tracker = s.tracker ∧
    (State.takeFragment s dst slot n last data).mask = s.mask ∧
    (State.takeFragment s dst slot n last data).spray = s.spray ∧
    (State.takeFragment s dst slot n last data).supply = s.supply ∧
    (State.takeFragment s dst slot n last data).tunnel = s.tunnel ∧
    (State.takeFragment s dst slot n last data).holds = s.holds ∧
    (State.takeFragment s dst slot n last data).watch = s.watch ∧ (State.takeFragment s dst slot n last data).free = s.free := by
  unfold State.takeFragment
  repeat' split
  all_goals simp

@[simp] theorem State.takeRecipePart_frame (s : State) (t : Telegram) :
    (State.takeRecipePart s t).pending = s.pending ∧ (State.takeRecipePart s t).cell = s.cell ∧
    (State.takeRecipePart s t).loaded = s.loaded ∧ (State.takeRecipePart s t).seconds = s.seconds ∧
    (State.takeRecipePart s t).secondsMs = s.secondsMs ∧ (State.takeRecipePart s t).cfg = s.cfg ∧
    (State.takeRecipePart s t).inputs = s.inputs ∧ (State.takeRecipePart s t).table = s.table ∧
    (State.takeRecipePart s t).tracker = s.tracker ∧ (State.takeRecipePart s t).mask = s.mask ∧
    (State.takeRecipePart s t).spray = s.spray ∧ (State.takeRecipePart s t).supply = s.supply ∧
    (State.takeRecipePart s t).tunnel = s.tunnel ∧ (State.takeRecipePart s t).holds = s.holds ∧
    (State.takeRecipePart s t).watch = s.watch := by
  unfold State.takeRecipePart
  dsimp only
  repeat' split
  all_goals simp

@[simp] theorem State.takeActivate_frame (s : State) (t : Telegram) :
    (State.takeActivate s t).pending = s.pending ∧ (State.takeActivate s t).cell = s.cell ∧
    (State.takeActivate s t).loaded = s.loaded ∧ (State.takeActivate s t).seconds = s.seconds ∧
    (State.takeActivate s t).secondsMs = s.secondsMs ∧ (State.takeActivate s t).cfg = s.cfg ∧
    (State.takeActivate s t).inputs = s.inputs ∧ (State.takeActivate s t).table = s.table ∧
    (State.takeActivate s t).tracker = s.tracker ∧ (State.takeActivate s t).mask = s.mask ∧
    (State.takeActivate s t).spray = s.spray ∧ (State.takeActivate s t).supply = s.supply ∧
    (State.takeActivate s t).tunnel = s.tunnel ∧ (State.takeActivate s t).holds = s.holds ∧
    (State.takeActivate s t).watch = s.watch ∧ (State.takeActivate s t).free = s.free := by
  unfold State.takeActivate
  dsimp only
  repeat' split
  all_goals simp

@[simp] theorem State.takeDrop_frame (s : State) (t : Telegram) :
    (State.takeDrop s t).pending = s.pending ∧ (State.takeDrop s t).cell = s.cell ∧ (State.takeDrop s t).loaded = s.loaded ∧
    (State.takeDrop s t).seconds = s.seconds ∧ (State.takeDrop s t).secondsMs = s.secondsMs ∧
    (State.takeDrop s t).cfg = s.cfg ∧ (State.takeDrop s t).inputs = s.inputs ∧ (State.takeDrop s t).table = s.table ∧
    (State.takeDrop s t).tracker = s.tracker ∧ (State.takeDrop s t).mask = s.mask ∧ (State.takeDrop s t).spray = s.spray ∧
    (State.takeDrop s t).supply = s.supply ∧ (State.takeDrop s t).tunnel = s.tunnel ∧ (State.takeDrop s t).holds = s.holds ∧
    (State.takeDrop s t).watch = s.watch ∧ (State.takeDrop s t).free = s.free := by
  unfold State.takeDrop
  dsimp only
  repeat' split
  all_goals simp

/-! ## MaskCheck.lean -/

@[simp] theorem State.setCandidate_frame (s : State) (r : Record) :
    (State.setCandidate s r).pending = s.pending ∧ (State.setCandidate s r).cell = s.cell ∧
    (State.setCandidate s r).loaded = s.loaded ∧ (State.setCandidate s r).seconds = s.seconds ∧
    (State.setCandidate s r).secondsMs = s.secondsMs ∧ (State.setCandidate s r).cfg = s.cfg ∧
    (State.setCandidate s r).inputs = s.inputs ∧ (State.setCandidate s r).tracker = s.tracker ∧
    (State.setCandidate s r).store = s.store ∧ (State.setCandidate s r).mask = s.mask ∧
    (State.setCandidate s r).spray = s.spray ∧ (State.setCandidate s r).supply = s.supply ∧
    (State.setCandidate s r).tunnel = s.tunnel ∧ (State.setCandidate s r).holds = s.holds ∧
    (State.setCandidate s r).watch = s.watch ∧ (State.setCandidate s r).link = s.link ∧
    (State.setCandidate s r).free = s.free := by
  unfold State.setCandidate
  split <;> simp

@[simp] theorem State.closeWith_frame (s : State) (f : Record → Record) :
    (State.closeWith s f).pending = s.pending ∧ (State.closeWith s f).cell = s.cell ∧
    (State.closeWith s f).loaded = s.loaded ∧ (State.closeWith s f).seconds = s.seconds ∧
    (State.closeWith s f).secondsMs = s.secondsMs ∧ (State.closeWith s f).cfg = s.cfg ∧
    (State.closeWith s f).inputs = s.inputs ∧ (State.closeWith s f).tracker = s.tracker ∧
    (State.closeWith s f).store = s.store ∧ (State.closeWith s f).spray = s.spray ∧
    (State.closeWith s f).supply = s.supply ∧ (State.closeWith s f).tunnel = s.tunnel ∧
    (State.closeWith s f).holds = s.holds ∧ (State.closeWith s f).watch = s.watch ∧ (State.closeWith s f).link = s.link ∧
    (State.closeWith s f).free = s.free := by
  unfold State.closeWith
  split <;> simp

@[simp] theorem State.sampleZones_frame (s : State) (x : Int) (seen : Bool) :
    (State.sampleZones s x seen).pending = s.pending ∧ (State.sampleZones s x seen).cell = s.cell ∧
    (State.sampleZones s x seen).loaded = s.loaded ∧ (State.sampleZones s x seen).seconds = s.seconds ∧
    (State.sampleZones s x seen).secondsMs = s.secondsMs ∧ (State.sampleZones s x seen).cfg = s.cfg ∧
    (State.sampleZones s x seen).inputs = s.inputs ∧ (State.sampleZones s x seen).tracker = s.tracker ∧
    (State.sampleZones s x seen).store = s.store ∧ (State.sampleZones s x seen).spray = s.spray ∧
    (State.sampleZones s x seen).supply = s.supply ∧ (State.sampleZones s x seen).tunnel = s.tunnel ∧
    (State.sampleZones s x seen).holds = s.holds ∧ (State.sampleZones s x seen).watch = s.watch ∧
    (State.sampleZones s x seen).link = s.link ∧ (State.sampleZones s x seen).free = s.free := by
  unfold State.sampleZones
  split <;> simp

@[simp] theorem State.classify_frame (s : State) :
    (State.classify s).pending = s.pending ∧ (State.classify s).cell = s.cell ∧ (State.classify s).loaded = s.loaded ∧
    (State.classify s).seconds = s.seconds ∧ (State.classify s).secondsMs = s.secondsMs ∧ (State.classify s).cfg = s.cfg ∧
    (State.classify s).inputs = s.inputs ∧ (State.classify s).tracker = s.tracker ∧ (State.classify s).store = s.store ∧
    (State.classify s).spray = s.spray ∧ (State.classify s).supply = s.supply ∧ (State.classify s).tunnel = s.tunnel ∧
    (State.classify s).holds = s.holds ∧ (State.classify s).watch = s.watch ∧ (State.classify s).link = s.link ∧
    (State.classify s).free = s.free := by
  unfold State.classify
  split <;> simp

@[simp] theorem State.openMeasurement_frame (s : State) :
    (State.openMeasurement s).pending = s.pending ∧ (State.openMeasurement s).cell = s.cell ∧
    (State.openMeasurement s).loaded = s.loaded ∧ (State.openMeasurement s).seconds = s.seconds ∧
    (State.openMeasurement s).secondsMs = s.secondsMs ∧ (State.openMeasurement s).cfg = s.cfg ∧
    (State.openMeasurement s).inputs = s.inputs ∧ (State.openMeasurement s).tracker = s.tracker ∧
    (State.openMeasurement s).store = s.store ∧ (State.openMeasurement s).spray = s.spray ∧
    (State.openMeasurement s).supply = s.supply ∧ (State.openMeasurement s).tunnel = s.tunnel ∧
    (State.openMeasurement s).holds = s.holds ∧ (State.openMeasurement s).watch = s.watch ∧
    (State.openMeasurement s).link = s.link ∧ (State.openMeasurement s).free = s.free := by simp [State.openMeasurement]

@[simp] theorem State.countOutside_frame (s : State) (datum : Bool) :
    (State.countOutside s datum).pending = s.pending ∧ (State.countOutside s datum).cell = s.cell ∧
    (State.countOutside s datum).loaded = s.loaded ∧ (State.countOutside s datum).seconds = s.seconds ∧
    (State.countOutside s datum).secondsMs = s.secondsMs ∧ (State.countOutside s datum).cfg = s.cfg ∧
    (State.countOutside s datum).inputs = s.inputs ∧ (State.countOutside s datum).tracker = s.tracker ∧
    (State.countOutside s datum).store = s.store ∧ (State.countOutside s datum).spray = s.spray ∧
    (State.countOutside s datum).supply = s.supply ∧ (State.countOutside s datum).tunnel = s.tunnel ∧
    (State.countOutside s datum).holds = s.holds ∧ (State.countOutside s datum).watch = s.watch ∧
    (State.countOutside s datum).link = s.link ∧ (State.countOutside s datum).free = s.free := by
  unfold State.countOutside
  dsimp only
  split <;> simp

@[simp] theorem State.trailingEdge_frame (s : State) (x : Int) :
    (State.trailingEdge s x).pending = s.pending ∧ (State.trailingEdge s x).cell = s.cell ∧
    (State.trailingEdge s x).loaded = s.loaded ∧ (State.trailingEdge s x).seconds = s.seconds ∧
    (State.trailingEdge s x).secondsMs = s.secondsMs ∧ (State.trailingEdge s x).cfg = s.cfg ∧
    (State.trailingEdge s x).inputs = s.inputs ∧ (State.trailingEdge s x).tracker = s.tracker ∧
    (State.trailingEdge s x).store = s.store ∧ (State.trailingEdge s x).spray = s.spray ∧
    (State.trailingEdge s x).supply = s.supply ∧ (State.trailingEdge s x).tunnel = s.tunnel ∧
    (State.trailingEdge s x).holds = s.holds ∧ (State.trailingEdge s x).watch = s.watch ∧
    (State.trailingEdge s x).link = s.link ∧ (State.trailingEdge s x).free = s.free := by simp [State.trailingEdge]

@[simp] theorem State.countForward_frame (s : State) (datum : Bool) :
    (State.countForward s datum).pending = s.pending ∧ (State.countForward s datum).cell = s.cell ∧
    (State.countForward s datum).loaded = s.loaded ∧ (State.countForward s datum).seconds = s.seconds ∧
    (State.countForward s datum).secondsMs = s.secondsMs ∧ (State.countForward s datum).cfg = s.cfg ∧
    (State.countForward s datum).inputs = s.inputs ∧ (State.countForward s datum).tracker = s.tracker ∧
    (State.countForward s datum).store = s.store ∧ (State.countForward s datum).spray = s.spray ∧
    (State.countForward s datum).supply = s.supply ∧ (State.countForward s datum).tunnel = s.tunnel ∧
    (State.countForward s datum).holds = s.holds ∧ (State.countForward s datum).watch = s.watch ∧
    (State.countForward s datum).link = s.link ∧ (State.countForward s datum).free = s.free := by
  unfold State.countForward
  dsimp only
  repeat' split
  all_goals simp

@[simp] theorem State.countReverse_frame (s : State) :
    (State.countReverse s).pending = s.pending ∧ (State.countReverse s).cell = s.cell ∧
    (State.countReverse s).loaded = s.loaded ∧ (State.countReverse s).seconds = s.seconds ∧
    (State.countReverse s).secondsMs = s.secondsMs ∧ (State.countReverse s).cfg = s.cfg ∧
    (State.countReverse s).inputs = s.inputs ∧ (State.countReverse s).tracker = s.tracker ∧
    (State.countReverse s).store = s.store ∧ (State.countReverse s).spray = s.spray ∧
    (State.countReverse s).supply = s.supply ∧ (State.countReverse s).tunnel = s.tunnel ∧
    (State.countReverse s).holds = s.holds ∧ (State.countReverse s).watch = s.watch ∧ (State.countReverse s).link = s.link ∧
    (State.countReverse s).free = s.free := by
  unfold State.countReverse
  dsimp only
  split <;> simp

@[simp] theorem State.transportCount_frame (s : State) (dir : Direction) (datum : Bool) :
    (State.transportCount s dir datum).pending = s.pending ∧ (State.transportCount s dir datum).cell = s.cell ∧
    (State.transportCount s dir datum).loaded = s.loaded ∧ (State.transportCount s dir datum).seconds = s.seconds ∧
    (State.transportCount s dir datum).secondsMs = s.secondsMs ∧ (State.transportCount s dir datum).cfg = s.cfg ∧
    (State.transportCount s dir datum).inputs = s.inputs ∧ (State.transportCount s dir datum).tracker = s.tracker ∧
    (State.transportCount s dir datum).store = s.store ∧ (State.transportCount s dir datum).spray = s.spray ∧
    (State.transportCount s dir datum).supply = s.supply ∧ (State.transportCount s dir datum).tunnel = s.tunnel ∧
    (State.transportCount s dir datum).holds = s.holds ∧ (State.transportCount s dir datum).watch = s.watch ∧
    (State.transportCount s dir datum).link = s.link ∧ (State.transportCount s dir datum).free = s.free := by
  unfold State.transportCount
  split <;> simp

/-! ## Spray.lean -/

@[simp] theorem State.atSpray_frame (s : State) (f : Record → Record) :
    (State.atSpray s f).pending = s.pending ∧ (State.atSpray s f).cell = s.cell ∧ (State.atSpray s f).loaded = s.loaded ∧
    (State.atSpray s f).seconds = s.seconds ∧ (State.atSpray s f).secondsMs = s.secondsMs ∧
    (State.atSpray s f).cfg = s.cfg ∧ (State.atSpray s f).inputs = s.inputs ∧ (State.atSpray s f).tracker = s.tracker ∧
    (State.atSpray s f).store = s.store ∧ (State.atSpray s f).mask = s.mask ∧ (State.atSpray s f).supply = s.supply ∧
    (State.atSpray s f).tunnel = s.tunnel ∧ (State.atSpray s f).holds = s.holds ∧ (State.atSpray s f).watch = s.watch ∧
    (State.atSpray s f).link = s.link ∧ (State.atSpray s f).free = s.free := by simp [State.atSpray]

@[simp] theorem State.endBoardClaim_frame (s : State) :
    (State.endBoardClaim s).pending = s.pending ∧ (State.endBoardClaim s).cell = s.cell ∧
    (State.endBoardClaim s).loaded = s.loaded ∧ (State.endBoardClaim s).seconds = s.seconds ∧
    (State.endBoardClaim s).secondsMs = s.secondsMs ∧ (State.endBoardClaim s).cfg = s.cfg ∧
    (State.endBoardClaim s).inputs = s.inputs ∧ (State.endBoardClaim s).table = s.table ∧
    (State.endBoardClaim s).tracker = s.tracker ∧ (State.endBoardClaim s).store = s.store ∧
    (State.endBoardClaim s).mask = s.mask ∧ (State.endBoardClaim s).spray = s.spray ∧
    (State.endBoardClaim s).tunnel = s.tunnel ∧ (State.endBoardClaim s).holds = s.holds ∧
    (State.endBoardClaim s).watch = s.watch ∧ (State.endBoardClaim s).free = s.free := by
  unfold State.endBoardClaim
  split <;> simp

@[simp] theorem State.endPurgeClaim_frame (s : State) :
    (State.endPurgeClaim s).pending = s.pending ∧ (State.endPurgeClaim s).cell = s.cell ∧
    (State.endPurgeClaim s).loaded = s.loaded ∧ (State.endPurgeClaim s).seconds = s.seconds ∧
    (State.endPurgeClaim s).secondsMs = s.secondsMs ∧ (State.endPurgeClaim s).cfg = s.cfg ∧
    (State.endPurgeClaim s).inputs = s.inputs ∧ (State.endPurgeClaim s).table = s.table ∧
    (State.endPurgeClaim s).tracker = s.tracker ∧ (State.endPurgeClaim s).store = s.store ∧
    (State.endPurgeClaim s).mask = s.mask ∧ (State.endPurgeClaim s).spray = s.spray ∧
    (State.endPurgeClaim s).tunnel = s.tunnel ∧ (State.endPurgeClaim s).holds = s.holds ∧
    (State.endPurgeClaim s).watch = s.watch ∧ (State.endPurgeClaim s).free = s.free := by
  unfold State.endPurgeClaim
  split <;> simp

@[simp] theorem State.conflictNotice_frame (s : State) (r : Record) (rc : Recipe) (k : Option Conflict) :
    (State.conflictNotice s r rc k).pending = s.pending ∧ (State.conflictNotice s r rc k).cell = s.cell ∧
    (State.conflictNotice s r rc k).loaded = s.loaded ∧ (State.conflictNotice s r rc k).seconds = s.seconds ∧
    (State.conflictNotice s r rc k).secondsMs = s.secondsMs ∧ (State.conflictNotice s r rc k).cfg = s.cfg ∧
    (State.conflictNotice s r rc k).inputs = s.inputs ∧ (State.conflictNotice s r rc k).table = s.table ∧
    (State.conflictNotice s r rc k).tracker = s.tracker ∧ (State.conflictNotice s r rc k).store = s.store ∧
    (State.conflictNotice s r rc k).mask = s.mask ∧ (State.conflictNotice s r rc k).spray = s.spray ∧
    (State.conflictNotice s r rc k).supply = s.supply ∧ (State.conflictNotice s r rc k).tunnel = s.tunnel ∧
    (State.conflictNotice s r rc k).holds = s.holds ∧ (State.conflictNotice s r rc k).watch = s.watch ∧
    (State.conflictNotice s r rc k).free = s.free := by
  unfold State.conflictNotice
  split <;> simp

@[simp] theorem State.startWaiting_frame (s : State) (r : Record) (rc : Recipe) :
    (State.startWaiting s r rc).pending = s.pending ∧ (State.startWaiting s r rc).cell = s.cell ∧
    (State.startWaiting s r rc).loaded = s.loaded ∧ (State.startWaiting s r rc).seconds = s.seconds ∧
    (State.startWaiting s r rc).secondsMs = s.secondsMs ∧ (State.startWaiting s r rc).cfg = s.cfg ∧
    (State.startWaiting s r rc).inputs = s.inputs ∧ (State.startWaiting s r rc).tracker = s.tracker ∧
    (State.startWaiting s r rc).store = s.store ∧ (State.startWaiting s r rc).mask = s.mask ∧
    (State.startWaiting s r rc).supply = s.supply ∧ (State.startWaiting s r rc).tunnel = s.tunnel ∧
    (State.startWaiting s r rc).holds = s.holds ∧ (State.startWaiting s r rc).free = s.free := by
  unfold State.startWaiting
  dsimp only
  split <;> simp

@[simp] theorem State.sprayDecision_frame (s : State) :
    (State.sprayDecision s).pending = s.pending ∧ (State.sprayDecision s).cell = s.cell ∧
    (State.sprayDecision s).loaded = s.loaded ∧ (State.sprayDecision s).seconds = s.seconds ∧
    (State.sprayDecision s).secondsMs = s.secondsMs ∧ (State.sprayDecision s).cfg = s.cfg ∧
    (State.sprayDecision s).inputs = s.inputs ∧ (State.sprayDecision s).tracker = s.tracker ∧
    (State.sprayDecision s).store = s.store ∧ (State.sprayDecision s).mask = s.mask ∧
    (State.sprayDecision s).supply = s.supply ∧ (State.sprayDecision s).tunnel = s.tunnel ∧
    (State.sprayDecision s).holds = s.holds ∧ (State.sprayDecision s).free = s.free := by
  unfold State.sprayDecision
  repeat' split
  all_goals simp

@[simp] theorem State.tryBoardClaim_frame (s : State) :
    (State.tryBoardClaim s).pending = s.pending ∧ (State.tryBoardClaim s).cell = s.cell ∧
    (State.tryBoardClaim s).loaded = s.loaded ∧ (State.tryBoardClaim s).seconds = s.seconds ∧
    (State.tryBoardClaim s).secondsMs = s.secondsMs ∧ (State.tryBoardClaim s).cfg = s.cfg ∧
    (State.tryBoardClaim s).inputs = s.inputs ∧ (State.tryBoardClaim s).table = s.table ∧
    (State.tryBoardClaim s).tracker = s.tracker ∧ (State.tryBoardClaim s).store = s.store ∧
    (State.tryBoardClaim s).mask = s.mask ∧ (State.tryBoardClaim s).spray = s.spray ∧
    (State.tryBoardClaim s).tunnel = s.tunnel ∧ (State.tryBoardClaim s).holds = s.holds ∧
    (State.tryBoardClaim s).watch = s.watch ∧ (State.tryBoardClaim s).free = s.free := by
  unfold State.tryBoardClaim
  split <;> simp

@[simp] theorem State.finishSpray_frame (s : State) (f : Record → Record) (e : Option (Nat × Nat)) :
    (State.finishSpray s f e).pending = s.pending ∧ (State.finishSpray s f e).cell = s.cell ∧
    (State.finishSpray s f e).loaded = s.loaded ∧ (State.finishSpray s f e).seconds = s.seconds ∧
    (State.finishSpray s f e).secondsMs = s.secondsMs ∧ (State.finishSpray s f e).cfg = s.cfg ∧
    (State.finishSpray s f e).inputs = s.inputs ∧ (State.finishSpray s f e).tracker = s.tracker ∧
    (State.finishSpray s f e).store = s.store ∧ (State.finishSpray s f e).mask = s.mask ∧
    (State.finishSpray s f e).supply = s.supply ∧ (State.finishSpray s f e).tunnel = s.tunnel ∧
    (State.finishSpray s f e).holds = s.holds ∧ (State.finishSpray s f e).free = s.free := by
  unfold State.finishSpray
  repeat' split
  all_goals simp

@[simp] theorem State.passEnd_frame (s : State) :
    (State.passEnd s).pending = s.pending ∧ (State.passEnd s).cell = s.cell ∧ (State.passEnd s).loaded = s.loaded ∧
    (State.passEnd s).seconds = s.seconds ∧ (State.passEnd s).secondsMs = s.secondsMs ∧ (State.passEnd s).cfg = s.cfg ∧
    (State.passEnd s).inputs = s.inputs ∧ (State.passEnd s).tracker = s.tracker ∧ (State.passEnd s).store = s.store ∧
    (State.passEnd s).mask = s.mask ∧ (State.passEnd s).supply = s.supply ∧ (State.passEnd s).tunnel = s.tunnel ∧
    (State.passEnd s).holds = s.holds ∧ (State.passEnd s).free = s.free := by simp [State.passEnd]

@[simp] theorem State.abortPass_frame (s : State) :
    (State.abortPass s).pending = s.pending ∧ (State.abortPass s).cell = s.cell ∧ (State.abortPass s).loaded = s.loaded ∧
    (State.abortPass s).seconds = s.seconds ∧ (State.abortPass s).secondsMs = s.secondsMs ∧
    (State.abortPass s).cfg = s.cfg ∧ (State.abortPass s).inputs = s.inputs ∧ (State.abortPass s).tracker = s.tracker ∧
    (State.abortPass s).store = s.store ∧ (State.abortPass s).mask = s.mask ∧ (State.abortPass s).tunnel = s.tunnel ∧
    (State.abortPass s).holds = s.holds ∧ (State.abortPass s).free = s.free := by simp [State.abortPass]

@[simp] theorem State.requestAbort_frame (s : State) :
    (State.requestAbort s).pending = s.pending ∧ (State.requestAbort s).cell = s.cell ∧
    (State.requestAbort s).loaded = s.loaded ∧ (State.requestAbort s).seconds = s.seconds ∧
    (State.requestAbort s).secondsMs = s.secondsMs ∧ (State.requestAbort s).cfg = s.cfg ∧
    (State.requestAbort s).inputs = s.inputs ∧ (State.requestAbort s).table = s.table ∧
    (State.requestAbort s).tracker = s.tracker ∧ (State.requestAbort s).store = s.store ∧
    (State.requestAbort s).mask = s.mask ∧ (State.requestAbort s).supply = s.supply ∧
    (State.requestAbort s).tunnel = s.tunnel ∧ (State.requestAbort s).holds = s.holds ∧
    (State.requestAbort s).watch = s.watch ∧ (State.requestAbort s).link = s.link ∧ (State.requestAbort s).free = s.free := by
  unfold State.requestAbort
  split <;> simp

@[simp] theorem State.startPass_frame (s : State) :
    (State.startPass s).pending = s.pending ∧ (State.startPass s).cell = s.cell ∧ (State.startPass s).loaded = s.loaded ∧
    (State.startPass s).seconds = s.seconds ∧ (State.startPass s).secondsMs = s.secondsMs ∧
    (State.startPass s).cfg = s.cfg ∧ (State.startPass s).inputs = s.inputs ∧ (State.startPass s).store = s.store ∧
    (State.startPass s).mask = s.mask ∧ (State.startPass s).supply = s.supply ∧ (State.startPass s).tunnel = s.tunnel ∧
    (State.startPass s).holds = s.holds ∧ (State.startPass s).watch = s.watch ∧ (State.startPass s).link = s.link ∧
    (State.startPass s).free = s.free := by simp [State.startPass]

@[simp] theorem State.tryPass_frame (s : State) :
    (State.tryPass s).pending = s.pending ∧ (State.tryPass s).cell = s.cell ∧ (State.tryPass s).loaded = s.loaded ∧
    (State.tryPass s).seconds = s.seconds ∧ (State.tryPass s).secondsMs = s.secondsMs ∧ (State.tryPass s).cfg = s.cfg ∧
    (State.tryPass s).inputs = s.inputs ∧ (State.tryPass s).store = s.store ∧ (State.tryPass s).mask = s.mask ∧
    (State.tryPass s).supply = s.supply ∧ (State.tryPass s).tunnel = s.tunnel ∧ (State.tryPass s).holds = s.holds ∧
    (State.tryPass s).free = s.free := by
  unfold State.tryPass
  repeat' split
  all_goals simp

@[simp] theorem State.reportDots_frame (s : State) (n : Nat) :
    (State.reportDots s n).pending = s.pending ∧ (State.reportDots s n).cell = s.cell ∧
    (State.reportDots s n).loaded = s.loaded ∧ (State.reportDots s n).seconds = s.seconds ∧
    (State.reportDots s n).secondsMs = s.secondsMs ∧ (State.reportDots s n).cfg = s.cfg ∧
    (State.reportDots s n).inputs = s.inputs ∧ (State.reportDots s n).table = s.table ∧
    (State.reportDots s n).tracker = s.tracker ∧ (State.reportDots s n).store = s.store ∧
    (State.reportDots s n).mask = s.mask ∧ (State.reportDots s n).supply = s.supply ∧
    (State.reportDots s n).tunnel = s.tunnel ∧ (State.reportDots s n).holds = s.holds ∧ (State.reportDots s n).free = s.free := by
  induction n generalizing s with
  | zero => simp [State.reportDots]
  | succ n ih => simp [State.reportDots, ih]

@[simp] theorem State.passForward_frame (s : State) :
    (State.passForward s).pending = s.pending ∧ (State.passForward s).cell = s.cell ∧
    (State.passForward s).loaded = s.loaded ∧ (State.passForward s).seconds = s.seconds ∧
    (State.passForward s).secondsMs = s.secondsMs ∧ (State.passForward s).cfg = s.cfg ∧
    (State.passForward s).inputs = s.inputs ∧ (State.passForward s).tracker = s.tracker ∧
    (State.passForward s).store = s.store ∧ (State.passForward s).mask = s.mask ∧ (State.passForward s).tunnel = s.tunnel ∧
    (State.passForward s).holds = s.holds ∧ (State.passForward s).free = s.free := by
  unfold State.passForward; dsimp only
  split
  · simp
  · split <;> simp

@[simp] theorem State.passReverse_frame (s : State) :
    (State.passReverse s).pending = s.pending ∧ (State.passReverse s).cell = s.cell ∧
    (State.passReverse s).loaded = s.loaded ∧ (State.passReverse s).seconds = s.seconds ∧
    (State.passReverse s).secondsMs = s.secondsMs ∧ (State.passReverse s).cfg = s.cfg ∧
    (State.passReverse s).inputs = s.inputs ∧ (State.passReverse s).tracker = s.tracker ∧
    (State.passReverse s).store = s.store ∧ (State.passReverse s).mask = s.mask ∧ (State.passReverse s).tunnel = s.tunnel ∧
    (State.passReverse s).holds = s.holds ∧ (State.passReverse s).free = s.free := by
  unfold State.passReverse
  split <;> simp

@[simp] theorem State.sprayCount_frame (s : State) (dir : Direction) :
    (State.sprayCount s dir).pending = s.pending ∧ (State.sprayCount s dir).cell = s.cell ∧
    (State.sprayCount s dir).loaded = s.loaded ∧ (State.sprayCount s dir).seconds = s.seconds ∧
    (State.sprayCount s dir).secondsMs = s.secondsMs ∧ (State.sprayCount s dir).cfg = s.cfg ∧
    (State.sprayCount s dir).inputs = s.inputs ∧ (State.sprayCount s dir).tracker = s.tracker ∧
    (State.sprayCount s dir).store = s.store ∧ (State.sprayCount s dir).mask = s.mask ∧
    (State.sprayCount s dir).tunnel = s.tunnel ∧ (State.sprayCount s dir).holds = s.holds ∧
    (State.sprayCount s dir).free = s.free := by
  unfold State.sprayCount
  dsimp only
  repeat' split
  all_goals simp

@[simp] theorem State.tryPurgeClaim_frame (s : State) :
    (State.tryPurgeClaim s).pending = s.pending ∧ (State.tryPurgeClaim s).cell = s.cell ∧
    (State.tryPurgeClaim s).loaded = s.loaded ∧ (State.tryPurgeClaim s).seconds = s.seconds ∧
    (State.tryPurgeClaim s).secondsMs = s.secondsMs ∧ (State.tryPurgeClaim s).cfg = s.cfg ∧
    (State.tryPurgeClaim s).inputs = s.inputs ∧ (State.tryPurgeClaim s).table = s.table ∧
    (State.tryPurgeClaim s).tracker = s.tracker ∧ (State.tryPurgeClaim s).store = s.store ∧
    (State.tryPurgeClaim s).mask = s.mask ∧ (State.tryPurgeClaim s).tunnel = s.tunnel ∧
    (State.tryPurgeClaim s).holds = s.holds ∧ (State.tryPurgeClaim s).watch = s.watch ∧
    (State.tryPurgeClaim s).free = s.free := by
  unfold State.tryPurgeClaim
  split <;> simp

@[simp] theorem State.purgeEnd_frame (s : State) :
    (State.purgeEnd s).pending = s.pending ∧ (State.purgeEnd s).cell = s.cell ∧ (State.purgeEnd s).loaded = s.loaded ∧
    (State.purgeEnd s).seconds = s.seconds ∧ (State.purgeEnd s).secondsMs = s.secondsMs ∧ (State.purgeEnd s).cfg = s.cfg ∧
    (State.purgeEnd s).inputs = s.inputs ∧ (State.purgeEnd s).table = s.table ∧ (State.purgeEnd s).tracker = s.tracker ∧
    (State.purgeEnd s).store = s.store ∧ (State.purgeEnd s).mask = s.mask ∧ (State.purgeEnd s).tunnel = s.tunnel ∧
    (State.purgeEnd s).holds = s.holds ∧ (State.purgeEnd s).free = s.free := by simp [State.purgeEnd]

@[simp] theorem State.purgeInterrupt_frame (s : State) :
    (State.purgeInterrupt s).pending = s.pending ∧ (State.purgeInterrupt s).cell = s.cell ∧
    (State.purgeInterrupt s).loaded = s.loaded ∧ (State.purgeInterrupt s).seconds = s.seconds ∧
    (State.purgeInterrupt s).secondsMs = s.secondsMs ∧ (State.purgeInterrupt s).cfg = s.cfg ∧
    (State.purgeInterrupt s).inputs = s.inputs ∧ (State.purgeInterrupt s).table = s.table ∧
    (State.purgeInterrupt s).tracker = s.tracker ∧ (State.purgeInterrupt s).store = s.store ∧
    (State.purgeInterrupt s).mask = s.mask ∧ (State.purgeInterrupt s).tunnel = s.tunnel ∧
    (State.purgeInterrupt s).holds = s.holds ∧ (State.purgeInterrupt s).watch = s.watch ∧
    (State.purgeInterrupt s).free = s.free := by
  unfold State.purgeInterrupt
  split <;> simp

/-! ## Rack.lean -/

@[simp] theorem State.setDiversion_frame (s : State) (d : Diversion) :
    (State.setDiversion s d).pending = s.pending ∧ (State.setDiversion s d).cell = s.cell ∧
    (State.setDiversion s d).loaded = s.loaded ∧ (State.setDiversion s d).seconds = s.seconds ∧
    (State.setDiversion s d).secondsMs = s.secondsMs ∧ (State.setDiversion s d).cfg = s.cfg ∧
    (State.setDiversion s d).inputs = s.inputs ∧ (State.setDiversion s d).tracker = s.tracker ∧
    (State.setDiversion s d).store = s.store ∧ (State.setDiversion s d).mask = s.mask ∧
    (State.setDiversion s d).spray = s.spray ∧ (State.setDiversion s d).supply = s.supply ∧
    (State.setDiversion s d).tunnel = s.tunnel ∧ (State.setDiversion s d).holds = s.holds ∧
    (State.setDiversion s d).watch = s.watch ∧ (State.setDiversion s d).link = s.link ∧
    (State.setDiversion s d).free = s.free := by simp [State.setDiversion]

@[simp] theorem State.tryDiversion_frame (s : State) :
    (State.tryDiversion s).pending = s.pending ∧ (State.tryDiversion s).cell = s.cell ∧
    (State.tryDiversion s).loaded = s.loaded ∧ (State.tryDiversion s).seconds = s.seconds ∧
    (State.tryDiversion s).secondsMs = s.secondsMs ∧ (State.tryDiversion s).cfg = s.cfg ∧
    (State.tryDiversion s).inputs = s.inputs ∧ (State.tryDiversion s).tracker = s.tracker ∧
    (State.tryDiversion s).store = s.store ∧ (State.tryDiversion s).mask = s.mask ∧ (State.tryDiversion s).spray = s.spray ∧
    (State.tryDiversion s).supply = s.supply ∧ (State.tryDiversion s).tunnel = s.tunnel ∧
    (State.tryDiversion s).watch = s.watch ∧ (State.tryDiversion s).link = s.link ∧ (State.tryDiversion s).free = s.free := by
  unfold State.tryDiversion
  repeat' split
  all_goals simp

@[simp] theorem State.nearFullTest_frame (s : State) :
    (State.nearFullTest s).pending = s.pending ∧ (State.nearFullTest s).cell = s.cell ∧
    (State.nearFullTest s).loaded = s.loaded ∧ (State.nearFullTest s).seconds = s.seconds ∧
    (State.nearFullTest s).secondsMs = s.secondsMs ∧ (State.nearFullTest s).cfg = s.cfg ∧
    (State.nearFullTest s).inputs = s.inputs ∧ (State.nearFullTest s).table = s.table ∧
    (State.nearFullTest s).tracker = s.tracker ∧ (State.nearFullTest s).store = s.store ∧
    (State.nearFullTest s).mask = s.mask ∧ (State.nearFullTest s).spray = s.spray ∧
    (State.nearFullTest s).supply = s.supply ∧ (State.nearFullTest s).tunnel = s.tunnel ∧
    (State.nearFullTest s).watch = s.watch ∧ (State.nearFullTest s).free = s.free := by
  unfold State.nearFullTest
  dsimp only
  repeat' split
  all_goals simp

@[simp] theorem State.appendHold_frame (s : State) (e : HoldEntry) :
    (State.appendHold s e).pending = s.pending ∧ (State.appendHold s e).cell = s.cell ∧
    (State.appendHold s e).loaded = s.loaded ∧ (State.appendHold s e).seconds = s.seconds ∧
    (State.appendHold s e).secondsMs = s.secondsMs ∧ (State.appendHold s e).cfg = s.cfg ∧
    (State.appendHold s e).inputs = s.inputs ∧ (State.appendHold s e).table = s.table ∧
    (State.appendHold s e).tracker = s.tracker ∧ (State.appendHold s e).store = s.store ∧
    (State.appendHold s e).mask = s.mask ∧ (State.appendHold s e).spray = s.spray ∧
    (State.appendHold s e).supply = s.supply ∧ (State.appendHold s e).tunnel = s.tunnel ∧
    (State.appendHold s e).watch = s.watch ∧ (State.appendHold s e).link = s.link ∧ (State.appendHold s e).free = s.free := by simp [State.appendHold]

@[simp] theorem State.completeDiversion_frame (s : State) (r : Record) (t : Fin 8) :
    (State.completeDiversion s r t).pending = s.pending ∧ (State.completeDiversion s r t).cell = s.cell ∧
    (State.completeDiversion s r t).loaded = s.loaded ∧ (State.completeDiversion s r t).seconds = s.seconds ∧
    (State.completeDiversion s r t).secondsMs = s.secondsMs ∧ (State.completeDiversion s r t).cfg = s.cfg ∧
    (State.completeDiversion s r t).inputs = s.inputs ∧ (State.completeDiversion s r t).tracker = s.tracker ∧
    (State.completeDiversion s r t).tunnel = s.tunnel ∧ (State.completeDiversion s r t).free = s.free := by simp [State.completeDiversion]

@[simp] theorem State.diversionTest_frame (s : State) :
    (State.diversionTest s).pending = s.pending ∧ (State.diversionTest s).cell = s.cell ∧
    (State.diversionTest s).loaded = s.loaded ∧ (State.diversionTest s).seconds = s.seconds ∧
    (State.diversionTest s).secondsMs = s.secondsMs ∧ (State.diversionTest s).cfg = s.cfg ∧
    (State.diversionTest s).inputs = s.inputs ∧ (State.diversionTest s).tracker = s.tracker ∧
    (State.diversionTest s).tunnel = s.tunnel ∧ (State.diversionTest s).free = s.free := by
  unfold State.diversionTest
  repeat' split
  all_goals simp

@[simp] theorem State.rackTaken_frame (s : State) (e : HoldEntry) :
    (State.rackTaken s e).pending = s.pending ∧ (State.rackTaken s e).cell = s.cell ∧
    (State.rackTaken s e).loaded = s.loaded ∧ (State.rackTaken s e).seconds = s.seconds ∧
    (State.rackTaken s e).secondsMs = s.secondsMs ∧ (State.rackTaken s e).cfg = s.cfg ∧
    (State.rackTaken s e).inputs = s.inputs ∧ (State.rackTaken s e).table = s.table ∧
    (State.rackTaken s e).tracker = s.tracker ∧ (State.rackTaken s e).store = s.store ∧
    (State.rackTaken s e).mask = s.mask ∧ (State.rackTaken s e).spray = s.spray ∧ (State.rackTaken s e).supply = s.supply ∧
    (State.rackTaken s e).tunnel = s.tunnel ∧ (State.rackTaken s e).holds = s.holds ∧
    (State.rackTaken s e).watch = s.watch ∧ (State.rackTaken s e).free = s.free := by
  unfold State.rackTaken
  split <;> simp

@[simp] theorem State.removeEntry_frame (s : State) (e : HoldEntry) :
    (State.removeEntry s e).pending = s.pending ∧ (State.removeEntry s e).cell = s.cell ∧
    (State.removeEntry s e).loaded = s.loaded ∧ (State.removeEntry s e).seconds = s.seconds ∧
    (State.removeEntry s e).secondsMs = s.secondsMs ∧ (State.removeEntry s e).cfg = s.cfg ∧
    (State.removeEntry s e).inputs = s.inputs ∧ (State.removeEntry s e).table = s.table ∧
    (State.removeEntry s e).tracker = s.tracker ∧ (State.removeEntry s e).store = s.store ∧
    (State.removeEntry s e).mask = s.mask ∧ (State.removeEntry s e).spray = s.spray ∧
    (State.removeEntry s e).supply = s.supply ∧ (State.removeEntry s e).tunnel = s.tunnel ∧
    (State.removeEntry s e).watch = s.watch ∧ (State.removeEntry s e).free = s.free := by simp [State.removeEntry]

@[simp] theorem State.rackEdge_frame (s : State) (t : Fin 8) (occupied : Bool) :
    (State.rackEdge s t occupied).pending = s.pending ∧ (State.rackEdge s t occupied).cell = s.cell ∧
    (State.rackEdge s t occupied).loaded = s.loaded ∧ (State.rackEdge s t occupied).seconds = s.seconds ∧
    (State.rackEdge s t occupied).secondsMs = s.secondsMs ∧ (State.rackEdge s t occupied).cfg = s.cfg ∧
    (State.rackEdge s t occupied).inputs = s.inputs ∧ (State.rackEdge s t occupied).tracker = s.tracker ∧
    (State.rackEdge s t occupied).tunnel = s.tunnel ∧ (State.rackEdge s t occupied).free = s.free := by
  unfold State.rackEdge
  repeat' split
  all_goals simp

@[simp] theorem State.setHoldState_frame (s : State) (t : Fin 8) (st : HoldState) :
    (State.setHoldState s t st).pending = s.pending ∧ (State.setHoldState s t st).cell = s.cell ∧
    (State.setHoldState s t st).loaded = s.loaded ∧ (State.setHoldState s t st).seconds = s.seconds ∧
    (State.setHoldState s t st).secondsMs = s.secondsMs ∧ (State.setHoldState s t st).cfg = s.cfg ∧
    (State.setHoldState s t st).inputs = s.inputs ∧ (State.setHoldState s t st).table = s.table ∧
    (State.setHoldState s t st).tracker = s.tracker ∧ (State.setHoldState s t st).store = s.store ∧
    (State.setHoldState s t st).mask = s.mask ∧ (State.setHoldState s t st).spray = s.spray ∧
    (State.setHoldState s t st).supply = s.supply ∧ (State.setHoldState s t st).tunnel = s.tunnel ∧
    (State.setHoldState s t st).watch = s.watch ∧ (State.setHoldState s t st).link = s.link ∧
    (State.setHoldState s t st).free = s.free := by simp [State.setHoldState]

@[simp] theorem State.takeRelease_frame (s : State) (t : Telegram) :
    (State.takeRelease s t).pending = s.pending ∧ (State.takeRelease s t).cell = s.cell ∧
    (State.takeRelease s t).loaded = s.loaded ∧ (State.takeRelease s t).seconds = s.seconds ∧
    (State.takeRelease s t).secondsMs = s.secondsMs ∧ (State.takeRelease s t).cfg = s.cfg ∧
    (State.takeRelease s t).inputs = s.inputs ∧ (State.takeRelease s t).table = s.table ∧
    (State.takeRelease s t).tracker = s.tracker ∧ (State.takeRelease s t).store = s.store ∧
    (State.takeRelease s t).mask = s.mask ∧ (State.takeRelease s t).spray = s.spray ∧
    (State.takeRelease s t).supply = s.supply ∧ (State.takeRelease s t).tunnel = s.tunnel ∧
    (State.takeRelease s t).watch = s.watch := by
  unfold State.takeRelease
  dsimp only
  repeat' split
  all_goals simp

@[simp] theorem State.setFilter_frame (s : State) (k : Fin 8) (f : Option LotFilter) :
    (State.setFilter s k f).pending = s.pending ∧ (State.setFilter s k f).cell = s.cell ∧
    (State.setFilter s k f).loaded = s.loaded ∧ (State.setFilter s k f).seconds = s.seconds ∧
    (State.setFilter s k f).secondsMs = s.secondsMs ∧ (State.setFilter s k f).cfg = s.cfg ∧
    (State.setFilter s k f).inputs = s.inputs ∧ (State.setFilter s k f).table = s.table ∧
    (State.setFilter s k f).tracker = s.tracker ∧ (State.setFilter s k f).store = s.store ∧
    (State.setFilter s k f).mask = s.mask ∧ (State.setFilter s k f).spray = s.spray ∧
    (State.setFilter s k f).supply = s.supply ∧ (State.setFilter s k f).tunnel = s.tunnel ∧
    (State.setFilter s k f).watch = s.watch ∧ (State.setFilter s k f).link = s.link ∧ (State.setFilter s k f).free = s.free := by simp [State.setFilter]

@[simp] theorem State.skipWaiting_frame (s : State) :
    (State.skipWaiting s).pending = s.pending ∧ (State.skipWaiting s).cell = s.cell ∧
    (State.skipWaiting s).loaded = s.loaded ∧ (State.skipWaiting s).seconds = s.seconds ∧
    (State.skipWaiting s).secondsMs = s.secondsMs ∧ (State.skipWaiting s).cfg = s.cfg ∧
    (State.skipWaiting s).inputs = s.inputs ∧ (State.skipWaiting s).tracker = s.tracker ∧
    (State.skipWaiting s).store = s.store ∧ (State.skipWaiting s).mask = s.mask ∧ (State.skipWaiting s).tunnel = s.tunnel ∧
    (State.skipWaiting s).holds = s.holds ∧ (State.skipWaiting s).watch = s.watch ∧ (State.skipWaiting s).free = s.free := by
  unfold State.skipWaiting
  split <;> simp

@[simp] theorem State.divertOffered_frame (s : State) :
    (State.divertOffered s).pending = s.pending ∧ (State.divertOffered s).cell = s.cell ∧
    (State.divertOffered s).loaded = s.loaded ∧ (State.divertOffered s).seconds = s.seconds ∧
    (State.divertOffered s).secondsMs = s.secondsMs ∧ (State.divertOffered s).cfg = s.cfg ∧
    (State.divertOffered s).inputs = s.inputs ∧ (State.divertOffered s).tracker = s.tracker ∧
    (State.divertOffered s).store = s.store ∧ (State.divertOffered s).mask = s.mask ∧
    (State.divertOffered s).spray = s.spray ∧ (State.divertOffered s).supply = s.supply ∧
    (State.divertOffered s).tunnel = s.tunnel ∧ (State.divertOffered s).holds = s.holds ∧
    (State.divertOffered s).watch = s.watch ∧ (State.divertOffered s).free = s.free := by
  unfold State.divertOffered
  split <;> simp

@[simp] theorem State.applyFilter_frame (s : State) (f : LotFilter) :
    (State.applyFilter s f).pending = s.pending ∧ (State.applyFilter s f).cell = s.cell ∧
    (State.applyFilter s f).loaded = s.loaded ∧ (State.applyFilter s f).seconds = s.seconds ∧
    (State.applyFilter s f).secondsMs = s.secondsMs ∧ (State.applyFilter s f).cfg = s.cfg ∧
    (State.applyFilter s f).inputs = s.inputs ∧ (State.applyFilter s f).tracker = s.tracker ∧
    (State.applyFilter s f).store = s.store ∧ (State.applyFilter s f).mask = s.mask ∧
    (State.applyFilter s f).tunnel = s.tunnel ∧ (State.applyFilter s f).holds = s.holds ∧
    (State.applyFilter s f).watch = s.watch ∧ (State.applyFilter s f).free = s.free := by
  unfold State.applyFilter
  repeat' split
  all_goals simp

@[simp] theorem State.takeLotHold_frame (s : State) (t : Telegram) :
    (State.takeLotHold s t).pending = s.pending ∧ (State.takeLotHold s t).cell = s.cell ∧
    (State.takeLotHold s t).loaded = s.loaded ∧ (State.takeLotHold s t).seconds = s.seconds ∧
    (State.takeLotHold s t).secondsMs = s.secondsMs ∧ (State.takeLotHold s t).cfg = s.cfg ∧
    (State.takeLotHold s t).inputs = s.inputs ∧ (State.takeLotHold s t).tracker = s.tracker ∧
    (State.takeLotHold s t).store = s.store ∧ (State.takeLotHold s t).mask = s.mask ∧
    (State.takeLotHold s t).tunnel = s.tunnel ∧ (State.takeLotHold s t).watch = s.watch ∧
    (State.takeLotHold s t).free = s.free := by
  unfold State.takeLotHold
  dsimp only
  repeat' split
  all_goals simp

@[simp] theorem State.takeLotLift_frame (s : State) (t : Telegram) :
    (State.takeLotLift s t).pending = s.pending ∧ (State.takeLotLift s t).cell = s.cell ∧
    (State.takeLotLift s t).loaded = s.loaded ∧ (State.takeLotLift s t).seconds = s.seconds ∧
    (State.takeLotLift s t).secondsMs = s.secondsMs ∧ (State.takeLotLift s t).cfg = s.cfg ∧
    (State.takeLotLift s t).inputs = s.inputs ∧ (State.takeLotLift s t).table = s.table ∧
    (State.takeLotLift s t).tracker = s.tracker ∧ (State.takeLotLift s t).store = s.store ∧
    (State.takeLotLift s t).mask = s.mask ∧ (State.takeLotLift s t).spray = s.spray ∧
    (State.takeLotLift s t).supply = s.supply ∧ (State.takeLotLift s t).tunnel = s.tunnel ∧
    (State.takeLotLift s t).watch = s.watch ∧ (State.takeLotLift s t).link = s.link ∧ (State.takeLotLift s t).free = s.free := by
  unfold State.takeLotLift
  split <;> simp

/-! ## Moves.lean -/

@[simp] theorem State.tryToTransport_frame (s : State) :
    (State.tryToTransport s).pending = s.pending ∧ (State.tryToTransport s).cell = s.cell ∧
    (State.tryToTransport s).loaded = s.loaded ∧ (State.tryToTransport s).seconds = s.seconds ∧
    (State.tryToTransport s).secondsMs = s.secondsMs ∧ (State.tryToTransport s).cfg = s.cfg ∧
    (State.tryToTransport s).inputs = s.inputs ∧ (State.tryToTransport s).store = s.store ∧
    (State.tryToTransport s).spray = s.spray ∧ (State.tryToTransport s).supply = s.supply ∧
    (State.tryToTransport s).tunnel = s.tunnel ∧ (State.tryToTransport s).holds = s.holds ∧
    (State.tryToTransport s).watch = s.watch ∧ (State.tryToTransport s).link = s.link ∧
    (State.tryToTransport s).free = s.free := by
  unfold State.tryToTransport
  split <;> simp

@[simp] theorem State.tryToSpray_frame (s : State) :
    (State.tryToSpray s).pending = s.pending ∧ (State.tryToSpray s).cell = s.cell ∧ (State.tryToSpray s).loaded = s.loaded ∧
    (State.tryToSpray s).seconds = s.seconds ∧ (State.tryToSpray s).secondsMs = s.secondsMs ∧
    (State.tryToSpray s).cfg = s.cfg ∧ (State.tryToSpray s).inputs = s.inputs ∧ (State.tryToSpray s).table = s.table ∧
    (State.tryToSpray s).store = s.store ∧ (State.tryToSpray s).mask = s.mask ∧ (State.tryToSpray s).spray = s.spray ∧
    (State.tryToSpray s).supply = s.supply ∧ (State.tryToSpray s).tunnel = s.tunnel ∧ (State.tryToSpray s).holds = s.holds ∧
    (State.tryToSpray s).watch = s.watch ∧ (State.tryToSpray s).link = s.link ∧ (State.tryToSpray s).free = s.free := by
  unfold State.tryToSpray
  split <;> simp

@[simp] theorem State.tryToGate_frame (s : State) :
    (State.tryToGate s).pending = s.pending ∧ (State.tryToGate s).cell = s.cell ∧ (State.tryToGate s).loaded = s.loaded ∧
    (State.tryToGate s).seconds = s.seconds ∧ (State.tryToGate s).secondsMs = s.secondsMs ∧
    (State.tryToGate s).cfg = s.cfg ∧ (State.tryToGate s).inputs = s.inputs ∧ (State.tryToGate s).table = s.table ∧
    (State.tryToGate s).store = s.store ∧ (State.tryToGate s).mask = s.mask ∧ (State.tryToGate s).spray = s.spray ∧
    (State.tryToGate s).supply = s.supply ∧ (State.tryToGate s).tunnel = s.tunnel ∧ (State.tryToGate s).holds = s.holds ∧
    (State.tryToGate s).watch = s.watch ∧ (State.tryToGate s).link = s.link ∧ (State.tryToGate s).free = s.free := by
  unfold State.tryToGate
  split <;> simp

@[simp] theorem State.tryMove_frame (s : State) (m : ConvMove) :
    (State.tryMove s m).pending = s.pending ∧ (State.tryMove s m).cell = s.cell ∧ (State.tryMove s m).loaded = s.loaded ∧
    (State.tryMove s m).seconds = s.seconds ∧ (State.tryMove s m).secondsMs = s.secondsMs ∧
    (State.tryMove s m).cfg = s.cfg ∧ (State.tryMove s m).inputs = s.inputs ∧ (State.tryMove s m).store = s.store ∧
    (State.tryMove s m).spray = s.spray ∧ (State.tryMove s m).supply = s.supply ∧ (State.tryMove s m).tunnel = s.tunnel ∧
    (State.tryMove s m).holds = s.holds ∧ (State.tryMove s m).watch = s.watch ∧ (State.tryMove s m).link = s.link ∧
    (State.tryMove s m).free = s.free := by
  unfold State.tryMove
  split <;> simp

@[simp] theorem State.starts_frame (s : State) :
    (State.starts s).pending = s.pending ∧ (State.starts s).cell = s.cell ∧ (State.starts s).loaded = s.loaded ∧
    (State.starts s).seconds = s.seconds ∧ (State.starts s).secondsMs = s.secondsMs ∧ (State.starts s).cfg = s.cfg ∧
    (State.starts s).inputs = s.inputs ∧ (State.starts s).store = s.store ∧ (State.starts s).free = s.free := by simp [State.starts]

@[simp] theorem State.settle_frame (s : State) :
    (State.settle s).pending = s.pending ∧ (State.settle s).loaded = s.loaded ∧ (State.settle s).seconds = s.seconds ∧
    (State.settle s).secondsMs = s.secondsMs ∧ (State.settle s).cfg = s.cfg ∧ (State.settle s).inputs = s.inputs ∧
    (State.settle s).store = s.store ∧ (State.settle s).free = s.free := by simp [State.settle]

/-! ## Supply.lean -/

@[simp] theorem State.afterView_frame (s : State) :
    (State.afterView s).pending = s.pending ∧ (State.afterView s).cell = s.cell ∧ (State.afterView s).loaded = s.loaded ∧
    (State.afterView s).seconds = s.seconds ∧ (State.afterView s).secondsMs = s.secondsMs ∧
    (State.afterView s).cfg = s.cfg ∧ (State.afterView s).inputs = s.inputs ∧ (State.afterView s).store = s.store ∧
    (State.afterView s).free = s.free := by simp [State.afterView]

@[simp] theorem State.takeSupplyClaim_frame (s : State) (source : Byte) (p : List Byte) :
    (State.takeSupplyClaim s source p).pending = s.pending ∧ (State.takeSupplyClaim s source p).cell = s.cell ∧
    (State.takeSupplyClaim s source p).loaded = s.loaded ∧ (State.takeSupplyClaim s source p).seconds = s.seconds ∧
    (State.takeSupplyClaim s source p).secondsMs = s.secondsMs ∧ (State.takeSupplyClaim s source p).cfg = s.cfg ∧
    (State.takeSupplyClaim s source p).inputs = s.inputs ∧ (State.takeSupplyClaim s source p).store = s.store ∧
    (State.takeSupplyClaim s source p).free = s.free := by
  unfold State.takeSupplyClaim
  split <;> simp

@[simp] theorem State.takeSupplyDone_frame (s : State) (source : Byte) (p : List Byte) :
    (State.takeSupplyDone s source p).pending = s.pending ∧ (State.takeSupplyDone s source p).cell = s.cell ∧
    (State.takeSupplyDone s source p).loaded = s.loaded ∧ (State.takeSupplyDone s source p).seconds = s.seconds ∧
    (State.takeSupplyDone s source p).secondsMs = s.secondsMs ∧ (State.takeSupplyDone s source p).cfg = s.cfg ∧
    (State.takeSupplyDone s source p).inputs = s.inputs ∧ (State.takeSupplyDone s source p).store = s.store ∧
    (State.takeSupplyDone s source p).free = s.free := by
  unfold State.takeSupplyDone
  split <;> simp

@[simp] theorem State.claimExpired_frame (s : State) (holder : Option Holder) :
    (State.claimExpired s holder).pending = s.pending ∧ (State.claimExpired s holder).cell = s.cell ∧
    (State.claimExpired s holder).loaded = s.loaded ∧ (State.claimExpired s holder).seconds = s.seconds ∧
    (State.claimExpired s holder).secondsMs = s.secondsMs ∧ (State.claimExpired s holder).cfg = s.cfg ∧
    (State.claimExpired s holder).inputs = s.inputs ∧ (State.claimExpired s holder).table = s.table ∧
    (State.claimExpired s holder).tracker = s.tracker ∧ (State.claimExpired s holder).store = s.store ∧
    (State.claimExpired s holder).mask = s.mask ∧ (State.claimExpired s holder).supply = s.supply ∧
    (State.claimExpired s holder).tunnel = s.tunnel ∧ (State.claimExpired s holder).holds = s.holds ∧
    (State.claimExpired s holder).watch = s.watch ∧ (State.claimExpired s holder).link = s.link ∧
    (State.claimExpired s holder).free = s.free := by
  unfold State.claimExpired
  repeat' split
  all_goals simp

@[simp] theorem State.ownExpired_frame (s : State) :
    (State.ownExpired s).pending = s.pending ∧ (State.ownExpired s).cell = s.cell ∧ (State.ownExpired s).loaded = s.loaded ∧
    (State.ownExpired s).seconds = s.seconds ∧ (State.ownExpired s).secondsMs = s.secondsMs ∧
    (State.ownExpired s).cfg = s.cfg ∧ (State.ownExpired s).inputs = s.inputs ∧ (State.ownExpired s).table = s.table ∧
    (State.ownExpired s).tracker = s.tracker ∧ (State.ownExpired s).store = s.store ∧ (State.ownExpired s).mask = s.mask ∧
    (State.ownExpired s).tunnel = s.tunnel ∧ (State.ownExpired s).holds = s.holds ∧ (State.ownExpired s).watch = s.watch ∧
    (State.ownExpired s).link = s.link ∧ (State.ownExpired s).free = s.free := by
  unfold State.ownExpired
  split <;> simp

@[simp] theorem State.viewAged_frame (s : State) (view : List ClaimEntry) :
    (State.viewAged s view).pending = s.pending ∧ (State.viewAged s view).cell = s.cell ∧
    (State.viewAged s view).loaded = s.loaded ∧ (State.viewAged s view).seconds = s.seconds ∧
    (State.viewAged s view).secondsMs = s.secondsMs ∧ (State.viewAged s view).cfg = s.cfg ∧
    (State.viewAged s view).inputs = s.inputs ∧ (State.viewAged s view).store = s.store ∧
    (State.viewAged s view).free = s.free := by
  unfold State.viewAged
  dsimp only
  split <;> simp

@[simp] theorem State.claimReadback_frame (s : State) (refused : Bool) :
    (State.claimReadback s refused).pending = s.pending ∧ (State.claimReadback s refused).cell = s.cell ∧
    (State.claimReadback s refused).loaded = s.loaded ∧ (State.claimReadback s refused).seconds = s.seconds ∧
    (State.claimReadback s refused).secondsMs = s.secondsMs ∧ (State.claimReadback s refused).cfg = s.cfg ∧
    (State.claimReadback s refused).inputs = s.inputs ∧ (State.claimReadback s refused).table = s.table ∧
    (State.claimReadback s refused).tracker = s.tracker ∧ (State.claimReadback s refused).store = s.store ∧
    (State.claimReadback s refused).mask = s.mask ∧ (State.claimReadback s refused).tunnel = s.tunnel ∧
    (State.claimReadback s refused).holds = s.holds ∧ (State.claimReadback s refused).watch = s.watch ∧
    (State.claimReadback s refused).free = s.free := by
  unfold State.claimReadback
  repeat' split
  all_goals simp

@[simp] theorem State.doneReadback_frame (s : State) :
    (State.doneReadback s).pending = s.pending ∧ (State.doneReadback s).cell = s.cell ∧
    (State.doneReadback s).loaded = s.loaded ∧ (State.doneReadback s).seconds = s.seconds ∧
    (State.doneReadback s).secondsMs = s.secondsMs ∧ (State.doneReadback s).cfg = s.cfg ∧
    (State.doneReadback s).inputs = s.inputs ∧ (State.doneReadback s).table = s.table ∧
    (State.doneReadback s).tracker = s.tracker ∧ (State.doneReadback s).store = s.store ∧
    (State.doneReadback s).mask = s.mask ∧ (State.doneReadback s).spray = s.spray ∧
    (State.doneReadback s).tunnel = s.tunnel ∧ (State.doneReadback s).holds = s.holds ∧
    (State.doneReadback s).watch = s.watch ∧ (State.doneReadback s).link = s.link ∧ (State.doneReadback s).free = s.free := by
  unfold State.doneReadback
  split <;> simp

@[simp] theorem State.reClaim_frame (s : State) :
    (State.reClaim s).pending = s.pending ∧ (State.reClaim s).cell = s.cell ∧ (State.reClaim s).loaded = s.loaded ∧
    (State.reClaim s).seconds = s.seconds ∧ (State.reClaim s).secondsMs = s.secondsMs ∧ (State.reClaim s).cfg = s.cfg ∧
    (State.reClaim s).inputs = s.inputs ∧ (State.reClaim s).table = s.table ∧ (State.reClaim s).tracker = s.tracker ∧
    (State.reClaim s).store = s.store ∧ (State.reClaim s).mask = s.mask ∧ (State.reClaim s).spray = s.spray ∧
    (State.reClaim s).tunnel = s.tunnel ∧ (State.reClaim s).holds = s.holds ∧ (State.reClaim s).watch = s.watch ∧
    (State.reClaim s).free = s.free := by simp [State.reClaim]

/-! ## Edges.lean -/

@[simp] theorem State.carryOver_frame (s : State) (m : ConvMove) :
    (State.carryOver s m).pending = s.pending ∧ (State.carryOver s m).cell = s.cell ∧
    (State.carryOver s m).loaded = s.loaded ∧ (State.carryOver s m).seconds = s.seconds ∧
    (State.carryOver s m).secondsMs = s.secondsMs ∧ (State.carryOver s m).cfg = s.cfg ∧
    (State.carryOver s m).inputs = s.inputs ∧ (State.carryOver s m).store = s.store ∧
    (State.carryOver s m).spray = s.spray ∧ (State.carryOver s m).supply = s.supply ∧
    (State.carryOver s m).tunnel = s.tunnel ∧ (State.carryOver s m).holds = s.holds ∧
    (State.carryOver s m).watch = s.watch ∧ (State.carryOver s m).link = s.link ∧ (State.carryOver s m).free = s.free := by simp [State.carryOver]

@[simp] theorem State.candidateAtSpray_frame (s : State) :
    (State.candidateAtSpray s).pending = s.pending ∧ (State.candidateAtSpray s).cell = s.cell ∧
    (State.candidateAtSpray s).loaded = s.loaded ∧ (State.candidateAtSpray s).seconds = s.seconds ∧
    (State.candidateAtSpray s).secondsMs = s.secondsMs ∧ (State.candidateAtSpray s).cfg = s.cfg ∧
    (State.candidateAtSpray s).inputs = s.inputs ∧ (State.candidateAtSpray s).tracker = s.tracker ∧
    (State.candidateAtSpray s).store = s.store ∧ (State.candidateAtSpray s).spray = s.spray ∧
    (State.candidateAtSpray s).supply = s.supply ∧ (State.candidateAtSpray s).tunnel = s.tunnel ∧
    (State.candidateAtSpray s).holds = s.holds ∧ (State.candidateAtSpray s).watch = s.watch ∧
    (State.candidateAtSpray s).link = s.link ∧ (State.candidateAtSpray s).free = s.free := by
  unfold State.candidateAtSpray
  split <;> simp

@[simp] theorem State.completeMove_frame (s : State) (m : ConvMove) :
    (State.completeMove s m).pending = s.pending ∧ (State.completeMove s m).cell = s.cell ∧
    (State.completeMove s m).loaded = s.loaded ∧ (State.completeMove s m).seconds = s.seconds ∧
    (State.completeMove s m).secondsMs = s.secondsMs ∧ (State.completeMove s m).cfg = s.cfg ∧
    (State.completeMove s m).inputs = s.inputs ∧ (State.completeMove s m).store = s.store ∧
    (State.completeMove s m).tunnel = s.tunnel ∧ (State.completeMove s m).holds = s.holds ∧
    (State.completeMove s m).free = s.free := by
  unfold State.completeMove
  repeat' split
  all_goals simp

@[simp] theorem State.beginArrival_frame (s : State) :
    (State.beginArrival s).pending = s.pending ∧ (State.beginArrival s).cell = s.cell ∧
    (State.beginArrival s).loaded = s.loaded ∧ (State.beginArrival s).seconds = s.seconds ∧
    (State.beginArrival s).secondsMs = s.secondsMs ∧ (State.beginArrival s).cfg = s.cfg ∧
    (State.beginArrival s).inputs = s.inputs ∧ (State.beginArrival s).table = s.table ∧
    (State.beginArrival s).store = s.store ∧ (State.beginArrival s).mask = s.mask ∧ (State.beginArrival s).spray = s.spray ∧
    (State.beginArrival s).supply = s.supply ∧ (State.beginArrival s).tunnel = s.tunnel ∧
    (State.beginArrival s).holds = s.holds ∧ (State.beginArrival s).watch = s.watch ∧ (State.beginArrival s).link = s.link ∧
    (State.beginArrival s).free = s.free := by simp [State.beginArrival]

@[simp] theorem State.strayOccupied_frame (s : State) (p : Position) :
    (State.strayOccupied s p).pending = s.pending ∧ (State.strayOccupied s p).cell = s.cell ∧
    (State.strayOccupied s p).loaded = s.loaded ∧ (State.strayOccupied s p).seconds = s.seconds ∧
    (State.strayOccupied s p).secondsMs = s.secondsMs ∧ (State.strayOccupied s p).cfg = s.cfg ∧
    (State.strayOccupied s p).inputs = s.inputs ∧ (State.strayOccupied s p).store = s.store ∧
    (State.strayOccupied s p).spray = s.spray ∧ (State.strayOccupied s p).supply = s.supply ∧
    (State.strayOccupied s p).tunnel = s.tunnel ∧ (State.strayOccupied s p).holds = s.holds ∧
    (State.strayOccupied s p).watch = s.watch ∧ (State.strayOccupied s p).link = s.link ∧
    (State.strayOccupied s p).free = s.free := by
  unfold State.strayOccupied
  repeat' split
  all_goals simp

@[simp] theorem State.moveTest_frame (s : State) (m : ConvMove) :
    (State.moveTest s m).pending = s.pending ∧ (State.moveTest s m).cell = s.cell ∧ (State.moveTest s m).loaded = s.loaded ∧
    (State.moveTest s m).seconds = s.seconds ∧ (State.moveTest s m).secondsMs = s.secondsMs ∧
    (State.moveTest s m).cfg = s.cfg ∧ (State.moveTest s m).inputs = s.inputs ∧ (State.moveTest s m).store = s.store ∧
    (State.moveTest s m).tunnel = s.tunnel ∧ (State.moveTest s m).holds = s.holds ∧ (State.moveTest s m).free = s.free := by
  unfold State.moveTest
  dsimp only
  repeat' split
  all_goals simp

@[simp] theorem State.moveTests_frame (s : State) (p : Position) :
    (State.moveTests s p).pending = s.pending ∧ (State.moveTests s p).cell = s.cell ∧
    (State.moveTests s p).loaded = s.loaded ∧ (State.moveTests s p).seconds = s.seconds ∧
    (State.moveTests s p).secondsMs = s.secondsMs ∧ (State.moveTests s p).cfg = s.cfg ∧
    (State.moveTests s p).inputs = s.inputs ∧ (State.moveTests s p).store = s.store ∧
    (State.moveTests s p).tunnel = s.tunnel ∧ (State.moveTests s p).holds = s.holds ∧ (State.moveTests s p).free = s.free := by
  unfold State.moveTests
  split <;> simp

@[simp] theorem State.setLevel_frame (s : State) (p : Position) (b : Bool) :
    (State.setLevel s p b).pending = s.pending ∧ (State.setLevel s p b).cell = s.cell ∧
    (State.setLevel s p b).loaded = s.loaded ∧ (State.setLevel s p b).seconds = s.seconds ∧
    (State.setLevel s p b).secondsMs = s.secondsMs ∧ (State.setLevel s p b).cfg = s.cfg ∧
    (State.setLevel s p b).table = s.table ∧ (State.setLevel s p b).tracker = s.tracker ∧
    (State.setLevel s p b).store = s.store ∧ (State.setLevel s p b).mask = s.mask ∧ (State.setLevel s p b).spray = s.spray ∧
    (State.setLevel s p b).supply = s.supply ∧ (State.setLevel s p b).tunnel = s.tunnel ∧
    (State.setLevel s p b).holds = s.holds ∧ (State.setLevel s p b).watch = s.watch ∧ (State.setLevel s p b).link = s.link ∧
    (State.setLevel s p b).free = s.free := by simp [State.setLevel]

@[simp] theorem State.exitEdge_frame (s : State) (r : Record) (occupied : Bool) :
    (State.exitEdge s r occupied).pending = s.pending ∧ (State.exitEdge s r occupied).cell = s.cell ∧
    (State.exitEdge s r occupied).loaded = s.loaded ∧ (State.exitEdge s r occupied).seconds = s.seconds ∧
    (State.exitEdge s r occupied).secondsMs = s.secondsMs ∧ (State.exitEdge s r occupied).cfg = s.cfg ∧
    (State.exitEdge s r occupied).inputs = s.inputs ∧ (State.exitEdge s r occupied).tracker = s.tracker ∧
    (State.exitEdge s r occupied).tunnel = s.tunnel ∧ (State.exitEdge s r occupied).free = s.free := by
  unfold State.exitEdge
  split <;> simp

@[simp] theorem State.occupiedEdge_frame (s : State) (p : Position) :
    (State.occupiedEdge s p).pending = s.pending ∧ (State.occupiedEdge s p).cell = s.cell ∧
    (State.occupiedEdge s p).loaded = s.loaded ∧ (State.occupiedEdge s p).seconds = s.seconds ∧
    (State.occupiedEdge s p).secondsMs = s.secondsMs ∧ (State.occupiedEdge s p).cfg = s.cfg ∧
    (State.occupiedEdge s p).inputs = s.inputs ∧ (State.occupiedEdge s p).tunnel = s.tunnel ∧
    (State.occupiedEdge s p).free = s.free := by
  unfold State.occupiedEdge
  repeat' split
  all_goals simp

@[simp] theorem State.raiseStop_frame (s : State) (p : Position) :
    (State.raiseStop s p).pending = s.pending ∧ (State.raiseStop s p).cell = s.cell ∧
    (State.raiseStop s p).loaded = s.loaded ∧ (State.raiseStop s p).seconds = s.seconds ∧
    (State.raiseStop s p).secondsMs = s.secondsMs ∧ (State.raiseStop s p).cfg = s.cfg ∧
    (State.raiseStop s p).inputs = s.inputs ∧ (State.raiseStop s p).table = s.table ∧
    (State.raiseStop s p).store = s.store ∧ (State.raiseStop s p).mask = s.mask ∧ (State.raiseStop s p).spray = s.spray ∧
    (State.raiseStop s p).supply = s.supply ∧ (State.raiseStop s p).tunnel = s.tunnel ∧
    (State.raiseStop s p).holds = s.holds ∧ (State.raiseStop s p).watch = s.watch ∧ (State.raiseStop s p).link = s.link ∧
    (State.raiseStop s p).free = s.free := by
  unfold State.raiseStop
  split <;> simp

@[simp] theorem State.lifted_frame (s : State) (p : Position) :
    (State.lifted s p).pending = s.pending ∧ (State.lifted s p).cell = s.cell ∧ (State.lifted s p).loaded = s.loaded ∧
    (State.lifted s p).seconds = s.seconds ∧ (State.lifted s p).secondsMs = s.secondsMs ∧ (State.lifted s p).cfg = s.cfg ∧
    (State.lifted s p).inputs = s.inputs ∧ (State.lifted s p).tunnel = s.tunnel ∧ (State.lifted s p).holds = s.holds ∧
    (State.lifted s p).watch = s.watch ∧ (State.lifted s p).free = s.free := by
  unfold State.lifted
  repeat' split
  all_goals simp

@[simp] theorem State.emptyEdge_frame (s : State) (p : Position) :
    (State.emptyEdge s p).pending = s.pending ∧ (State.emptyEdge s p).cell = s.cell ∧
    (State.emptyEdge s p).loaded = s.loaded ∧ (State.emptyEdge s p).seconds = s.seconds ∧
    (State.emptyEdge s p).secondsMs = s.secondsMs ∧ (State.emptyEdge s p).cfg = s.cfg ∧
    (State.emptyEdge s p).inputs = s.inputs ∧ (State.emptyEdge s p).tunnel = s.tunnel ∧ (State.emptyEdge s p).free = s.free := by
  unfold State.emptyEdge
  dsimp only
  repeat' split
  all_goals simp

@[simp] theorem State.shiftTunnel_frame (s : State) :
    (State.shiftTunnel s).pending = s.pending ∧ (State.shiftTunnel s).cell = s.cell ∧
    (State.shiftTunnel s).loaded = s.loaded ∧ (State.shiftTunnel s).seconds = s.seconds ∧
    (State.shiftTunnel s).secondsMs = s.secondsMs ∧ (State.shiftTunnel s).cfg = s.cfg ∧
    (State.shiftTunnel s).inputs = s.inputs ∧ (State.shiftTunnel s).tracker = s.tracker ∧
    (State.shiftTunnel s).store = s.store ∧ (State.shiftTunnel s).mask = s.mask ∧ (State.shiftTunnel s).spray = s.spray ∧
    (State.shiftTunnel s).supply = s.supply ∧ (State.shiftTunnel s).tunnel = s.tunnel ∧
    (State.shiftTunnel s).holds = s.holds ∧ (State.shiftTunnel s).watch = s.watch ∧ (State.shiftTunnel s).link = s.link ∧
    (State.shiftTunnel s).free = s.free := by simp [State.shiftTunnel]

@[simp] theorem State.comparePosition_frame (s : State) (p : Position) :
    (State.comparePosition s p).pending = s.pending ∧ (State.comparePosition s p).cell = s.cell ∧
    (State.comparePosition s p).loaded = s.loaded ∧ (State.comparePosition s p).seconds = s.seconds ∧
    (State.comparePosition s p).secondsMs = s.secondsMs ∧ (State.comparePosition s p).cfg = s.cfg ∧
    (State.comparePosition s p).inputs = s.inputs ∧ (State.comparePosition s p).tracker = s.tracker ∧
    (State.comparePosition s p).tunnel = s.tunnel ∧ (State.comparePosition s p).holds = s.holds ∧
    (State.comparePosition s p).watch = s.watch ∧ (State.comparePosition s p).free = s.free := by
  unfold State.comparePosition
  repeat' split
  all_goals simp

@[simp] theorem State.compareCovered_frame (s : State) :
    (State.compareCovered s).pending = s.pending ∧ (State.compareCovered s).cell = s.cell ∧
    (State.compareCovered s).loaded = s.loaded ∧ (State.compareCovered s).seconds = s.seconds ∧
    (State.compareCovered s).secondsMs = s.secondsMs ∧ (State.compareCovered s).cfg = s.cfg ∧
    (State.compareCovered s).inputs = s.inputs ∧ (State.compareCovered s).tracker = s.tracker ∧
    (State.compareCovered s).tunnel = s.tunnel ∧ (State.compareCovered s).holds = s.holds ∧
    (State.compareCovered s).watch = s.watch ∧ (State.compareCovered s).free = s.free := by
  unfold State.compareCovered
  refine ⟨State.foldl_frame (·.pending) _ (by simp) _ _, State.foldl_frame (·.cell) _ (by simp) _ _,
    State.foldl_frame (·.loaded) _ (by simp) _ _, State.foldl_frame (·.seconds) _ (by simp) _ _,
    State.foldl_frame (·.secondsMs) _ (by simp) _ _, State.foldl_frame (·.cfg) _ (by simp) _ _,
    State.foldl_frame (·.inputs) _ (by simp) _ _, State.foldl_frame (·.tracker) _ (by simp) _ _,
    State.foldl_frame (·.tunnel) _ (by simp) _ _, State.foldl_frame (·.holds) _ (by simp) _ _,
    State.foldl_frame (·.watch) _ (by simp) _ _, State.foldl_frame (·.free) _ (by simp) _ _⟩

@[simp] theorem State.reloadDwell_frame (s : State) :
    (State.reloadDwell s).pending = s.pending ∧ (State.reloadDwell s).cell = s.cell ∧
    (State.reloadDwell s).loaded = s.loaded ∧ (State.reloadDwell s).seconds = s.seconds ∧
    (State.reloadDwell s).secondsMs = s.secondsMs ∧ (State.reloadDwell s).cfg = s.cfg ∧
    (State.reloadDwell s).inputs = s.inputs ∧ (State.reloadDwell s).table = s.table ∧
    (State.reloadDwell s).tracker = s.tracker ∧ (State.reloadDwell s).store = s.store ∧
    (State.reloadDwell s).mask = s.mask ∧ (State.reloadDwell s).spray = s.spray ∧ (State.reloadDwell s).supply = s.supply ∧
    (State.reloadDwell s).holds = s.holds ∧ (State.reloadDwell s).watch = s.watch ∧ (State.reloadDwell s).link = s.link ∧
    (State.reloadDwell s).free = s.free := by simp [State.reloadDwell]

@[simp] theorem State.atExit_frame (s : State) (f : Record → Record) :
    (State.atExit s f).pending = s.pending ∧ (State.atExit s f).cell = s.cell ∧ (State.atExit s f).loaded = s.loaded ∧
    (State.atExit s f).seconds = s.seconds ∧ (State.atExit s f).secondsMs = s.secondsMs ∧ (State.atExit s f).cfg = s.cfg ∧
    (State.atExit s f).inputs = s.inputs ∧ (State.atExit s f).tracker = s.tracker ∧ (State.atExit s f).store = s.store ∧
    (State.atExit s f).mask = s.mask ∧ (State.atExit s f).spray = s.spray ∧ (State.atExit s f).supply = s.supply ∧
    (State.atExit s f).tunnel = s.tunnel ∧ (State.atExit s f).holds = s.holds ∧ (State.atExit s f).watch = s.watch ∧
    (State.atExit s f).link = s.link ∧ (State.atExit s f).free = s.free := by simp [State.atExit]

@[simp] theorem State.judgeCure_frame (s : State) :
    (State.judgeCure s).pending = s.pending ∧ (State.judgeCure s).cell = s.cell ∧ (State.judgeCure s).loaded = s.loaded ∧
    (State.judgeCure s).seconds = s.seconds ∧ (State.judgeCure s).secondsMs = s.secondsMs ∧
    (State.judgeCure s).cfg = s.cfg ∧ (State.judgeCure s).inputs = s.inputs ∧ (State.judgeCure s).tracker = s.tracker ∧
    (State.judgeCure s).store = s.store ∧ (State.judgeCure s).mask = s.mask ∧ (State.judgeCure s).supply = s.supply ∧
    (State.judgeCure s).tunnel = s.tunnel ∧ (State.judgeCure s).holds = s.holds ∧ (State.judgeCure s).free = s.free := by
  unfold State.judgeCure
  repeat' split
  all_goals simp

@[simp] theorem State.appendCoat_frame (s : State) :
    (State.appendCoat s).pending = s.pending ∧ (State.appendCoat s).cell = s.cell ∧ (State.appendCoat s).loaded = s.loaded ∧
    (State.appendCoat s).seconds = s.seconds ∧ (State.appendCoat s).secondsMs = s.secondsMs ∧
    (State.appendCoat s).cfg = s.cfg ∧ (State.appendCoat s).inputs = s.inputs ∧ (State.appendCoat s).tracker = s.tracker ∧
    (State.appendCoat s).store = s.store ∧ (State.appendCoat s).mask = s.mask ∧ (State.appendCoat s).spray = s.spray ∧
    (State.appendCoat s).supply = s.supply ∧ (State.appendCoat s).tunnel = s.tunnel ∧ (State.appendCoat s).holds = s.holds ∧
    (State.appendCoat s).watch = s.watch ∧ (State.appendCoat s).link = s.link ∧ (State.appendCoat s).free = s.free := by
  unfold State.appendCoat
  repeat' split
  all_goals simp

@[simp] theorem State.auditTest_frame (s : State) :
    (State.auditTest s).pending = s.pending ∧ (State.auditTest s).cell = s.cell ∧ (State.auditTest s).loaded = s.loaded ∧
    (State.auditTest s).seconds = s.seconds ∧ (State.auditTest s).secondsMs = s.secondsMs ∧
    (State.auditTest s).cfg = s.cfg ∧ (State.auditTest s).inputs = s.inputs ∧ (State.auditTest s).tracker = s.tracker ∧
    (State.auditTest s).store = s.store ∧ (State.auditTest s).mask = s.mask ∧ (State.auditTest s).spray = s.spray ∧
    (State.auditTest s).supply = s.supply ∧ (State.auditTest s).tunnel = s.tunnel ∧ (State.auditTest s).holds = s.holds ∧
    (State.auditTest s).link = s.link ∧ (State.auditTest s).free = s.free := by
  unfold State.auditTest
  repeat' split
  all_goals simp

@[simp] theorem State.placed_frame (s : State) :
    (State.placed s).pending = s.pending ∧ (State.placed s).cell = s.cell ∧ (State.placed s).loaded = s.loaded ∧
    (State.placed s).seconds = s.seconds ∧ (State.placed s).secondsMs = s.secondsMs ∧ (State.placed s).cfg = s.cfg ∧
    (State.placed s).inputs = s.inputs ∧ (State.placed s).store = s.store ∧ (State.placed s).mask = s.mask ∧
    (State.placed s).supply = s.supply ∧ (State.placed s).tunnel = s.tunnel ∧ (State.placed s).holds = s.holds ∧
    (State.placed s).free = s.free := by simp [State.placed]

@[simp] theorem State.endIndex_frame (s : State) :
    (State.endIndex s).pending = s.pending ∧ (State.endIndex s).cell = s.cell ∧ (State.endIndex s).loaded = s.loaded ∧
    (State.endIndex s).seconds = s.seconds ∧ (State.endIndex s).secondsMs = s.secondsMs ∧ (State.endIndex s).cfg = s.cfg ∧
    (State.endIndex s).inputs = s.inputs ∧ (State.endIndex s).holds = s.holds ∧ (State.endIndex s).free = s.free := by
  unfold State.endIndex
  dsimp only
  split <;> simp

@[simp] theorem State.indexDoneRise_frame (s : State) :
    s.indexDoneRise.pending = s.pending ∧ s.indexDoneRise.cell = s.cell ∧ s.indexDoneRise.loaded = s.loaded ∧
    s.indexDoneRise.seconds = s.seconds ∧ s.indexDoneRise.secondsMs = s.secondsMs ∧ s.indexDoneRise.cfg = s.cfg ∧
    s.indexDoneRise.table = s.table ∧ s.indexDoneRise.tracker = s.tracker ∧ s.indexDoneRise.store = s.store ∧ s.indexDoneRise.mask =
    s.mask ∧ s.indexDoneRise.spray = s.spray ∧ s.indexDoneRise.supply = s.supply ∧ s.indexDoneRise.tunnel = s.tunnel ∧
    s.indexDoneRise.holds = s.holds ∧ s.indexDoneRise.watch = s.watch ∧ s.indexDoneRise.link = s.link ∧ s.indexDoneRise.free =
    s.free := by
  simp [State.indexDoneRise]

@[simp] theorem State.setRackLevel_frame (s : State) (r : Fin 8) (b : Bool) :
    (State.setRackLevel s r b).pending = s.pending ∧ (State.setRackLevel s r b).cell = s.cell ∧
    (State.setRackLevel s r b).loaded = s.loaded ∧ (State.setRackLevel s r b).seconds = s.seconds ∧
    (State.setRackLevel s r b).secondsMs = s.secondsMs ∧ (State.setRackLevel s r b).cfg = s.cfg ∧
    (State.setRackLevel s r b).table = s.table ∧ (State.setRackLevel s r b).tracker = s.tracker ∧
    (State.setRackLevel s r b).store = s.store ∧ (State.setRackLevel s r b).mask = s.mask ∧
    (State.setRackLevel s r b).spray = s.spray ∧ (State.setRackLevel s r b).supply = s.supply ∧
    (State.setRackLevel s r b).tunnel = s.tunnel ∧ (State.setRackLevel s r b).holds = s.holds ∧
    (State.setRackLevel s r b).watch = s.watch ∧ (State.setRackLevel s r b).link = s.link ∧
    (State.setRackLevel s r b).free = s.free := by simp [State.setRackLevel]

@[simp] theorem State.rackChange_frame (s : State) (r : Fin 8) (b : Bool) :
    (State.rackChange s r b).pending = s.pending ∧ (State.rackChange s r b).loaded = s.loaded ∧
    (State.rackChange s r b).seconds = s.seconds ∧ (State.rackChange s r b).secondsMs = s.secondsMs ∧
    (State.rackChange s r b).cfg = s.cfg ∧ (State.rackChange s r b).free = s.free := by
  unfold State.rackChange
  dsimp only
  repeat' split
  all_goals simp

@[simp] theorem State.orphanExpiry_frame (s : State) :
    (State.orphanExpiry s).pending = s.pending ∧ (State.orphanExpiry s).cell = s.cell ∧
    (State.orphanExpiry s).loaded = s.loaded ∧ (State.orphanExpiry s).seconds = s.seconds ∧
    (State.orphanExpiry s).secondsMs = s.secondsMs ∧ (State.orphanExpiry s).cfg = s.cfg ∧
    (State.orphanExpiry s).inputs = s.inputs ∧ (State.orphanExpiry s).store = s.store ∧ (State.orphanExpiry s).free = s.free := by
  unfold State.orphanExpiry
  repeat' split
  all_goals simp

@[simp] theorem State.transferExpiry_frame (s : State) :
    (State.transferExpiry s).pending = s.pending ∧ (State.transferExpiry s).loaded = s.loaded ∧
    (State.transferExpiry s).seconds = s.seconds ∧ (State.transferExpiry s).secondsMs = s.secondsMs ∧
    (State.transferExpiry s).cfg = s.cfg ∧ (State.transferExpiry s).inputs = s.inputs ∧
    (State.transferExpiry s).free = s.free := by
  unfold State.transferExpiry
  repeat' split
  all_goals simp

/-! ## Inbound.lean -/

@[simp] theorem State.takeWatchClear_frame (s : State) (t : Telegram) :
    (State.takeWatchClear s t).pending = s.pending ∧ (State.takeWatchClear s t).cell = s.cell ∧
    (State.takeWatchClear s t).loaded = s.loaded ∧ (State.takeWatchClear s t).seconds = s.seconds ∧
    (State.takeWatchClear s t).secondsMs = s.secondsMs ∧ (State.takeWatchClear s t).cfg = s.cfg ∧
    (State.takeWatchClear s t).inputs = s.inputs ∧ (State.takeWatchClear s t).table = s.table ∧
    (State.takeWatchClear s t).tracker = s.tracker ∧ (State.takeWatchClear s t).store = s.store ∧
    (State.takeWatchClear s t).mask = s.mask ∧ (State.takeWatchClear s t).spray = s.spray ∧
    (State.takeWatchClear s t).supply = s.supply ∧ (State.takeWatchClear s t).tunnel = s.tunnel ∧
    (State.takeWatchClear s t).holds = s.holds ∧ (State.takeWatchClear s t).link = s.link ∧
    (State.takeWatchClear s t).free = s.free := by
  unfold State.takeWatchClear
  split <;> simp

@[simp] theorem State.takeStatusQuery_frame (s : State) (t : Telegram) :
    (State.takeStatusQuery s t).pending = s.pending ∧ (State.takeStatusQuery s t).cell = s.cell ∧
    (State.takeStatusQuery s t).loaded = s.loaded ∧ (State.takeStatusQuery s t).seconds = s.seconds ∧
    (State.takeStatusQuery s t).secondsMs = s.secondsMs ∧ (State.takeStatusQuery s t).cfg = s.cfg ∧
    (State.takeStatusQuery s t).inputs = s.inputs ∧ (State.takeStatusQuery s t).table = s.table ∧
    (State.takeStatusQuery s t).tracker = s.tracker ∧ (State.takeStatusQuery s t).store = s.store ∧
    (State.takeStatusQuery s t).mask = s.mask ∧ (State.takeStatusQuery s t).spray = s.spray ∧
    (State.takeStatusQuery s t).supply = s.supply ∧ (State.takeStatusQuery s t).tunnel = s.tunnel ∧
    (State.takeStatusQuery s t).holds = s.holds ∧ (State.takeStatusQuery s t).watch = s.watch ∧
    (State.takeStatusQuery s t).free = s.free := by
  unfold State.takeStatusQuery
  repeat' split
  all_goals simp

/-! ## Guard.lean -/

@[simp] theorem State.setGuard_frame (s : State) (opened : Bool) :
    (State.setGuard s opened).pending = s.pending ∧ (State.setGuard s opened).cell = s.cell ∧
    (State.setGuard s opened).loaded = s.loaded ∧ (State.setGuard s opened).seconds = s.seconds ∧
    (State.setGuard s opened).secondsMs = s.secondsMs ∧ (State.setGuard s opened).cfg = s.cfg ∧
    (State.setGuard s opened).table = s.table ∧ (State.setGuard s opened).tracker = s.tracker ∧
    (State.setGuard s opened).store = s.store ∧ (State.setGuard s opened).mask = s.mask ∧
    (State.setGuard s opened).spray = s.spray ∧ (State.setGuard s opened).supply = s.supply ∧
    (State.setGuard s opened).tunnel = s.tunnel ∧ (State.setGuard s opened).holds = s.holds ∧
    (State.setGuard s opened).watch = s.watch ∧ (State.setGuard s opened).link = s.link ∧
    (State.setGuard s opened).free = s.free := by simp [State.setGuard]

@[simp] theorem State.putHold_frame (s : State) :
    (State.putHold s).pending = s.pending ∧ (State.putHold s).loaded = s.loaded ∧ (State.putHold s).seconds = s.seconds ∧
    (State.putHold s).secondsMs = s.secondsMs ∧ (State.putHold s).cfg = s.cfg ∧ (State.putHold s).inputs = s.inputs ∧
    (State.putHold s).table = s.table ∧ (State.putHold s).store = s.store ∧ (State.putHold s).mask = s.mask ∧
    (State.putHold s).spray = s.spray ∧ (State.putHold s).supply = s.supply ∧ (State.putHold s).tunnel = s.tunnel ∧
    (State.putHold s).holds = s.holds ∧ (State.putHold s).watch = s.watch ∧ (State.putHold s).link = s.link ∧
    (State.putHold s).free = s.free := by simp [State.putHold]

@[simp] theorem State.guardSpray_frame (s : State) :
    (State.guardSpray s).pending = s.pending ∧ (State.guardSpray s).cell = s.cell ∧ (State.guardSpray s).loaded = s.loaded ∧
    (State.guardSpray s).seconds = s.seconds ∧ (State.guardSpray s).secondsMs = s.secondsMs ∧
    (State.guardSpray s).cfg = s.cfg ∧ (State.guardSpray s).inputs = s.inputs ∧ (State.guardSpray s).tracker = s.tracker ∧
    (State.guardSpray s).store = s.store ∧ (State.guardSpray s).mask = s.mask ∧ (State.guardSpray s).tunnel = s.tunnel ∧
    (State.guardSpray s).holds = s.holds ∧ (State.guardSpray s).free = s.free := by
  unfold State.guardSpray
  repeat' split
  all_goals simp

@[simp] theorem State.guardIndex_frame (s : State) :
    (State.guardIndex s).pending = s.pending ∧ (State.guardIndex s).cell = s.cell ∧ (State.guardIndex s).loaded = s.loaded ∧
    (State.guardIndex s).seconds = s.seconds ∧ (State.guardIndex s).secondsMs = s.secondsMs ∧
    (State.guardIndex s).cfg = s.cfg ∧ (State.guardIndex s).inputs = s.inputs ∧ (State.guardIndex s).table = s.table ∧
    (State.guardIndex s).tracker = s.tracker ∧ (State.guardIndex s).store = s.store ∧ (State.guardIndex s).mask = s.mask ∧
    (State.guardIndex s).spray = s.spray ∧ (State.guardIndex s).supply = s.supply ∧ (State.guardIndex s).holds = s.holds ∧
    (State.guardIndex s).watch = s.watch ∧ (State.guardIndex s).link = s.link ∧ (State.guardIndex s).free = s.free := by
  unfold State.guardIndex
  split <;> simp

@[simp] theorem State.guardOpens_frame (s : State) :
    (State.guardOpens s).pending = s.pending ∧ (State.guardOpens s).loaded = s.loaded ∧
    (State.guardOpens s).seconds = s.seconds ∧ (State.guardOpens s).secondsMs = s.secondsMs ∧
    (State.guardOpens s).cfg = s.cfg ∧ (State.guardOpens s).inputs = s.inputs ∧ (State.guardOpens s).store = s.store ∧
    (State.guardOpens s).mask = s.mask ∧ (State.guardOpens s).holds = s.holds ∧ (State.guardOpens s).free = s.free := by simp [State.guardOpens]

@[simp] theorem State.liftHold_frame (s : State) :
    (State.liftHold s).pending = s.pending ∧ (State.liftHold s).loaded = s.loaded ∧ (State.liftHold s).seconds = s.seconds ∧
    (State.liftHold s).secondsMs = s.secondsMs ∧ (State.liftHold s).cfg = s.cfg ∧ (State.liftHold s).inputs = s.inputs ∧
    (State.liftHold s).table = s.table ∧ (State.liftHold s).store = s.store ∧ (State.liftHold s).mask = s.mask ∧
    (State.liftHold s).spray = s.spray ∧ (State.liftHold s).supply = s.supply ∧ (State.liftHold s).tunnel = s.tunnel ∧
    (State.liftHold s).holds = s.holds ∧ (State.liftHold s).watch = s.watch ∧ (State.liftHold s).link = s.link ∧
    (State.liftHold s).free = s.free := by simp [State.liftHold]

@[simp] theorem State.resumeIndex_frame (s : State) :
    (State.resumeIndex s).pending = s.pending ∧ (State.resumeIndex s).cell = s.cell ∧
    (State.resumeIndex s).loaded = s.loaded ∧ (State.resumeIndex s).seconds = s.seconds ∧
    (State.resumeIndex s).secondsMs = s.secondsMs ∧ (State.resumeIndex s).cfg = s.cfg ∧
    (State.resumeIndex s).inputs = s.inputs ∧ (State.resumeIndex s).table = s.table ∧
    (State.resumeIndex s).tracker = s.tracker ∧ (State.resumeIndex s).store = s.store ∧
    (State.resumeIndex s).mask = s.mask ∧ (State.resumeIndex s).spray = s.spray ∧ (State.resumeIndex s).supply = s.supply ∧
    (State.resumeIndex s).holds = s.holds ∧ (State.resumeIndex s).watch = s.watch ∧ (State.resumeIndex s).link = s.link ∧
    (State.resumeIndex s).free = s.free := by
  unfold State.resumeIndex
  split <;> simp

@[simp] theorem State.postDueOffer_frame (s : State) :
    (State.postDueOffer s).pending = s.pending ∧ (State.postDueOffer s).cell = s.cell ∧
    (State.postDueOffer s).loaded = s.loaded ∧ (State.postDueOffer s).seconds = s.seconds ∧
    (State.postDueOffer s).secondsMs = s.secondsMs ∧ (State.postDueOffer s).cfg = s.cfg ∧
    (State.postDueOffer s).inputs = s.inputs ∧ (State.postDueOffer s).tracker = s.tracker ∧
    (State.postDueOffer s).store = s.store ∧ (State.postDueOffer s).mask = s.mask ∧ (State.postDueOffer s).spray = s.spray ∧
    (State.postDueOffer s).supply = s.supply ∧ (State.postDueOffer s).tunnel = s.tunnel ∧
    (State.postDueOffer s).holds = s.holds ∧ (State.postDueOffer s).watch = s.watch ∧ (State.postDueOffer s).free = s.free := by
  unfold State.postDueOffer
  split <;> simp

@[simp] theorem State.enterHeld_frame (s : State) :
    (State.enterHeld s).pending = s.pending ∧ (State.enterHeld s).cell = s.cell ∧ (State.enterHeld s).loaded = s.loaded ∧
    (State.enterHeld s).seconds = s.seconds ∧ (State.enterHeld s).secondsMs = s.secondsMs ∧
    (State.enterHeld s).cfg = s.cfg ∧ (State.enterHeld s).inputs = s.inputs ∧ (State.enterHeld s).table = s.table ∧
    (State.enterHeld s).tracker = s.tracker ∧ (State.enterHeld s).store = s.store ∧ (State.enterHeld s).mask = s.mask ∧
    (State.enterHeld s).spray = s.spray ∧ (State.enterHeld s).supply = s.supply ∧ (State.enterHeld s).tunnel = s.tunnel ∧
    (State.enterHeld s).holds = s.holds ∧ (State.enterHeld s).watch = s.watch ∧ (State.enterHeld s).free = s.free := by simp [State.enterHeld]

@[simp] theorem State.endHold_frame (s : State) :
    (State.endHold s).pending = s.pending ∧ (State.endHold s).loaded = s.loaded ∧ (State.endHold s).seconds = s.seconds ∧
    (State.endHold s).secondsMs = s.secondsMs ∧ (State.endHold s).cfg = s.cfg ∧ (State.endHold s).inputs = s.inputs ∧
    (State.endHold s).store = s.store ∧ (State.endHold s).free = s.free := by simp [State.endHold]

/-! ## LinkEvents.lean -/

@[simp] theorem State.lineIdle_frame (s : State) :
    (State.lineIdle s).pending = s.pending ∧ (State.lineIdle s).cell = s.cell ∧ (State.lineIdle s).loaded = s.loaded ∧
    (State.lineIdle s).seconds = s.seconds ∧ (State.lineIdle s).secondsMs = s.secondsMs ∧ (State.lineIdle s).cfg = s.cfg ∧
    (State.lineIdle s).inputs = s.inputs ∧ (State.lineIdle s).table = s.table ∧ (State.lineIdle s).tracker = s.tracker ∧
    (State.lineIdle s).store = s.store ∧ (State.lineIdle s).mask = s.mask ∧ (State.lineIdle s).spray = s.spray ∧
    (State.lineIdle s).supply = s.supply ∧ (State.lineIdle s).tunnel = s.tunnel ∧ (State.lineIdle s).holds = s.holds ∧
    (State.lineIdle s).watch = s.watch ∧ (State.lineIdle s).free = s.free := by
  unfold State.lineIdle
  split <;> simp

@[simp] theorem State.hearStart_frame (s : State) :
    (State.hearStart s).pending = s.pending ∧ (State.hearStart s).cell = s.cell ∧ (State.hearStart s).loaded = s.loaded ∧
    (State.hearStart s).seconds = s.seconds ∧ (State.hearStart s).secondsMs = s.secondsMs ∧
    (State.hearStart s).cfg = s.cfg ∧ (State.hearStart s).inputs = s.inputs ∧ (State.hearStart s).table = s.table ∧
    (State.hearStart s).tracker = s.tracker ∧ (State.hearStart s).store = s.store ∧ (State.hearStart s).mask = s.mask ∧
    (State.hearStart s).spray = s.spray ∧ (State.hearStart s).supply = s.supply ∧ (State.hearStart s).tunnel = s.tunnel ∧
    (State.hearStart s).holds = s.holds ∧ (State.hearStart s).watch = s.watch ∧ (State.hearStart s).free = s.free := by
  unfold State.hearStart
  split <;> simp

@[simp] theorem State.beginSend_frame (s : State) (e : OutEntry) :
    (State.beginSend s e).pending = s.pending ∧ (State.beginSend s e).cell = s.cell ∧
    (State.beginSend s e).loaded = s.loaded ∧ (State.beginSend s e).seconds = s.seconds ∧
    (State.beginSend s e).secondsMs = s.secondsMs ∧ (State.beginSend s e).cfg = s.cfg ∧
    (State.beginSend s e).inputs = s.inputs ∧ (State.beginSend s e).table = s.table ∧
    (State.beginSend s e).tracker = s.tracker ∧ (State.beginSend s e).store = s.store ∧
    (State.beginSend s e).mask = s.mask ∧ (State.beginSend s e).spray = s.spray ∧ (State.beginSend s e).tunnel = s.tunnel ∧
    (State.beginSend s e).holds = s.holds ∧ (State.beginSend s e).watch = s.watch ∧ (State.beginSend s e).free = s.free := by simp [State.beginSend]

@[simp] theorem State.accessBoundary_frame (s : State) (slot : Nat) :
    (State.accessBoundary s slot).pending = s.pending ∧ (State.accessBoundary s slot).cell = s.cell ∧
    (State.accessBoundary s slot).loaded = s.loaded ∧ (State.accessBoundary s slot).seconds = s.seconds ∧
    (State.accessBoundary s slot).secondsMs = s.secondsMs ∧ (State.accessBoundary s slot).cfg = s.cfg ∧
    (State.accessBoundary s slot).inputs = s.inputs ∧ (State.accessBoundary s slot).table = s.table ∧
    (State.accessBoundary s slot).tracker = s.tracker ∧ (State.accessBoundary s slot).store = s.store ∧
    (State.accessBoundary s slot).mask = s.mask ∧ (State.accessBoundary s slot).spray = s.spray ∧
    (State.accessBoundary s slot).tunnel = s.tunnel ∧ (State.accessBoundary s slot).holds = s.holds ∧
    (State.accessBoundary s slot).watch = s.watch ∧ (State.accessBoundary s slot).free = s.free := by
  unfold State.accessBoundary
  repeat' split
  all_goals simp

@[simp] theorem State.clash_frame (s : State) :
    (State.clash s).pending = s.pending ∧ (State.clash s).cell = s.cell ∧ (State.clash s).loaded = s.loaded ∧
    (State.clash s).seconds = s.seconds ∧ (State.clash s).secondsMs = s.secondsMs ∧ (State.clash s).cfg = s.cfg ∧
    (State.clash s).inputs = s.inputs ∧ (State.clash s).store = s.store ∧ (State.clash s).free = s.free := by
  unfold State.clash
  repeat' split
  all_goals simp

@[simp] theorem State.sendReport_frame (s : State) (e : OutEntry) (refused : Bool) :
    (State.sendReport s e refused).pending = s.pending ∧ (State.sendReport s e refused).cell = s.cell ∧
    (State.sendReport s e refused).loaded = s.loaded ∧ (State.sendReport s e refused).seconds = s.seconds ∧
    (State.sendReport s e refused).secondsMs = s.secondsMs ∧ (State.sendReport s e refused).cfg = s.cfg ∧
    (State.sendReport s e refused).inputs = s.inputs ∧ (State.sendReport s e refused).store = s.store ∧
    (State.sendReport s e refused).free = s.free := by
  unfold State.sendReport
  repeat' split
  all_goals simp

@[simp] theorem State.endSend_frame (s : State) (e : OutEntry) (refused : Bool) :
    (State.endSend s e refused).pending = s.pending ∧ (State.endSend s e refused).cell = s.cell ∧
    (State.endSend s e refused).loaded = s.loaded ∧ (State.endSend s e refused).seconds = s.seconds ∧
    (State.endSend s e refused).secondsMs = s.secondsMs ∧ (State.endSend s e refused).cfg = s.cfg ∧
    (State.endSend s e refused).inputs = s.inputs ∧ (State.endSend s e refused).store = s.store ∧
    (State.endSend s e refused).free = s.free := by simp [State.endSend]

@[simp] theorem State.endSendOf_frame (s : State) (o : Option OutEntry) (refused : Bool) :
    (State.endSendOf s o refused).pending = s.pending ∧ (State.endSendOf s o refused).cell = s.cell ∧
    (State.endSendOf s o refused).loaded = s.loaded ∧ (State.endSendOf s o refused).seconds = s.seconds ∧
    (State.endSendOf s o refused).secondsMs = s.secondsMs ∧ (State.endSendOf s o refused).cfg = s.cfg ∧
    (State.endSendOf s o refused).inputs = s.inputs ∧ (State.endSendOf s o refused).store = s.store ∧
    (State.endSendOf s o refused).free = s.free := by
  unfold State.endSendOf
  split <;> simp

@[simp] theorem State.openSlot_frame (s : State) (good : Option Telegram) (driven : Bool) :
    (State.openSlot s good driven).pending = s.pending ∧ (State.openSlot s good driven).cell = s.cell ∧
    (State.openSlot s good driven).loaded = s.loaded ∧ (State.openSlot s good driven).seconds = s.seconds ∧
    (State.openSlot s good driven).secondsMs = s.secondsMs ∧ (State.openSlot s good driven).cfg = s.cfg ∧
    (State.openSlot s good driven).inputs = s.inputs ∧ (State.openSlot s good driven).table = s.table ∧
    (State.openSlot s good driven).tracker = s.tracker ∧ (State.openSlot s good driven).store = s.store ∧
    (State.openSlot s good driven).mask = s.mask ∧ (State.openSlot s good driven).spray = s.spray ∧
    (State.openSlot s good driven).supply = s.supply ∧ (State.openSlot s good driven).tunnel = s.tunnel ∧
    (State.openSlot s good driven).holds = s.holds ∧ (State.openSlot s good driven).watch = s.watch ∧
    (State.openSlot s good driven).free = s.free := by simp [State.openSlot]

@[simp] theorem State.closeSlot_frame (s : State) :
    (State.closeSlot s).pending = s.pending ∧ (State.closeSlot s).cell = s.cell ∧ (State.closeSlot s).loaded = s.loaded ∧
    (State.closeSlot s).seconds = s.seconds ∧ (State.closeSlot s).secondsMs = s.secondsMs ∧ (State.closeSlot s).cfg = s.cfg ∧
    (State.closeSlot s).inputs = s.inputs ∧ (State.closeSlot s).table = s.table ∧ (State.closeSlot s).tracker = s.tracker ∧
    (State.closeSlot s).store = s.store ∧ (State.closeSlot s).mask = s.mask ∧ (State.closeSlot s).spray = s.spray ∧
    (State.closeSlot s).supply = s.supply ∧ (State.closeSlot s).tunnel = s.tunnel ∧ (State.closeSlot s).holds = s.holds ∧
    (State.closeSlot s).watch = s.watch ∧ (State.closeSlot s).free = s.free := by simp [State.closeSlot]

@[simp] theorem State.toView_frame (s : State) (t : Telegram) :
    (State.toView s t).pending = s.pending ∧ (State.toView s t).cell = s.cell ∧ (State.toView s t).loaded = s.loaded ∧
    (State.toView s t).seconds = s.seconds ∧ (State.toView s t).secondsMs = s.secondsMs ∧ (State.toView s t).cfg = s.cfg ∧
    (State.toView s t).inputs = s.inputs ∧ (State.toView s t).store = s.store ∧ (State.toView s t).free = s.free := by
  unfold State.toView State.when
  repeat' split
  all_goals simp

@[simp] theorem State.toInbound_frame (s : State) (t : Telegram) :
    (State.toInbound s t).pending = s.pending ∧ (State.toInbound s t).cell = s.cell ∧
    (State.toInbound s t).loaded = s.loaded ∧ (State.toInbound s t).seconds = s.seconds ∧
    (State.toInbound s t).secondsMs = s.secondsMs ∧ (State.toInbound s t).cfg = s.cfg ∧
    (State.toInbound s t).inputs = s.inputs ∧ (State.toInbound s t).table = s.table ∧
    (State.toInbound s t).tracker = s.tracker ∧ (State.toInbound s t).store = s.store ∧
    (State.toInbound s t).mask = s.mask ∧ (State.toInbound s t).spray = s.spray ∧ (State.toInbound s t).supply = s.supply ∧
    (State.toInbound s t).tunnel = s.tunnel ∧ (State.toInbound s t).holds = s.holds ∧
    (State.toInbound s t).watch = s.watch ∧ (State.toInbound s t).free = s.free := by simp [State.toInbound]

@[simp] theorem State.takeGood_frame (s : State) (t : Telegram) :
    (State.takeGood s t).pending = s.pending ∧ (State.takeGood s t).cell = s.cell ∧ (State.takeGood s t).loaded = s.loaded ∧
    (State.takeGood s t).seconds = s.seconds ∧ (State.takeGood s t).secondsMs = s.secondsMs ∧
    (State.takeGood s t).cfg = s.cfg ∧ (State.takeGood s t).inputs = s.inputs ∧ (State.takeGood s t).store = s.store ∧
    (State.takeGood s t).free = s.free := by
  unfold State.takeGood
  repeat' split
  all_goals simp

@[simp] theorem State.hearBytes_frame (s : State) (bytes : List Byte) (f : Bool) :
    (State.hearBytes s bytes f).pending = s.pending ∧ (State.hearBytes s bytes f).cell = s.cell ∧
    (State.hearBytes s bytes f).loaded = s.loaded ∧ (State.hearBytes s bytes f).seconds = s.seconds ∧
    (State.hearBytes s bytes f).secondsMs = s.secondsMs ∧ (State.hearBytes s bytes f).cfg = s.cfg ∧
    (State.hearBytes s bytes f).inputs = s.inputs ∧ (State.hearBytes s bytes f).table = s.table ∧
    (State.hearBytes s bytes f).tracker = s.tracker ∧ (State.hearBytes s bytes f).store = s.store ∧
    (State.hearBytes s bytes f).mask = s.mask ∧ (State.hearBytes s bytes f).spray = s.spray ∧
    (State.hearBytes s bytes f).supply = s.supply ∧ (State.hearBytes s bytes f).tunnel = s.tunnel ∧
    (State.hearBytes s bytes f).holds = s.holds ∧ (State.hearBytes s bytes f).watch = s.watch ∧
    (State.hearBytes s bytes f).free = s.free := by
  unfold State.hearBytes
  repeat' split
  all_goals simp

@[simp] theorem State.goodTelegram_frame (s : State) (e : HeardEvent) :
    (State.goodTelegram s e).pending = s.pending ∧ (State.goodTelegram s e).cell = s.cell ∧ (State.goodTelegram s e).loaded = s.loaded ∧
    (State.goodTelegram s e).seconds = s.seconds ∧ (State.goodTelegram s e).secondsMs = s.secondsMs ∧
    (State.goodTelegram s e).cfg = s.cfg ∧ (State.goodTelegram s e).inputs = s.inputs ∧ (State.goodTelegram s e).store = s.store ∧
    (State.goodTelegram s e).free = s.free := by
  unfold State.goodTelegram
  repeat' split
  all_goals simp

@[simp] theorem State.faultyTelegram_frame (s : State) (e : HeardEvent) :
    (State.faultyTelegram s e).pending = s.pending ∧ (State.faultyTelegram s e).cell = s.cell ∧
    (State.faultyTelegram s e).loaded = s.loaded ∧ (State.faultyTelegram s e).seconds = s.seconds ∧
    (State.faultyTelegram s e).secondsMs = s.secondsMs ∧ (State.faultyTelegram s e).cfg = s.cfg ∧
    (State.faultyTelegram s e).inputs = s.inputs ∧ (State.faultyTelegram s e).table = s.table ∧
    (State.faultyTelegram s e).tracker = s.tracker ∧ (State.faultyTelegram s e).store = s.store ∧
    (State.faultyTelegram s e).mask = s.mask ∧ (State.faultyTelegram s e).spray = s.spray ∧
    (State.faultyTelegram s e).supply = s.supply ∧ (State.faultyTelegram s e).tunnel = s.tunnel ∧
    (State.faultyTelegram s e).holds = s.holds ∧ (State.faultyTelegram s e).watch = s.watch ∧
    (State.faultyTelegram s e).free = s.free := by
  unfold State.faultyTelegram
  repeat' split
  all_goals simp

/-! ## Load.lean -/

@[simp] theorem State.scanLevels_frame (s : State) (ps : BitVec 11) (rs : BitVec 8) :
    (State.scanLevels s ps rs).pending = s.pending ∧ (State.scanLevels s ps rs).cell = s.cell ∧
    (State.scanLevels s ps rs).loaded = s.loaded ∧ (State.scanLevels s ps rs).seconds = s.seconds ∧
    (State.scanLevels s ps rs).secondsMs = s.secondsMs ∧ (State.scanLevels s ps rs).cfg = s.cfg ∧
    (State.scanLevels s ps rs).table = s.table ∧ (State.scanLevels s ps rs).tracker = s.tracker ∧
    (State.scanLevels s ps rs).store = s.store ∧ (State.scanLevels s ps rs).mask = s.mask ∧
    (State.scanLevels s ps rs).spray = s.spray ∧ (State.scanLevels s ps rs).supply = s.supply ∧
    (State.scanLevels s ps rs).tunnel = s.tunnel ∧ (State.scanLevels s ps rs).holds = s.holds ∧
    (State.scanLevels s ps rs).watch = s.watch ∧ (State.scanLevels s ps rs).link = s.link ∧
    (State.scanLevels s ps rs).free = s.free := by simp [State.scanLevels]

@[simp] theorem State.scanTable_frame (s : State) :
    (State.scanTable s).pending = s.pending ∧ (State.scanTable s).cell = s.cell ∧ (State.scanTable s).loaded = s.loaded ∧
    (State.scanTable s).seconds = s.seconds ∧ (State.scanTable s).secondsMs = s.secondsMs ∧
    (State.scanTable s).cfg = s.cfg ∧ (State.scanTable s).inputs = s.inputs ∧ (State.scanTable s).tracker = s.tracker ∧
    (State.scanTable s).store = s.store ∧ (State.scanTable s).spray = s.spray ∧ (State.scanTable s).supply = s.supply ∧
    (State.scanTable s).tunnel = s.tunnel ∧ (State.scanTable s).holds = s.holds ∧ (State.scanTable s).watch = s.watch ∧
    (State.scanTable s).link = s.link ∧ (State.scanTable s).free = s.free := by
  unfold State.scanTable
  refine ⟨State.foldl_frame (·.pending) _ (by intros; split <;> simp) _ _,
    State.foldl_frame (·.cell) _ (by intros; split <;> simp) _ _,
    State.foldl_frame (·.loaded) _ (by intros; split <;> simp) _ _,
    State.foldl_frame (·.seconds) _ (by intros; split <;> simp) _ _,
    State.foldl_frame (·.secondsMs) _ (by intros; split <;> simp) _ _,
    State.foldl_frame (·.cfg) _ (by intros; split <;> simp) _ _,
    State.foldl_frame (·.inputs) _ (by intros; split <;> simp) _ _,
    State.foldl_frame (·.tracker) _ (by intros; split <;> simp) _ _,
    State.foldl_frame (·.store) _ (by intros; split <;> simp) _ _,
    State.foldl_frame (·.spray) _ (by intros; split <;> simp) _ _,
    State.foldl_frame (·.supply) _ (by intros; split <;> simp) _ _,
    State.foldl_frame (·.tunnel) _ (by intros; split <;> simp) _ _,
    State.foldl_frame (·.holds) _ (by intros; split <;> simp) _ _,
    State.foldl_frame (·.watch) _ (by intros; split <;> simp) _ _,
    State.foldl_frame (·.link) _ (by intros; split <;> simp) _ _,
    State.foldl_frame (·.free) _ (by intros; split <;> simp) _ _⟩

@[simp] theorem State.scanRack_frame (s : State) :
    (State.scanRack s).pending = s.pending ∧ (State.scanRack s).cell = s.cell ∧ (State.scanRack s).loaded = s.loaded ∧
    (State.scanRack s).seconds = s.seconds ∧ (State.scanRack s).secondsMs = s.secondsMs ∧ (State.scanRack s).cfg = s.cfg ∧
    (State.scanRack s).inputs = s.inputs ∧ (State.scanRack s).table = s.table ∧ (State.scanRack s).tracker = s.tracker ∧
    (State.scanRack s).store = s.store ∧ (State.scanRack s).mask = s.mask ∧ (State.scanRack s).spray = s.spray ∧
    (State.scanRack s).supply = s.supply ∧ (State.scanRack s).tunnel = s.tunnel ∧ (State.scanRack s).watch = s.watch ∧
    (State.scanRack s).free = s.free := by simp [State.scanRack]

@[simp] theorem State.scanTunnel_frame (s : State) :
    (State.scanTunnel s).pending = s.pending ∧ (State.scanTunnel s).cell = s.cell ∧ (State.scanTunnel s).loaded = s.loaded ∧
    (State.scanTunnel s).seconds = s.seconds ∧ (State.scanTunnel s).secondsMs = s.secondsMs ∧
    (State.scanTunnel s).cfg = s.cfg ∧ (State.scanTunnel s).inputs = s.inputs ∧ (State.scanTunnel s).table = s.table ∧
    (State.scanTunnel s).tracker = s.tracker ∧ (State.scanTunnel s).store = s.store ∧ (State.scanTunnel s).mask = s.mask ∧
    (State.scanTunnel s).spray = s.spray ∧ (State.scanTunnel s).supply = s.supply ∧ (State.scanTunnel s).holds = s.holds ∧
    (State.scanTunnel s).watch = s.watch ∧ (State.scanTunnel s).link = s.link ∧ (State.scanTunnel s).free = s.free := by simp [State.scanTunnel]

@[simp] theorem State.scan_frame (s : State) :
    (State.scan s).pending = s.pending ∧ (State.scan s).loaded = s.loaded ∧ (State.scan s).seconds = s.seconds ∧
    (State.scan s).secondsMs = s.secondsMs ∧ (State.scan s).cfg = s.cfg ∧ (State.scan s).inputs = s.inputs ∧
    (State.scan s).store = s.store ∧ (State.scan s).free = s.free := by simp [State.scan]

end Sys2Proof.Machine
end

