-- ==== Sys2Proof/Laws/Shared.lean ====
section
/-! SUPPORT. What the shared operations do where a frame does not say it: a record leaving the table, an event reported to the watch
counters, a telegram's bytes, and a held telegram entering the queue. -/

namespace Sys2Proof.Machine

/-! ## Records that leave the table (R3, R49) -/

/-- A count over the table, with one place emptied. -/
theorem PerPos.countP_put_none {t : PerPos (Option Record)} {p : Position} {r : Record} (h : t.get p = some r)
    (f : Option Record → Bool) (hf : f none = false) :
    (t.put p none).toList.countP f + (if f (some r) = true then 1 else 0) = t.toList.countP f := by
  cases p <;> simp only [PerPos.get] at h <;>
    simp only [PerPos.toList, positions, List.map_cons, List.map_nil, PerPos.get, PerPos.put, List.countP_cons,
      List.countP_nil, h, hf] <;>
    simp only [Bool.false_eq_true, if_false] <;> omega

/-- The references of a recipe record, with the record at one place gone. -/
theorem State.refCount_put_none (s : State) {p : Position} {r : Record} (h : s.table.get p = some r) (i : Fin 12) :
    State.refCount { s with table := s.table.put p none } i + (if r.recipe = some i then 1 else 0) = s.refCount i := by
  simp only [State.refCount, ← List.countP_eq_length_filter]
  rw [← PerPos.countP_put_none h _ rfl]
  simp

/-- The store after a record has left the table: its reference is handed back (R49, R59). -/
theorem State.handBack_store (s : State) {p : Position} {r : Record} (h : s.table.get p = some r) :
    (State.handBack { s with table := s.table.put p none } r.recipe).store = s.storeWithout r := by
  have hr := s.refCount_put_none h
  unfold State.handBack State.storeWithout
  cases hrec : r.recipe with
  | none => simp
  | some k =>
    have hk := hr k
    simp only [hrec, if_true] at hk
    have hone : State.refCount { s with table := s.table.put p none } k = 0 ↔ s.refCount k ≤ 1 := by omega
    dsimp only
    split
    · rename_i hc
      refine congrArg (fun v => ({ s.store with records := v } : Store)) (Vector.ext fun j hj => ?_)
      by_cases hjk : k.val = j
      · subst hjk; simp [show s.store.records[k.val].isRetiring = true from hc.1, hone.1 hc.2]
      · have : k ≠ ⟨j, hj⟩ := fun e => hjk (by rw [e])
        simp [hjk, this]
    · rename_i hc
      refine congrArg (fun v => ({ s.store with records := v } : Store)) (Vector.ext fun j hj => ?_)
      by_cases hjk : k = ⟨j, hj⟩
      · subst hjk
        have : ¬ (s.store.records[j].isRetiring = true ∧ s.refCount ⟨j, hj⟩ ≤ 1) := fun e => hc ⟨e.1, hone.2 e.2⟩
        simp [this]
      · simp [hjk]

/-- A record leaves the table (R3): all that changes. -/
theorem State.leave_eq (s : State) {p : Position} {r : Record} (h : s.table.get p = some r) (hp : p ≠ .spray) :
    s.leave p = { s with
      table := s.table.put p none
      store := s.storeWithout r
      mask := if s.mask.cand = some p then s.mask.drop else s.mask } := by
  have hb : State.handBack { s with table := s.table.put p none } r.recipe =
      { s with table := s.table.put p none, store := s.storeWithout r } := by
    rw [← s.handBack_store h]
    unfold State.handBack
    cases r.recipe with
    | none => rfl
    | some k => dsimp only; split <;> rfl
  unfold State.leave
  rw [h]
  simp only [hb, if_neg hp]
  split <;> rfl

/-! ## Events (R192) -/

/-- What beginning an action makes of the counters: a NOTICE reloads and disarms its own (R197), and no other action changes any. -/
theorem State.beginAction_watch (s : State) (i : Fin 4) :
    (s.beginAction i).watch = if s.cfg.watch[i].action = .notice then
      s.watch.set i.val { s.watch[i] with count := s.cfg.watch[i].reload, armed := false } i.isLt else s.watch := by
  unfold State.beginAction
  dsimp only
  split <;> simp_all

/-- What an event makes of the counters depends on the counters and their configuration alone. -/
theorem State.report_watch (s t : State) (hw : t.watch = s.watch) (hc : t.cfg = s.cfg) (src : Source) (margin : Int) :
    (t.report src margin).watch = (s.report src margin).watch := by
  have step : ∀ (u v : State), v.watch = u.watch → v.cfg = u.cfg → ∀ i,
      (State.reportTo src margin v i).watch = (State.reportTo src margin u i).watch := by
    intro u v h1 h2 i
    unfold State.reportTo
    simp only [h1, h2]
    split
    · split
      · simp only [State.beginAction_watch]
      · rfl
    · exact h1
  have fold : ∀ (l : List (Fin 4)) (u v : State), v.watch = u.watch → v.cfg = u.cfg →
      (l.foldl (State.reportTo src margin) v).watch = (l.foldl (State.reportTo src margin) u).watch := by
    intro l
    induction l with
    | nil => intro u v h _; exact h
    | cons i l ih => intro u v h1 h2; exact ih _ _ (step u v h1 h2 i) (by simp [h2])
  exact fold _ s t hw hc

/-! ## Telegrams as bytes (R207) -/

theorem be16_length (h : Half) : (be16 h).length = 2 := rfl

/-- A two-byte field is read as it was written. -/
theorem halfAt_be16 (l : List Byte) (h : Half) : halfAt (l ++ be16 h) l.length = h := by
  have e : h.extractLsb' 8 8 ++ h.extractLsb' 0 8 = h := by
    apply BitVec.eq_of_getLsbD_eq
    intro i hi
    simp only [BitVec.getLsbD_append, BitVec.getLsbD_extractLsb']
    split
    · simp_all
    · rename_i h8
      have : decide (i - 8 < 8) = true := by simp; omega
      simp only [this, Bool.true_and]
      congr 1
      omega
  simp [halfAt, byteAt, be16, e]

/-- The length byte holds a payload's length. -/
theorem byteOf_length {p : List Byte} (h : p.length ≤ 64) : (byteOf p.length).toNat = p.length := by
  simp [byteOf, BitVec.toNat_ofNat]; omega

/-- What a receiver makes of a telegram's bytes with some CRC (R207): good with the right one and sound stop bits, faulty otherwise. -/
theorem receive_framed (t : Telegram) (ht : t.payload.length ≤ 64) (crc : Half) (stopFault : Bool) :
    receive (delimiter :: (crcPart t ++ be16 crc)) stopFault =
      if stopFault = true ∨ crc16 (crcPart t) ≠ crc then some (.faulty t) else some (.good t) := by
  have hl := byteOf_length ht
  simp only [crcPart, List.cons_append, receive, hl, List.length_append, be16_length, Config.maxPayload]
  rw [if_neg (by simp; omega), if_pos trivial, List.take_left, halfAt_be16]
  rfl

/-! ## Held telegrams (R213, R214) -/

/-- The queue keeps a class-2 telegram to displace exactly where one waits outside its send. -/
theorem dropYoungest_eq_none (q : List OutEntry) : dropYoungest q = none ↔ ∀ x ∈ q, x.cls ≠ 2 := by
  induction q with
  | nil => simp [dropYoungest]
  | cons h t ih =>
    simp only [dropYoungest, List.mem_cons, forall_eq_or_imp]
    cases hd : dropYoungest t with
    | none => simp; exact fun _ => ih.1 hd
    | some q' =>
      have : ¬ ∀ x ∈ t, x.cls ≠ 2 := fun e => by rw [ih.2 e] at hd; cases hd
      simp [this]

/-- The least class of some entries is at most that of each. -/
theorem foldl_min_le (l : List OutEntry) (n : Nat) :
    l.foldl (fun n e => min n e.cls) n ≤ n ∧ ∀ x ∈ l, l.foldl (fun n e => min n e.cls) n ≤ x.cls := by
  induction l generalizing n with
  | nil => simp
  | cons h t ih =>
    have := ih (min n h.cls)
    simp only [List.foldl_cons, List.mem_cons, forall_eq_or_imp]
    exact ⟨by omega, by omega, this.2⟩

/-- A bound below every class is below the least of them. -/
theorem le_foldl_min (l : List OutEntry) (n k : Nat) (hn : k ≤ n) (hl : ∀ x ∈ l, k ≤ x.cls) :
    k ≤ l.foldl (fun n e => min n e.cls) n := by
  induction l generalizing n with
  | nil => exact hn
  | cons h t ih =>
    simp only [List.foldl_cons]
    exact ih _ (by have := hl h (by simp); omega) (fun x hx => hl x (by simp [hx]))

/-- A class stands in two bits of the kind. -/
theorem OutEntry.cls_le (e : OutEntry) : e.cls ≤ 3 := by
  have := e.tg.kind.isLt; simp only [OutEntry.cls, classOf]; omega

/-- The held telegram that may enter, of lowest class and held longest, is the one that a place goes to. -/
theorem takeHeld_eq_some (stopped : Bool) {before after : List OutEntry} {e : OutEntry} (he : mayEnter stopped e = true)
    (hb : ∀ x ∈ before, mayEnter stopped x = true → e.cls < x.cls) (ha : ∀ x ∈ after, mayEnter stopped x = true → e.cls ≤ x.cls) :
    takeHeld stopped (before ++ e :: after) = some (e, before ++ after) := by
  have hlow : lowestClass ((before ++ e :: after).filter (mayEnter stopped)) = e.cls := by
    refine Nat.le_antisymm ((foldl_min_le _ 3).2 e (by simp [he])) (le_foldl_min _ 3 _ e.cls_le ?_)
    intro x hx
    simp only [List.mem_filter, List.mem_append, List.mem_cons] at hx
    rcases hx with ⟨hx | rfl | hx, hm⟩
    · exact Nat.le_of_lt (hb x hx hm)
    · exact Nat.le_refl _
    · exact ha x hx hm
  have hnone : before.find? (fun x => mayEnter stopped x && x.cls == e.cls) = none := by
    simp only [List.find?_eq_none, Bool.and_eq_true, beq_iff_eq, not_and]
    intro x hx hm; have := hb x hx hm; omega
  have hmem : e ∉ before := fun h => Nat.lt_irrefl _ (hb e h he)
  simp only [takeHeld, hlow]
  rw [List.find?_append, hnone]
  simp [he, List.erase_append_right _ hmem]

/-- No held telegram that may enter: no place goes to any. -/
theorem takeHeld_eq_none (stopped : Bool) {held : List OutEntry} (h : ∀ x ∈ held, mayEnter stopped x = false) :
    takeHeld stopped held = none := by
  have hnone : held.find? (fun x => mayEnter stopped x && x.cls == lowestClass (held.filter (mayEnter stopped))) = none := by
    simp only [List.find?_eq_none, Bool.and_eq_true, not_and]
    intro x hx hm; rw [h x hx] at hm; cases hm
  simp [takeHeld, hnone]

/-- What a freed place does: the held telegram that comes first enters it; with none that may enter, the place is owed to what is held; and
a queue that is full all the same changes nothing. -/
theorem Link.fillPlace_cases (l : Link) (stopped : Bool) :
    (takeHeld stopped l.held = none ∧ l.fillPlace stopped = { l with owed := l.owed || !l.held.isEmpty }) ∨
    ∃ e rest, takeHeld stopped l.held = some (e, rest) ∧
      (l.out.length < 8 ∧ l.fillPlace stopped = { l with held := rest }.enter e ∨ 8 ≤ l.out.length ∧ l.fillPlace stopped = l) := by
  unfold Link.fillPlace
  cases ht : takeHeld stopped l.held with
  | none => exact .inl ⟨rfl, rfl⟩
  | some x =>
    refine .inr ⟨x.1, x.2, rfl, ?_⟩
    dsimp only
    split
    · exact .inl ⟨‹_›, rfl⟩
    · exact .inr ⟨Nat.le_of_not_lt ‹_›, rfl⟩

/-- A place can be had for a held telegram exactly where one stands free, or where one was freed for it, the cell is not STOPPED and a
class-2 telegram waits outside its send. -/
theorem Link.canOffer_iff (l : Link) (stopped : Bool) :
    l.canOffer stopped = true ↔ l.out.length < 8 ∨ l.owed = true ∧ stopped = false ∧ ∃ x ∈ l.waitingOut, x.cls = 2 := by
  have h : (dropYoungest l.waitingOut).isSome = true ↔ ∃ x ∈ l.waitingOut, x.cls = 2 := by
    rw [← Option.ne_none_iff_isSome, Ne, dropYoungest_eq_none]; simp
  simp only [Link.canOffer, Bool.or_eq_true, Bool.and_eq_true, decide_eq_true_eq, Bool.not_eq_true', h, and_assoc]
  exact Iff.rfl

/-- What an offer of the held telegrams does: nothing where none may enter; else the one that comes first is entered by R213 where a place
can be had, and stays held where none can. -/
theorem Link.offerHeld_cases (l : Link) (stopped : Bool) :
    (takeHeld stopped l.held = none ∧ l.offerHeld stopped = l) ∨
    ∃ e rest, takeHeld stopped l.held = some (e, rest) ∧
      (l.canOffer stopped = true ∧ l.offerHeld stopped = Link.post { l with held := rest, owed := l.owed && stopped } e ∨
        l.canOffer stopped = false ∧ l.offerHeld stopped = { l with owed := l.owed && stopped }) := by
  unfold Link.offerHeld
  cases ht : takeHeld stopped l.held with
  | none => exact .inl ⟨rfl, rfl⟩
  | some x =>
    refine .inr ⟨x.1, x.2, rfl, ?_⟩
    cases hc : l.canOffer stopped
    · exact .inr ⟨rfl, rfl⟩
    · exact .inl ⟨rfl, rfl⟩

/-! ## Schedule intervals -/

/-- What one forward count does to an interval whose open event has not fired (R93, R96): held back, or not due, it keeps which of its events
have become due; and else it is passed over or opens. -/
theorem Interval.fire_unfired (c : CountAt) (waits : Bool) (i : Interval)
    (h : i.progress = .armed ∨ i.progress = .due ∨ ∃ o, i.progress = .lapsed o) :
    i.fire c waits =
      if i.ready c = false ∨ waits = true ∨ c.mayOpen = false then ({ i with progress := unfired (i.ready c) (i.lapses c) }, 0)
      else if i.lapses c = true then ({ i with progress := .passedOver }, 0)
      else ({ i with progress := (startOpen c.now i.rate).1 }, (startOpen c.now i.rate).2) := by
  rcases h with h | h | ⟨o, h⟩ <;> simp [Interval.fire, h, or_assoc]

end Sys2Proof.Machine
end

