-- ==== Sys2Proof/WellFormed.lean ====
section
/-! DEFINITION. The operand ranges the manual gives that the operand types do not hold by themselves. -/

namespace Sys2Proof

/-- The longest telegram holds 71 bytes (R207). -/
def bytesWellFormed (bytes : List Byte) : Bool := decide (bytes.length ≤ Config.maxTelegram)

/-- The bytes of a telegram that arrive. -/
def HeardEvent.wellFormed : HeardEvent → Bool
  | .arrive bytes _ => bytesWellFormed bytes
  | .slotBegins => true
  | .slotEnds => true

/-- The operand ranges of a command: the configuration image is 97 bytes (section 11.8), a payload at most 64 bytes and a telegram at
most 71 (R207), the access-slot counter at most 127 (R208), a station address 1..31 (R116), and a converter value fits the 16 signed bits of a
temperature (section 11.6). Every other operand is within its range by its type. -/
def Instr.wellFormed : Instr → Bool
  | .configurationLoad image => decide (image.length = Config.imageBytes)
  | .supplyClaim _ payload => decide (payload.length ≤ Config.maxPayload)
  | .supplyDone _ payload => decide (payload.length ≤ Config.maxPayload)
  | .claimEntryExpiry station => decide (1 ≤ station.toNat) && decide (station.toNat ≤ 31)
  | .probeReadDone _ _ (.value t) => decide (-32768 ≤ t) && decide (t ≤ 32767)
  | .sendStart slot => decide (slot ≤ 127)
  | .telegramTaken e => e.wellFormed
  | .faultyTelegram e => e.wellFormed
  | _ => true

end Sys2Proof
end

