-- ==== Sys2Proof/Tests/Slice0.lean ====
section
/-! SUPPORT. Tests: ill-formed commands refused, small steps with values worked out from the manual's own examples and rules, and a witness
for the hypotheses of each obligation. -/

namespace Sys2Proof.Tests

open Sys2Proof Sys2Proof.Machine

/-! ## Well-formedness: one ill-formed term for each check -/

theorem test_ill_formed_image : (Instr.configurationLoad []).wellFormed = false := by decide
theorem test_ill_formed_supply_claim : (Instr.supplyClaim 4 (List.replicate 65 0)).wellFormed = false := by decide
theorem test_ill_formed_supply_done : (Instr.supplyDone 4 (List.replicate 65 0)).wellFormed = false := by decide
theorem test_ill_formed_entry_expiry :
    (Instr.claimEntryExpiry 0).wellFormed = false ∧ (Instr.claimEntryExpiry 32).wellFormed = false := by decide
theorem test_ill_formed_probe_value : (Instr.probeReadDone .a 1 (.value 40000)).wellFormed = false := by decide
theorem test_ill_formed_send_slot : (Instr.sendStart 128).wellFormed = false := by decide
theorem test_ill_formed_taken : (Instr.telegramTaken (.arrive (List.replicate 72 0) false)).wellFormed = false := by decide
theorem test_ill_formed_faulty : (Instr.faultyTelegram (.arrive (List.replicate 72 0) true)).wellFormed = false := by decide

/-! ## A small cell -/

/-- The values of a cell at station 5, between stations 4 and 6, with its terminal at 31. -/
def cfg : CellCfg :=
  { CellCfg.reset with
    station := 5, upstream := 4, downstream := 6, terminal := 31, transferTimeout := 10, orphanWait := 2, filterClock := 1
    maskCount := 8, maskY0 := 0, maskPitch := 100, inset := 5, maskGuard := 30, valveCount := 4, valveY0 := 0
    valvePitch := 100, swath := 100, minOpen := 2, stopToBar := 10, lagOn := 160, lagOff := 160, edge := .both, purgeSet := 3
    purgeTime := 10, group := 2, limit := 2, zoneCount := 2, baseDwell := 60, extensionStep := 30, maxExtension := 60, nearFull := 2
    slotZone := { s0 := .a, s1 := .a, s2 := .b, s3 := .b, s4 := .b, s5 := .b } }

/-- A loaded cell in RUN with every sensor empty and the guard closed. -/
def live : State :=
  { State.reset with
    cell := .run, loaded := true, cfg := cfg
    inputs := { State.reset.inputs with
      pos := .all (Filter.forced false), rack := .replicate 8 (Filter.forced false), guard := Filter.forced false } }

/-- A clean record with a serial. -/
def rec (n : Serial) : Record := Record.fresh { Traveller.blank with serial := some n, variant := 7, lot := 9 } .notDue

/-- A recipe for step 1 of every variant. -/
def recipe : Recipe :=
  { base := 0, mask := 0xFFFF, side := .either, step := 1, prereq := 0, lenMin := 10, lenMax := 4000, clearance := 1, hMin := 5
    hMax := 300, tRef := 800, tOn := 600, tMax := 1100, cureMin := 900, cureMax := 1100, flashMin := 30, potMax := 600
    passLimit := 60, segments := [{ valve := 0, xOpen := 20, xClose := 60, rate := .spray 40 }]
    zones := [{ kind := .masked, x0 := 0, x1 := 30, y0 := 0, y1 := 100 }], crc := 0xABCD }

/-- A state with a record at a position. -/
def at_ (p : Position) (r : Record) (s : State) : State := s.putRecord p r

/-- A state with a sensor's level. -/
def lev (p : Position) (b : Bool) (s : State) : State := s.setLevel p b

/-- A state with a rack sensor's level. -/
def rackLev (k : Fin 8) (b : Bool) (s : State) : State := s.setRackLevel k b

/-- A state whose store holds the recipe ACTIVE in record 3, for slot 0. -/
def withRecipe (s : State) : State :=
  { s with store := { s.store with
      records := s.store.records.set 3 (.active recipe)
      slots := s.store.slots.set 0 { active := some 3, staged := none } } }

/-- A state with a telegram at the head of the inbound queue. -/
def head (src kind : Byte) (p : List Byte) (s : State) : State :=
  { s with link := { s.link with inbound := [{ dst := 5, src := src, kind := kind, payload := p }] } }

/-- A state whose telegram of a kind is in its send. -/
def sending (kind : Byte) (p : List Byte) (s : State) : State :=
  { s with link := { s.link with
      line := .sending, out := [{ tg := { dst := 0, src := 5, kind := kind, payload := p }, postings := 1 }] } }

/-- The state a command leaves. -/
def after (c : Instr) (s : State) : State :=
  match exec c s with
  | .next t => t
  | .fault _ | .refused _ => s

/-- The kinds of the outbound queue. -/
def outKinds (s : State) : List Byte := s.link.out.map fun e => e.tg.kind

/-! ## One step of each command -/

theorem test_cold_reset : (after .coldReset live).cell = .start ∧ (after .coldReset live).loaded = false := by decide

/-- An image of 97 bytes without its marker is refused (R219, R223). -/
theorem test_load_bad_marker :
    (after (.configurationLoad (List.replicate 97 0)) State.reset).cell = .configFault := by decide

/-- A board at TUNNEL0 and one in rack 3 at power-on: CLEAR_OUT, with one record and one entry (R21, R187). -/
theorem test_clear_out_scan :
    let t := after (.clearOutScan 0x010 0x08) { live with cell := .start }
    t.cell = .clearOut ∧ t.boardCount = 1 ∧ t.holds.list.map (·.rack) = [3] := by decide +kernel

/-- A board appears at ENTRY in RUN: its read is PENDING (R14, R18). -/
theorem test_occupied_edge_at_entry :
    (after (.occupiedEdge .entry) live).tracker.arrival = some (.reading 500) := by decide

/-- A board is lifted off GATE (R15): the record goes, and BOARD_REMOVED is posted. -/
theorem test_empty_edge_lifts_off :
    let t := after (.emptyEdge .gate) (at_ .gate (rec 1) (lev .gate true live))
    t.boardCount = 0 ∧ outKinds t = [kindNotice] := by decide

theorem test_move_start_binds_recipe :
    let t := after (.moveStart .toTransport) (withRecipe (at_ .entry (rec 1) live))
    t.tracker.moves.toTransport = true ∧ (t.table.entry.bind (·.recipe)) = some 3 := by decide

/-- A read with no entry in the arrival list starts the orphan wait of 2 s (R41). -/
theorem test_id_read_answer :
    let s := { live with tracker := { live.tracker with arrival := some (.reading 7), idRequest := 4 } }
    (after (.idReadAnswer 4 .noRead) s).tracker.arrival = some (.orphan .noRead 2000) ∧
      (after (.idReadAnswer 3 .noRead) s).tracker.arrival = some (.reading 7) := by decide

theorem test_entry_read_timeout :
    (after .entryReadTimeout { live with tracker := { live.tracker with arrival := some (.reading 1) } }).tracker.arrival =
      some (.orphan .noRead 2000) := by decide

/-- A board with no traveller in a cell that is not the head (R41). -/
theorem test_orphan_wait_expiry :
    let t := after .orphanWaitExpiry { live with tracker := { live.tracker with arrival := some (.orphan (.read 8 1 2) 1) } }
    (t.table.entry.map fun r => (r.trav.serial, hasReason r.trav.reasons .noTraveller)) = some (some 8, true) := by decide

theorem test_offer_accepted :
    let t := after .offer (head 4 kindOffer (offerPayload 1 (rec 1).trav) live)
    outKinds t = [kindAccept] ∧ t.tracker.arrivals.length = 1 := by decide

/-- An OFFER in STOPPED is declined with code 4 (R35, order 4). -/
theorem test_offer_stopped :
    let t := after .offer (head 4 kindOffer (offerPayload 1 (rec 1).trav) { live with cell := .stopped })
    (t.link.out.map fun e => (e.tg.kind, byteAt e.tg.payload 6)) = [(kindDecline, 4)] := by decide

/-- The record of serial 1 at EXIT in a handoff state. -/
def offeredState (h : Handoff) : State := at_ .exit { rec 1 with handoff := some h } live

theorem test_accept :
    ((after .accept (head 6 kindAccept (answerPayload 9 (some 1)) (offeredState (.offered 9 (.answer 3))))).table.exit.bind
      (·.handoff)) = some (.transferring (some 9) false false none) := by decide

theorem test_decline :
    ((after .decline (head 6 kindDecline (answerPayload 9 (some 1) ++ [7]) (offeredState (.offered 9 (.answer 3))))).table.exit.bind
      (·.handoff)) = some (.offered 9 (.reOffer 500)) := by decide

theorem test_received_before_cleared :
    ((after .received (head 6 kindReceived (answerPayload 9 (some 1)) (offeredState (.transferring (some 9) false false none)))).table.exit.bind
      (·.handoff)) = some (.transferring (some 9) false true none) := by decide

theorem test_answer_wait_expiry :
    (after .answerWaitExpiry (offeredState (.offered 9 (.answer 1)))).exitHandoff = some (.offered 9 (.reOffer 500)) := by decide

theorem test_re_offer_wait_expiry :
    outKinds (after .reOfferWaitExpiry (offeredState (.offered 9 (.reOffer 1)))) = [kindOffer] := by decide

/-- A board not confirmed leaves the table with TRANSFER_UNCONFIRMED (R33). -/
theorem test_upstream_transfer_timeout :
    let t := after .upstreamTransferTimeout (offeredState (.transferring (some 9) true false (some 1)))
    t.boardCount = 0 ∧ outKinds t = [kindNotice] := by decide

/-- A travelling board announced by station 4. -/
def announced : ArrivalEntry := { trav := (rec 1).trav, source := 4, number := 2, acceptedAt := 3, timer := 1 }

theorem test_downstream_transfer_timeout :
    (after (.downstreamTransferTimeout 0)
      { live with tracker := { live.tracker with arrivals := [announced] } }).tracker.arrivals = [] := by decide

theorem test_received_repost :
    outKinds (after .receivedRepost { live with tracker := { live.tracker with
      reposts := [{ dst := 4, number := 2, serial := none, postings := 1, timer := 1 }] } }) = [kindReceived] := by decide

theorem test_recipe_part_begins_assembly :
    (after .recipePart (head 31 kindRecipePart [2, 0, 1, 2] live)).store.assembler = .assembling 2 1 [1, 2] := by decide

theorem test_recipe_activate :
    let s := { live with store := { live.store with
      records := live.store.records.set 3 (.staged recipe)
      slots := live.store.slots.set 0 { active := none, staged := some 3 } } }
    (after .recipeActivate (head 31 kindRecipeActivate [0] s)).store.slots[0].active = some 3 := by decide

theorem test_recipe_drop :
    (after .recipeDrop (head 31 kindRecipeDrop [0] (withRecipe live))).store.records[3] = .free := by decide

/-- The leading edge (R69, R70): the datum goes to occupied, and x is 1. -/
theorem test_transport_count_opens_measurement :
    let s := at_ .entry (rec 1) { live with mask :=
      { phase := .armed, cand := some .entry, x := 0, high := 0, accepted := some false, lastSample := some true, sampled := [] } }
    (after (.transportEncoderCount .forward true) s).mask.phase = .measuring ∧
      (after (.transportEncoderCount .forward true) s).mask.x = 1 := by decide

theorem test_mask_channel_edge : (after (.maskChannelEdge 3 true) live).inputs.mask[3].level = some true := by decide

/-- A board that waits at SPRAY with an interval to lay. -/
def waiting (iv : Interval) (s : State) : State :=
  { at_ .spray { rec 1 with spray := .waitingSupply, recipe := some 3, verdicts := [.verified] } (withRecipe s) with
    spray := { s.spray with schedule := some [iv] } }

/-- An interval of valve 0 from 20 to 60. -/
def interval : Interval := { valve := 0, xOpen := 20, xClose := 60, rate := .spray 40, segment := 0, progress := .armed }

theorem test_claim_request : (after .claimRequest (waiting interval live)).supply.own = .queued := by decide

/-- The state with the own claim granted for a holder. -/
def granted (h : Holder) (s : State) : State := { s with supply := { s.supply with
  own := .granted, holder := some h, view := [{ station := 5, serial := none, remaining := 9 }] } }

theorem test_pass_start :
    (after .passStart (granted .board (waiting interval live))).sprayIs .spraying = true := by decide

/-- A pass under way with an interval in some progress. -/
def passing (pr : Progress) (travelled : Nat) : State :=
  let s := granted .board (waiting { interval with progress := pr } live)
  { s.startPass with spray := { s.startPass.spray with travelled := travelled, schedule := some [{ interval with progress := pr }] } }

/-- With stop-to-bar 10 and no lead the valve opens at the count that brings travelled to 30 (R96). -/
theorem test_spray_count_opens_valve :
    (after (.sprayEncoderCount .forward true 5) (passing .armed 28)).valvePin 0 = false ∧
      (after (.sprayEncoderCount .forward true 5) (passing .armed 29)).valvePin 0 = true := by decide

/-- The pending events of two intervals that meet at 20 (R92): at the same position a close comes before an open. -/
theorem test_pending_events_order :
    (pendingEvents [{ interval with valve := 1, xOpen := 5, xClose := 20 }, interval]).map (fun e => (e.aimed, e.opens, e.valve)) =
      [(5, true, 1), (20, false, 1), (20, true, 0), (60, false, 0)] := by decide

theorem test_pass_stall_timeout :
    let s := passing .armed 5
    (after .passStallTimeout { s with spray := { s.spray with abort := some 1 } }).sprayIs .aborted = true := by decide

theorem test_speed_window_end :
    (after .speedWindowEnd { live with spray := { live.spray with windowCount := 16 } }).openLead = 16 := by decide

theorem test_purge_claim_request :
    (after .purgeClaimRequest { live with spray := { live.spray with purge := .requested } }).supply.claimDuration = 200 := by decide

/-- A purge under way. -/
def purging : State := granted .purge { live with spray := { live.spray with purge := .purging, purgeMark := true, purgeTimer := some 1 } }

theorem test_purge_timer_expiry :
    (after .purgeTimerExpiry purging).spray.purge = .none ∧ (after .purgeTimerExpiry purging).supply.own = .ending := by decide

theorem test_supply_claim_zero_duration :
    (after (.supplyClaim 6 [2, 0, 0, 0, 0, 0, 0, 0]) live).supply.view = [{ station := 6, serial := none, remaining := 1 }] := by decide

/-- In START the view takes no claim (R128, log 35). -/
theorem test_supply_claim_in_start :
    (after (.supplyClaim 6 [2, 0, 0, 0, 0, 0, 0, 9]) { live with cell := .start }).supply.view = [] := by decide

theorem test_supply_done :
    (after (.supplyDone 6 [9, 0, 0, 0, 0, 0]) { live with supply := { live.supply with
      view := [{ station := 6, serial := none, remaining := 4 }] } }).supply.view = [] := by decide

/-- The own claim in its send. -/
def claimSending (own : OwnClaim) : State :=
  let s := sending kindSupplyClaim [] (waiting interval live)
  { s with supply := { s.supply with own := own, holder := some .board, claimSerial := some 1, claimDuration := 600 } }

/-- A claim read back joins the view, and with fewer than 2 entries ahead is granted at once (R121, R123). -/
theorem test_own_claim_readback :
    (after (.ownClaimReadback false) (claimSending .sending)).supply.own = .granted ∧
      (after (.ownClaimReadback true) (claimSending .sending)).supply.own = .refusedWait := by decide

theorem test_own_done_readback :
    let s := granted .board (sending kindSupplyDone [] live)
    (after (.ownDoneReadback true) { s with supply := { s.supply with own := .ending } }).supply.own = .none := by decide

theorem test_supply_tick_expires_own_claim :
    let s := passing .armed 5
    (after .supplyTick { s with supply := { s.supply with
      view := [{ station := 5, serial := none, remaining := 1 }] } }).spray.abort = some 200 := by decide

theorem test_claim_entry_expiry :
    (after (.claimEntryExpiry 5) purging).spray.purge = .claiming ∧ (after (.claimEntryExpiry 5) purging).supply.own = .queued := by
  decide

/-- A claim that waits behind one other, with L = 2. -/
def claimWaiting : State :=
  let s := granted .board (waiting interval live)
  { s with supply := { s.supply with own := .waiting, learning := some 3, view :=
    [{ station := 6, serial := none, remaining := 9 }, { station := 5, serial := some 1, remaining := 9 }] } }

theorem test_learning_time_end :
    (after .claimGranted claimWaiting).supply.own = .waiting ∧ (after .learningTimeEnd claimWaiting).supply.own = .granted := by decide

theorem test_re_claim_timer_expiry :
    (after .reClaimTimerExpiry { claimWaiting with supply := { claimWaiting.supply with
      own := .refusedWait, reClaim := some 1 } }).supply.own = .queued := by decide

/-- The readings of section 8.4, with Tref 80.0 °C and T_on 60.0 °C, and the one with Tref 90.0 °C and no T_on. -/
theorem test_weights_of_section_8_4 :
    weight (some 937) recipe = 630 ∧ weight (some 724) recipe = 147 ∧ weight (some 800) recipe = 256 ∧
      weight (some 799) recipe = 239 ∧ weight (some 600) recipe = 64 ∧ weight (some 599) recipe = 0 ∧
      weight (some 850) { recipe with tRef := 900, tOn := -32768 } = 181 ∧ weight (some 1300) recipe = 7648 ∧
      weight (some 5) { recipe with tOn := -32768 } = 1 ∧ weight (some (-1)) { recipe with tOn := -32768 } = 0 := by decide

/-- A board sprayed here with a dose. -/
def sprayed (dose : Nat) : Record :=
  { rec 1 with spray := .done, recipe := some 3, verdicts := [.verified], sprayEnd := some 0, dose := dose, elapsed := 29 }

/-- The tunnel of section 8.5, its zone B at 96.0 °C. -/
def heated (s : State) : State :=
  let w := withRecipe s
  { w with tunnel := { w.tunnel with
      zones := { a := { value := some 850, miss := 0 }, b := { value := some 960, miss := 0 }, c := { value := none, miss := 0 } } } }

/-- Slot 5 of section 8.5 gains 776 a tick. -/
theorem test_cure_tick_gains_weight :
    ((after .cureTick (at_ .tunnel5 (sprayed 207000) (heated live))).table.tunnel5.map (·.dose)) = some 207776 := by decide

theorem test_pot_life_expiry :
    ((after .potLifeExpiry (at_ .gate { sprayed 0 with elapsed := 600 } (heated live))).table.gate.map fun r =>
      hasReason r.trav.reasons .potLife) = some true := by decide

/-- The first expiry of section 8.5: P at 207,120 with weight 776, S in slot 1 at 21,720 with weight 181; the extension is taken. -/
def atExpiry (dose : Nat) : State :=
  let s := at_ .tunnel5 { sprayed dose with tickWeight := some 776 } (at_ .tunnel1 { sprayed 21720 with tickWeight := some 181 } (heated live))
  { s with tunnel := { s.tunnel with dwell := 1 } }

theorem test_dwell_expiry_of_section_8_5 :
    (after .dwellExpiry (atExpiry 207120)).tunnel.dwell = 30 ∧ (after .dwellExpiry (atExpiry 230400)).tunnel.phase = .indexing := by
  decide

theorem test_index_start_admits_gate :
    let s := at_ .gate { sprayed 0 with elapsed := 30 } (heated live)
    let u := { s with tunnel := { s.tunnel with phase := .indexPending } }
    (after .indexStart u).tunnel.carriesGate = true ∧ (after .indexStart u).indexPin = true := by decide

/-- An index under way with a board in slot 5. -/
def indexing (r : Record) : State :=
  let s := lev .exit true (at_ .tunnel5 r (heated live))
  { s with tunnel := { s.tunnel with phase := .indexing, drive := true, timeout := some 1 } }

/-- P of section 8.5 at EXIT with dose 230,400: no CURE_SHORT, and a coat result with dose 900. -/
theorem test_index_done_judges :
    ((after .indexDone (indexing (sprayed 230400))).table.exit.map fun r =>
      (r.trav.reasons, r.trav.results.map (·.dose), r.trav.stepsDone)) = some (0, [900], 1) ∧
    ((after .indexDone (indexing (sprayed 230399))).table.exit.map fun r => r.trav.reasons) = some (reasonBit .cureShort) := by decide

/-- At an input that is active already INDEX_DONE is no change to active (R138): the index goes on to its timeout. -/
theorem test_index_done_at_active_input :
    let s := indexing (sprayed 230400)
    (after .indexDone { s with inputs := { s.inputs with indexDone := Filter.forced true } }).tunnel.phase = .indexing ∧
      (after .indexDone s).inputs.indexDone.level = some true := by decide

theorem test_index_timeout :
    (after .indexTimeout (indexing (sprayed 0))).runState = .fault ∧
      ((after .indexTimeout (indexing (sprayed 0))).link.out.map fun e => e.tg.payload) = [[8, 1, 1]] := by decide

/-- A read of zone A under way. -/
def polling (value : Option Int) (miss : Nat) : State := { live with tunnel := { live.tunnel with
  poll := some { zone := .a, timer := 9 }, probeRequest := 2
  zones := { live.tunnel.zones with a := { value := value, miss := miss } } } }

theorem test_probe_read_done :
    (after (.probeReadDone .a 2 (.value 3000)) (polling none 0)).tunnel.zones.a = { value := some 3000, miss := 0 } ∧
      (after (.probeReadDone .a 2 (.value 3001)) (polling (some 5) 0)).tunnel.zones.a = { value := some 5, miss := 1 } := by decide

theorem test_probe_read_timeout_loses_zone :
    (after .probeReadTimeout (polling (some 5) 3)).tunnel.zones.a = { value := none, miss := 4 } := by decide

/-- A record with a reason at EXIT in a diversion state. -/
def diverted (d : Diversion) : State := at_ .exit { Record.strandedRecord with diversion := some d } live

/-- A hold-list entry at a rack position. -/
def entry (k : Fin 8) (st : HoldState) : HoldEntry :=
  { rack := k, serial := some 2, variantLot := some (7, 9), reasons := 1, time := 3, state := st }

/-- A state with some hold-list entries. -/
def withHolds (l : List HoldEntry) (s : State) : State := { s with holds := { s.holds with list := l } }

theorem test_diversion_start_lowest_free :
    (after .diversionStart (withHolds [entry 0 .held] (diverted .waitingRack))).target = some 1 := by decide

theorem test_rack_occupied_edge_completes_diversion :
    let t := after (.rackOccupiedEdge 2) (diverted (.diverting 2))
    t.boardCount = 0 ∧ t.holds.list.map (·.rack) = [2] ∧ outKinds t = [kindNotice] := by decide

theorem test_rack_empty_edge_removes_entry :
    let t := after (.rackEmptyEdge 2) (rackLev 2 true (withHolds [entry 2 .held] live))
    t.holds.list = [] ∧ outKinds t = [kindNotice] := by decide

theorem test_release_by_position :
    let t := after .release (head 31 kindRelease [2, 0, 0, 0, 2, 2] (withHolds [entry 2 .held] live))
    (t.holds.list.map (·.state)) = [.releasedScrap] ∧ (t.link.out.map fun e => e.tg.payload) =
      [[2, 0, 0, 0, 2, 1, 3, 2, 0, 0, 0, 2, 3]] := by decide

/-- A filter of variant 7, any lot, marks the record. -/
theorem test_lot_hold :
    let t := after .lotHold (head 31 kindLotHold [1, 0, 7, 0, 0, 0, 0, 0xFF, 0xFF] (at_ .gate (rec 1) live))
    (t.table.gate.map fun r => hasReason r.trav.reasons .lotHold) = some true ∧ t.holds.filters[0].isSome = true := by decide

/-- A filter with id 1. -/
def filter1 : LotFilter := { id := 1, variantBase := 7, variantMask := 0, lotBase := 0, lotMask := 0xFFFF }

theorem test_lot_lift :
    (after .lotLift (head 31 kindLotLift [1] { live with holds := { live.holds with
      filters := live.holds.filters.set 4 (some filter1) } })).holds.filters[4] = none := by decide

/-- A counter of the example of section 10.8: FILM_MARGIN below 5, EDGE, N = 3, AUDIT. -/
def filmCounter : WatchCfg :=
  { source := .filmMargin, reload := 65533, threshold := 5, compare := .below, mode := .edge, action := .audit }

/-- The cell of that example. -/
def watched : State := { live with
  cfg := { cfg with watch := cfg.watch.set 0 filmCounter }
  watch := live.watch.set 0 { count := 65533, flag := false, armed := false, edgeMark := false } }

/-- The margins of boards A to G (section 10.8): the count overflows at G. -/
theorem test_film_counter_of_section_10_8 :
    ([7, 3, 2, 8, 4, 9].foldl (fun s m => s.report .filmMargin m) watched).watch[0] =
        { count := 65535, flag := false, armed := false, edgeMark := false } ∧
      ([7, 3, 2, 8, 4, 9, 1].foldl (fun s m => s.report .filmMargin m) watched).watch[0] =
        { count := 0, flag := true, armed := true, edgeMark := true } := by decide +kernel

theorem test_watch_clear :
    (after .watchClear (head 31 kindWatchClear [1] watched)).watch[0].count = 65533 ∧
      (after .watchClear (head 31 kindWatchClear [16] { watched with watch := .replicate 4 WatchCounter.reset })).watch[0].count = 0 := by
  decide

theorem test_status_query :
    ((after .statusQuery (head 31 kindStatusQuery [0] live)).link.out.map fun e => (e.tg.payload.length, byteAt e.tg.payload 1)) =
        [(48, 3)] ∧
      ((after .statusQuery (head 31 kindStatusQuery [1] live)).link.out.map fun e => e.tg.payload.length) = [47] := by decide

theorem test_guard_opening : (after .guardOpening live).cell = .stopped ∧ (after .guardOpening live).tracker.hold = true := by decide

/-- A cell under the drive hold, its guard closed. -/
def held : State := { live with cell := .stopped, tracker := { live.tracker with hold := true, settle := some 1 } }

theorem test_guard_closing : (after .guardClosing held).tracker.settle = some 2000 := by decide
theorem test_settle_time_expiry : (after .settleTimeExpiry held).cell = .run := by decide

/-- A diversion to rack position 2 in the settle time after the guard has closed (R169): no output of it is driven until the hold ends. -/
theorem test_diversion_driven_after_hold :
    let s : State := { diverted (.diverting 2) with
      cell := .stopped
      tracker := { live.tracker with hold := true, settle := some 1 }
      holds := { live.holds with rackSelect := 2 } }
    let t := after .settleTimeExpiry s
    (s.rackSelectPins = 0 ∧ s.diverterPin = false ∧ s.exitConvPin = false) ∧
      t.rackSelectPins = 2 ∧ t.diverterPin = true ∧ t.exitConvPin = true := by decide

theorem test_guard_first_level :
    (after (.guardFirstLevel true) { live with inputs := { live.inputs with guard := .reset } }).tracker.hold = true := by decide
theorem test_link_idle : (after .linkIdle live).link.access = some 0 := by decide

/-- An idle line with a class-1 telegram waiting: station 4 of section 11.10 sends at position 36, or penalised at 68. -/
def idle4 (penalty : Bool) : State := { live with
  cfg := { cfg with station := 4 }
  link := { live.link with
    line := .idle, access := some 0, penalty := penalty
    out := [{ tg := { dst := 6, src := 4, kind := kindDecline, payload := [] }, postings := 1 }] } }

theorem test_send_start_of_section_11_10 :
    (after (.sendStart 35) (idle4 false)).link.line = .idle ∧ (after (.sendStart 36) (idle4 false)).link.line = .sending ∧
      (after (.sendStart 67) (idle4 true)).link.line = .idle ∧ (after (.sendStart 68) (idle4 true)).link.line = .sending := by decide

theorem test_start_bit_heard : (after .startBitHeard (idle4 false)).link.line = .receiving [] false := by decide
theorem test_clash : (after .clash (sending kindNotice [] live)).link.clashes = 1 := by decide
theorem test_send_end :
    (after (.sendEnd true) (sending kindNotice [] live)).link.out = [] ∧
      (after (.sendEnd true) (sending kindNotice [] live)).link.penalty = true := by decide

/-- A cell that receives a telegram, some of its bytes there. -/
def receiving (bytes : List Byte) (stopFault : Bool) : State :=
  { live with link := { live.link with line := .receiving bytes stopFault, penalty := true } }

/-- A WATCH_CLEAR of the terminal. -/
def query : Telegram := { dst := 5, src := 31, kind := kindWatchClear, payload := [1] }

/-- A good telegram (R207, R210, R211): its last bytes arrive, its slot begins, and at its end the telegram joins the inbound queue. -/
theorem test_telegram_taken :
    let s := after (.telegramTaken (.arrive ((telegramBytes query).drop 3) false)) (receiving ((telegramBytes query).take 3) false)
    let t := after (.telegramTaken .slotBegins) s
    t.link.line = .slot (some query) false ∧ (after (.telegramTaken .slotEnds) t).link.inbound = [query] := by decide +kernel

/-- With 8 telegrams inbound at the last CRC byte the slot is driven, and the telegram is not taken although a place came free (R210). -/
theorem test_telegram_taken_room_at_last_byte :
    let s := receiving (telegramBytes query) false
    let t := after (.telegramTaken .slotBegins) { s with link := { s.link with inbound := List.replicate 8 query } }
    let popped := { t with link := { t.link with inbound := t.link.inbound.tail } }
    t.slotPin = true ∧ (after (.telegramTaken .slotEnds) popped).link.inbound.length = 7 ∧
      (after (.telegramTaken .slotEnds) popped).slotPin = false := by decide +kernel

/-- A stop bit found dominant makes the telegram faulty; this station drives the slot of one addressed to it (R207, R210). -/
theorem test_faulty_telegram :
    let s := after (.faultyTelegram .slotBegins) (receiving (telegramBytes query) true)
    s.slotPin = true ∧ (after (.faultyTelegram .slotEnds) s).link.inbound = [] := by decide +kernel

/-- Truncated, and with a first byte that is not 5Ah (R207); a whole telegram is not abandoned. -/
theorem test_telegram_abandoned :
    (after .telegramAbandoned (receiving [0x5A, 5, 31] false)).link.line = .busy ∧
      (after .telegramAbandoned (receiving [0x5B] false)).link.line = .busy ∧
      (after .telegramAbandoned (receiving (telegramBytes query) false)).link.line ≠ .busy := by decide +kernel

/-- A telegram in the queue, by its kind. -/
def queued (kind : Byte) : OutEntry := { tg := { dst := 6, src := 5, kind := kind, payload := [] }, postings := 1 }

/-- An OFFER held for posting enters a free place in RUN, and not while the cell is STOPPED (R30, R214). -/
def heldOffer (c : CellState) : State := { live with
  cell := c
  link := { live.link with held := [{ tg := { dst := 6, src := 5, kind := kindOffer, payload := [] }, postings := 1 }] } }

theorem test_held_telegram_entered :
    outKinds (after .heldTelegramEntered (heldOffer .run)) = [kindOffer] ∧
      outKinds (after .heldTelegramEntered (heldOffer .stopped)) = [] := by decide

/-- A held OFFER of a full queue with the place that was freed for it in STOPPED, or none. -/
def fullQueue (owed : Bool) : State := { heldOffer .run with
  link := { (heldOffer .run).link with out := List.replicate 8 (queued kindNotice), owed := owed } }

/-- A held OFFER waits for a freed place; one whose place a notice has filled displaces it, with NOTICE_LOST set (R213, R214, log 52). -/
theorem test_held_telegram_in_full_queue :
    after .heldTelegramEntered (fullQueue false) = fullQueue false ∧
      (let l := (after .heldTelegramEntered (fullQueue true)).link
       (l.out.map fun e => e.tg.kind) = kindOffer :: List.replicate 7 kindNotice ∧ l.held = [] ∧ l.noticeLost = true ∧
        l.owed = false) := by decide

/-- In STOPPED the place freed at the end of a send stays that of the OFFER held (R30, R214). -/
theorem test_freed_place_owed_in_stopped :
    ((heldOffer .stopped).link.sent true).owed = true ∧ ((heldOffer .run).link.sent false).owed = false := by decide

theorem test_cell_seconds_wrap : (after .cellSecondsTick { live with seconds := 0xFFFFFFFF }).seconds = 0 := by decide

/-- With no command waiting, one millisecond passes and the timers run (log 3). -/
theorem test_idle_step_counts_down :
    (match step { live with spray := { live.spray with windowMs := 1 } } with
      | .next t => t.pending
      | .fault _ | .refused _ => []).contains .speedWindowEnd = true := by decide

/-- The check value of the CRC of R207 for the bytes 31h to 39h (known of that polynomial and start value: PRESUMED). -/
theorem test_crc : crc16 [0x31, 0x32, 0x33, 0x34, 0x35, 0x36, 0x37, 0x38, 0x39] = 0x29B1 := by decide +kernel

/-! ## Witnesses for the hypotheses of the statements -/

theorem crc_join {a b : List Byte} {r m n : Half} (h : a.foldl crcByte r = m) (k : b.foldl crcByte m = n) :
    (a ++ b).foldl crcByte r = n := by rw [List.foldl_append, h, k]

/-- The configuration image of a cell at station 5 with four counters, without its CRC. -/
def imageBody : List Byte :=
  [183, 49, 1, 0, 90, 5, 4, 6, 31, 10, 2, 2] ++
    [8, 1, 144, 0, 160, 5, 30, 11, 184, 13, 72, 8] ++
    [1, 144, 0, 160, 0, 160, 40, 3, 232, 25, 25, 2] ++
    [0, 255, 10, 1, 2, 0, 3, 0, 0, 1, 1, 2] ++
    [2, 0, 60, 30, 0, 60, 6, 1, 255, 255, 0, 0] ++
    [0, 0, 1, 1, 1, 6, 255, 254, 0, 0, 0, 0] ++
    [1, 1, 1, 5, 255, 240, 0, 0, 0, 0, 1, 1] ++
    [3, 4, 255, 255, 0, 0, 0, 0, 2, 1, 2]

theorem imageBody_crc : crc16 imageBody = 0xA2CF := by
  refine crc_join (m := 0x0295) (crc_join (m := 0xE2CF) (crc_join (m := 0x1D1E) (crc_join (m := 0x6921) (crc_join (m :=
  0x2093) (crc_join (m := 0x919C) (crc_join (m := 0x919B) ?_ ?_) ?_) ?_) ?_) ?_) ?_) ?_ <;>
    decide +kernel

/-- The image of a recipe with one segment and one zone, without its CRC. -/
def recipeBody : List Byte :=
  [0, 7, 0, 0, 1, 1, 0, 0, 10, 15, 160, 1] ++
    [1, 1, 0, 5, 1, 44, 3, 32, 2, 88, 4, 76] ++
    [3, 132, 4, 76, 0, 30, 2, 88, 0, 60, 0, 1] ++
    [0, 20, 0, 60, 40, 0, 2, 0, 0, 0, 30, 0] ++
    [0, 0, 100]

theorem recipeBody_crc : crc16 recipeBody = 0x98E6 := by
  refine crc_join (m := 0x6986) (crc_join (m := 0x161F) (crc_join (m := 0xE0BB) (crc_join (m := 0x1B33) ?_ ?_) ?_) ?_) ?_ <;>
    decide +kernel

/-- The same recipe for a step that is none. -/
def badBody : List Byte :=
  [0, 7, 0, 0, 1, 9, 0, 0, 10, 15, 160, 1] ++
    [1, 1, 0, 5, 1, 44, 3, 32, 2, 88, 4, 76] ++
    [3, 132, 4, 76, 0, 30, 2, 88, 0, 60, 0, 1] ++
    [0, 20, 0, 60, 40, 0, 2, 0, 0, 0, 30, 0] ++
    [0, 0, 100]

theorem badBody_crc : crc16 badBody = 0x8F8B := by
  refine crc_join (m := 0x0DB5) (crc_join (m := 0x27D3) (crc_join (m := 0x7085) (crc_join (m := 0x889E) ?_ ?_) ?_) ?_) ?_ <;>
    decide +kernel

/-- The same recipe with a segment of no mode. -/
def segmentBody : List Byte :=
  [0, 7, 0, 0, 1, 1, 0, 0, 10, 15, 160, 1] ++
    [1, 1, 0, 5, 1, 44, 3, 32, 2, 88, 4, 76] ++
    [3, 132, 4, 76, 0, 30, 2, 88, 0, 60, 0, 3] ++
    [0, 20, 0, 60, 40, 0, 2, 0, 0, 0, 30, 0] ++
    [0, 0, 100]

theorem segmentBody_crc : crc16 segmentBody = 0xD88F := by
  refine crc_join (m := 0xE340) (crc_join (m := 0x365D) (crc_join (m := 0xE0BB) (crc_join (m := 0x1B33) ?_ ?_) ?_) ?_) ?_ <;> decide +kernel

/-- The same recipe with a zone of no kind. -/
def zoneBody : List Byte :=
  [0, 7, 0, 0, 1, 1, 0, 0, 10, 15, 160, 1] ++
    [1, 1, 0, 5, 1, 44, 3, 32, 2, 88, 4, 76] ++
    [3, 132, 4, 76, 0, 30, 2, 88, 0, 60, 0, 1] ++
    [0, 20, 0, 60, 40, 0, 3, 0, 0, 0, 30, 0] ++
    [0, 0, 100]

theorem zoneBody_crc : crc16 zoneBody = 0x73C5 := by
  refine crc_join (m := 0x2C26) (crc_join (m := 0x161F) (crc_join (m := 0xE0BB) (crc_join (m := 0x1B33) ?_ ?_) ?_) ?_) ?_ <;> decide +kernel

/-- The configuration image with its CRC. -/
def image : List Byte := imageBody ++ [0xA2, 0xCF]

/-- A cell whose image the loader refused. -/
def refusedLoad : State := { State.reset with cell := .configFault }

theorem witness_EveryCommandAnswersNext :
    State.reset.loaded = false ∧ Instr.linkIdle ≠ .coldReset ∧ Instr.linkIdle ≠ .cellSecondsTick ∧
      (∀ im, Instr.linkIdle ≠ .configurationLoad im) ∧ refusedLoad.loaded = false ∧ refusedLoad.cell = .configFault ∧
      refusedLoad.blankLaw ∧ ∃ t, step refusedLoad = .next t :=
  ⟨by decide, by decide, by decide, fun _ => by simp, by decide, by decide, fun _ => ⟨by decide, by decide⟩, ⟨_, rfl⟩⟩

theorem witness_IdleStepIsOneMillisecond :
    let s : State := { live with
      secondsMs := 999
      tracker := { live.tracker with hold := true, settle := some 1 }
      spray := { live.spray with abort := some 1 }
      tunnel := { live.tunnel with timeout := some 1, cureMs := 1 } }
    s.pending = [] ∧ s.loaded = true ∧ s.tunnel.timeout = some 1 ∧ s.tracker.settle = some 1 ∧ s.spray.abort = some 1 ∧
      s.tunnel.cureMs = 1 ∧ s.secondsMs = 999 := by decide

theorem witness_ConfigurationLoadTakesImage :
    image.length = 97 ∧ State.reset.cell = .start ∧ State.reset.loaded = false ∧
      (byteAt image 0 = 0xB7 ∧ byteAt image 1 = 0x31 ∧ byteAt image 2 = 0x01 ∧ halfAt image 3 = 90 ∧
        crc16 (image.take 95) = halfAt image 95 ∧ 1 ≤ (byteAt image 5).toNat ∧ (byteAt image 5).toNat ≤ 31) ∧
      (List.replicate 97 (0 : Byte)).length = 97 ∧ byteAt (List.replicate 97 0) 0 ≠ 0xB7 ∧ live.loaded = true := by
  rw [show image.take 95 = imageBody by decide, imageBody_crc]; decide

theorem witness_ClearOutScanFindsBoards :
    let s : State := { live with cell := .start }
    (s.cell = .start ∧ s.loaded = true) ∧ (∀ p, s.table.get p = none) ∧ (0x400 : BitVec 11).getLsbD (positionBit .exit) = true ∧
      (0x400 : BitVec 11).getLsbD (positionBit .entry) = false ∧ (0x80 : BitVec 8).getLsbD 7 = true :=
  ⟨by decide, by intro p; cases p <;> decide, by decide, by decide, by decide⟩

/-- Three rack positions stand occupied: the near-full count of 2 is crossed at the scan, with no purge requested. -/
theorem witness_ClearOutScanFindsBoards_near_full :
    let s : State := { live with cell := .start }
    s.spray.purge ≠ .requested ∧ s.holds.nearFull = false ∧ s.cfg.terminal ≠ 0 ∧
      s.cfg.nearFull ≤ ((List.finRange 8).filter fun k => (0x07 : BitVec 8).getLsbD k.val).length := by decide

theorem witness_WhatStartsMovesNoBoard :
    (after .guardOpening live).tracker.hold = true ∧
      (at_ .entry Record.strandedRecord live).table.get .entry = some Record.strandedRecord ∧
      (∃ t, (at_ .entry Record.strandedRecord live).starts.table.get .entry = some t) ∧
      hasReason Record.strandedRecord.trav.reasons .stranded = true ∧
      (∃ s : State, s.cell = .clearOut ∧ ∀ p, s.table.get p = none) ∧ live.cell ≠ .clearOut :=
  ⟨by decide, by decide, ⟨Record.strandedRecord, by decide⟩, by decide,
    ⟨{ live with cell := .clearOut }, by decide, by intro p; cases p <;> decide⟩, by decide⟩

theorem live_slots : ∀ k : Fin 8, live.store.slots[k] = { active := none, staged := none } := by decide

theorem witness_MoveStartsUnderItsConditions :
    (let s := at_ .entry Record.strandedRecord live;
      s.loaded = true ∧ s.table.entry = some Record.strandedRecord ∧ s.tracker.moves.toTransport = false ∧ s.table.transport = none ∧
        s.tracker.hold = false ∧ Record.strandedRecord.madeStranded = true) ∧
    (let s := withRecipe (at_ .entry (rec 1) live);
      s.loaded = true ∧ s.table.entry = some (rec 1) ∧ s.tracker.moves.toTransport = false ∧ s.table.transport = none ∧
        s.tracker.hold = false ∧ (rec 1).madeStranded = false ∧ s.cell ≠ .clearOut ∧ s.store.slots[0].active = some 3 ∧
        s.store.records[3].recipe = some recipe ∧ recipe.hits (rec 1).trav.variant (rec 1).trav.sideUp = true) ∧
    (let s := at_ .transport (rec 1) live;
      s.loaded = true ∧ s.table.transport = some (rec 1) ∧ s.tracker.moves.toSpray = false ∧ s.table.spray = none ∧
        s.tracker.hold = false) ∧
    (let s := at_ .spray Record.strandedRecord live;
      s.loaded = true ∧ s.table.spray = some Record.strandedRecord ∧ Record.strandedRecord.spray = .skipped ∧
        s.tracker.moves.toGate = false ∧ s.table.gate = none ∧ s.tracker.hold = false) ∧
    held.tracker.hold = true := by decide

/-- What can start under a loaded cell with a board at ENTRY: the move out of ENTRY, by its own command and at the end of an event. -/
theorem witness_WhatStartsMovesNoBoard_starts :
    (at_ .entry (rec 1) live).loaded = true ∧ (at_ .entry (rec 1) live).starts.tracker.moves.toTransport = true ∧
      (at_ .entry (rec 1) live).tracker.moves.toTransport = false := by decide

theorem witness_MoveStartsUnderItsConditions_unbound :
    let s := at_ .entry (rec 1) live
    (s.loaded = true ∧ s.table.entry = some (rec 1) ∧ s.tracker.moves.toTransport = false ∧ s.table.transport = none ∧
      s.tracker.hold = false ∧ (rec 1).madeStranded = false ∧ s.cell ≠ .clearOut) ∧
    ∀ (k : Fin 8) i rc, s.store.slots[k].active = some i → s.store.records[i].recipe = some rc →
      rc.hits (rec 1).trav.variant (rec 1).trav.sideUp = false :=
  ⟨by decide, fun k i rc h => absurd ((congrArg RecipeSlot.active (live_slots k)).symm.trans h) (by simp)⟩

theorem witness_BoardsAppearAndAreLifted_appear :
    (live.tracking = true ∧ live.sensorEmpty .entry = true ∧ live.table.get .entry = none ∧ live.conveyed .entry = false ∧
      live.covered .entry = false ∧ live.cell ≠ .clearOut ∧ live.tracker.arrival = none) ∧
    (live.sensorEmpty .exit = true ∧ live.table.get .exit = none ∧ live.conveyed .exit = false ∧ live.covered .exit = false) ∧
    (live.sensorEmpty .transport = true ∧ live.table.get .transport = none ∧ live.conveyed .transport = false ∧
      live.covered .transport = false) ∧
    let s : State := { live with cell := .clearOut }
    s.tracking = true ∧ s.sensorEmpty .entry = true ∧ s.table.get .entry = none ∧ s.conveyed .entry = false ∧
      s.covered .entry = false := by decide

theorem witness_BoardsAppearAndAreLifted_lifted :
    (let s := at_ .gate (rec 1) (lev .gate true live);
      s.tracking = true ∧ s.occupied .gate = true ∧ s.conveyed .gate = false ∧ s.covered .gate = false ∧
        s.table.get .gate = some (rec 1) ∧ (rec 1).handoff = none) ∧
    (∀ own ∈ [OwnClaim.none, .queued, .sending, .waiting, .granted, .refusedWait, .ending],
      let g := granted .board (lev .spray true (waiting interval live))
      let s := { g with supply := { g.supply with own := own } };
      s.tracking = true ∧ s.occupied .spray = true ∧ s.conveyed .spray = false ∧ (s.table.spray.map (·.handoff)) = some none ∧
        s.mask.cand ≠ some .spray ∧ s.supply.holder = some .board ∧ s.supply.own = own) ∧
    live.supply.holder ≠ some .board ∧
    (let s := lev .exit true (offeredState (.offered 9 (.answer 3)));
      s.tracking = true ∧ s.occupied .exit = true ∧ s.tunnel.phase ≠ .indexing ∧
        s.table.exit = some { rec 1 with handoff := some (.offered 9 (.answer 3)) } ∧ (rec 1).diversion = none ∧
        s.mask.cand ≠ some .exit) ∧
    (let s := lev .entry true live;
      s.tracking = true ∧ s.occupied .entry = true ∧ s.tracker.moves.toTransport = false ∧ s.table.entry = none) := by decide

/-- A cell with a record at a position and some moves under way. -/
def moving (p : Position) (r : Record) (m : Moves) (s : State) : State :=
  let t := at_ p r s
  { t with tracker := { t.tracker with moves := m } }

theorem witness_MoveCompletesAtEitherEdge :
    (let s := moving .entry (rec 1) { toTransport := true, toSpray := false, toGate := false } live;
      s.tracking = true ∧ (s.inputs.pos.get .transport).level = some (!true) ∧ s.tracker.moves.toTransport = true ∧
        s.sensorEmpty .entry = true) ∧
    (let s := lev .entry true (lev .transport true (moving .entry (rec 1) { toTransport := true, toSpray := false, toGate := false } live));
      s.tracking = true ∧ (s.inputs.pos.get .entry).level = some (!false) ∧ s.tracker.moves.toTransport = true ∧
        s.occupied .transport = true) ∧
    (let s := moving .spray Record.strandedRecord { toTransport := false, toSpray := false, toGate := true } live;
      s.tracking = true ∧ (s.inputs.pos.get .gate).level = some (!true) ∧ s.tracker.moves.toGate = true ∧
        s.sprayIs .spraying = false ∧ s.mask.cand ≠ some .spray ∧ s.sensorEmpty .spray = true) := by decide

/-- A board that reaches SPRAY at the next occupied edge there. -/
def reaching (r : Record) : State :=
  withRecipe (moving .transport r { toTransport := false, toSpray := true, toGate := false } live)

/-- A record bound to the recipe, its one zone VERIFIED. -/
def bound (done : Steps) : Record :=
  { rec 1 with recipe := some 3, verdicts := [.verified], trav := { (rec 1).trav with stepsDone := done } }

theorem witness_SprayDecisionAtSpray :
    (let s := reaching (bound 0);
      (s.tracking = true ∧ (s.inputs.pos.get .spray).level = some (!true) ∧ s.tracker.moves.toSpray = true ∧
        s.sensorEmpty .transport = true ∧ s.table.transport = some (bound 0) ∧ (bound 0).spray = .notDue ∧
        s.mask.cand = none ∧ (bound 0).bound s.store = some recipe ∧ recipe.step ≠ 0 ∧
        hasStep (bound 0).trav.stepsDone recipe.step = false ∧ recipe.prereq &&& ~~~(bound 0).trav.stepsDone = 0) ∧
      (buildSchedule s.cfg recipe (bound 0).verdicts).clip.count = 0 ∧
      (buildSchedule s.cfg recipe (bound 0).verdicts).conflict = none) ∧
    (hasStep (bound 1).trav.stepsDone recipe.step = true ∧ (bound 1).bound (reaching (bound 1)).store = some recipe) ∧
    (let rc := { recipe with prereq := 2 };
      rc.step ≠ 0 ∧ hasStep (bound 0).trav.stepsDone rc.step = false ∧ rc.prereq &&& ~~~(bound 0).trav.stepsDone ≠ 0 ∧
        (bound 0).bound { live.store with records := live.store.records.set 3 (.active rc) } = some rc) ∧
    (hasReason ((bound 0).addReason .length).trav.reasons .length = true ∧ ((bound 0).addReason .length).spray = .notDue) ∧
    -- a record that takes no decision, a zone not VERIFIED that clips, and a NO_COAT zone that conflicts
    (let s := reaching Record.strandedRecord;
      s.table.transport = some Record.strandedRecord ∧ Record.strandedRecord.spray ≠ .notDue) ∧
    (buildSchedule cfg recipe [.missing]).clip.count ≠ 0 ∧ (buildSchedule cfg recipe [.missing]).conflict = none ∧
    (buildSchedule cfg { recipe with zones := [{ kind := .noCoat, x0 := 0, x1 := 30, y0 := 0, y1 := 100 }] } []).conflict.isSome = true := by
  decide +kernel

theorem witness_SprayDecisionAtSpray_open :
    (∀ ph ∈ [MaskPhase.armed, .measuring], ∀ r ∈ [rec 1, { bound 0 with verdicts := [.watching] }],
      let s := { reaching r with mask := { live.mask with phase := ph, cand := some .transport } };
      s.tracking = true ∧ (s.inputs.pos.get .spray).level = some (!true) ∧ s.tracker.moves.toSpray = true ∧
        s.sensorEmpty .transport = true ∧ s.table.transport = some r ∧ s.mask.cand = some .transport ∧ s.mask.phase = ph ∧
        s.mask.cand ≠ some .spray ∧ r.spray = .notDue) ∧
    (rec 1).recipe = none ∧ ({ bound 0 with verdicts := [.watching] } : Record).bound (reaching (bound 0)).store = some recipe ∧
    recipe.zones[0]? = some { kind := .masked, x0 := 0, x1 := 30, y0 := 0, y1 := 100 } := by decide

/-- Of three segments two share an x with the zone's exclusion, and the clipped count is 2. -/
theorem witness_SprayDecisionAtSpray_count :
    (buildSchedule cfg { recipe with segments := [{ valve := 0, xOpen := 20, xClose := 60, rate := .spray 40 },
      { valve := 0, xOpen := 70, xClose := 90, rate := .spray 40 }, { valve := 0, xOpen := 0, xClose := 9, rate := .spray 40 }] }
      [.missing]).clip.count = 2 := by decide +kernel

theorem witness_SprayDecisionAtSpray_clean :
    ∀ x, x ≠ .maskMissing → x ≠ .maskUnchecked → hasReason (bound 0).trav.reasons x = false := by
  intro x; cases x <;> decide

/-- A record bound to the recipe, at EXIT in a handoff state. -/
def handing (h : Handoff) : State := withRecipe (at_ .exit { bound 1 with handoff := some h } live)

theorem witness_ExitEdgesOfTransfer :
    (let s := lev .exit true (handing (.transferring (some 9) false false none));
      s.tracking = true ∧ s.tunnel.phase ≠ .indexing ∧ s.occupied .exit = true) ∧
    (let s := lev .exit true (handing (.transferring (some 9) false true none));
      s.tracking = true ∧ s.tunnel.phase ≠ .indexing ∧ s.occupied .exit = true ∧ s.mask.cand ≠ some .exit ∧
        (bound 1).recipe = some 3 ∧ (bound 1).diversion = none) ∧
    (let s := handing (.transferring (some 9) true false (some 5));
      s.tracking = true ∧ s.tunnel.phase ≠ .indexing ∧ s.sensorEmpty .exit = true ∧
        s.table.exit = some { bound 1 with handoff := some (.transferring (some 9) true false (some 5)) }) := by decide

theorem witness_OfferCarriesTraveller :
    Traveller.blank.results.length ≤ 4 ∧
    (let c : CoatResult := { step := 1, cell := 5, filmMin := 30, filmMax := 40, dose := 900 };
     ({ Traveller.blank with results := [c, c, c, c] } : Traveller).results[3]? = some c) := by decide

/-- An OFFER of serial 1 at the head of the inbound queue. -/
def offerAtHead (s : State) : State := head 4 kindOffer (offerPayload 1 (rec 1).trav) s

/-- The telegram at the head of `offerAtHead`. -/
def theOffer : Telegram := { dst := 5, src := 4, kind := kindOffer, payload := offerPayload 1 (rec 1).trav }

theorem witness_OfferAccepted :
    ((offerAtHead live).loaded = true ∧ (offerAtHead live).link.inbound = [theOffer] ∧ (offerAtHead live).link.answerHeld = false ∧
      theOffer.dst ≠ 0 ∧ live.cfg.upstream ≠ 0 ∧ theOffer.src = live.cfg.upstream ∧ offerFits theOffer.payload = true ∧
      (offerAtHead live).cell = .run ∧ (offerTraveller theOffer.payload).results = [] ∧
      (offerTraveller theOffer.payload).serial = some 1 ∧
      (offerAtHead live).holds.list = [] ∧ (offerAtHead live).tracker.arrivals = [] ∧ 0 < live.cfg.nearFull ∧
      (offerAtHead live).tracker.arrival = none ∧ announced.trav.serial = some 1) ∧
    (∀ p, (offerAtHead live).table.get p = none) ∧
    announced ∈ (State.tracker { offerAtHead live with tracker := { live.tracker with arrivals := [announced] } }).arrivals ∧
    ∀ o ∈ [ReadOutcome.noRead, .read 1 7 9],
      (offerAtHead { live with tracker := { live.tracker with arrival := some (.orphan o 4) } }).tracker =
        { live.tracker with arrival := some (.orphan o 4) } :=
  ⟨by decide, by intro p; cases p <;> decide, by decide, by decide⟩

/-- The code of the first test of R35 that an OFFER fails. -/
def declineCode (s : State) (g : Telegram) : Option Byte :=
  let v := offerTraveller g.payload
  if s.cfg.upstream = 0 ∨ g.src ≠ s.cfg.upstream then some 1
  else if offerFits g.payload = false ∨ ∃ c ∈ v.results, c.step.toNat < 1 ∨ 4 < c.step.toNat then some 2
  else if s.cell = .start ∨ s.cell = .clearOut then some 3
  else if s.cell = .stopped then some 4
  else if s.isRepeat g.src (byteAt g.payload 0) v.serial then none
  else if v.serial.any s.serialStands then some 5
  else if s.cfg.nearFull ≤ s.holds.list.length then some 6
  else if 2 ≤ s.tracker.arrivals.length then some 7
  else none

/-- An arrival-list entry of another serial. -/
def otherEntry (n : Serial) : ArrivalEntry := { announced with trav := (rec n).trav }

theorem witness_OfferDeclinedByFirstTest :
    declineCode (head 7 kindOffer [] live) { theOffer with src := 7 } = some 1 ∧
      declineCode (head 4 kindOffer [1] live) { theOffer with payload := [1] } = some 2 ∧
      declineCode (offerAtHead { live with cell := .clearOut }) theOffer = some 3 ∧
      declineCode (offerAtHead { live with cell := .stopped }) theOffer = some 4 ∧
      declineCode (offerAtHead (at_ .gate (rec 1) live)) theOffer = some 5 ∧
      declineCode (offerAtHead (withHolds [entry 0 .held, { entry 1 .held with serial := none }] live)) theOffer = some 6 ∧
      declineCode (offerAtHead { live with tracker := { live.tracker with arrivals := [otherEntry 8, otherEntry 9] } }) theOffer =
        some 7 ∧
      (offerAtHead live).link.answerHeld = false ∧ 6 ≤ theOffer.payload.length ∧
      -- an OFFER of one byte, whose number is echoed
      (let s := head 4 kindOffer [9] live;
        s.loaded = true ∧ s.link.inbound = [{ dst := 5, src := 4, kind := kindOffer, payload := [9] }] ∧ s.link.answerHeld = false ∧
          s.cell ≠ .configFault ∧ ∃ e ∈ (after .offer s).link.out, e.tg.kind = kindDecline ∧ byteAt e.tg.payload 0 = 9) ∧
      -- an OFFER to all stations
      (let s : State := { live with link := { live.link with inbound := [{ theOffer with dst := 0 }] } };
        s.loaded = true ∧ s.link.inbound = [{ theOffer with dst := 0 }] ∧ s.link.answerHeld = false) := by decide

theorem witness_AnswersForTheOfferedRecord :
    (let s := head 6 kindAccept (answerPayload 9 (some 1)) (offeredState (.offered 9 (.answer 3)));
      s.loaded = true ∧ s.link.inbound = [{ dst := 5, src := 6, kind := kindAccept, payload := answerPayload 9 (some 1) }] ∧
        s.link.answerHeld = false ∧ s.cfg.downstream = 6 ∧ (answerPayload 9 (some 1)).length = 6 ∧
        byteAt (answerPayload 9 (some 1)) 0 = 9 ∧ (byteAt (answerPayload 9 (some 1)) 1).getLsbD 0 = true ∧
        wordAt (answerPayload 9 (some 1)) 2 = 1) ∧
    (let p := answerPayload 9 (some 1) ++ [7];
      p.length = 7 ∧ 1 ≤ (byteAt p 6).toNat ∧ (byteAt p 6).toNat ≤ 7 ∧
        (head 6 kindDecline p (offeredState (.offered 9 (.answer 3)))).table.exit =
          some { rec 1 with handoff := some (.offered 9 (.answer 3)) } ∧
        (head 6 kindDecline p (offeredState (.offered 9 (.reOffer 3)))).table.exit =
          some { rec 1 with handoff := some (.offered 9 (.reOffer 3)) }) ∧
    (∀ h ∈ [Handoff.transferring (some 9) false false none, .transferring (some 9) true false (some 4), .offered 9 .posting],
      (head 6 kindReceived (answerPayload 9 (some 1)) (handing h)).table.exit = some { bound 1 with handoff := some h } ∧
        (bound 1).trav.serial = some 1 ∧ (head 6 kindReceived (answerPayload 9 (some 1)) (handing h)).mask.cand ≠ some .exit) ∧
    -- an answer for no record: nothing at EXIT, and another number
    (head 6 kindAccept (answerPayload 9 (some 1)) live).table.exit = none ∧
    byteAt (answerPayload 8 (some 1)) 0 ≠ 9 := by decide

/-- Payloads that do not fit, and a head that waits while an ACCEPT is held. -/
theorem witness_AnswersForTheOfferedRecord_misfit_and_wait :
    (∀ p ∈ [answerPayload 9 (some 1), answerPayload 9 (some 1) ++ [0], answerPayload 9 (some 1) ++ [8]],
      p.length ≠ 7 ∨ (byteAt p 6).toNat = 0 ∨ 7 < (byteAt p 6).toNat) ∧ (answerPayload 9 (some 1) ++ [7]).length ≠ 6 ∧
    (let s := offerAtHead live
     let w : State := { s with link := { s.link with held := [{ tg := { theOffer with kind := kindAccept }, postings := 1 }] } }
     w.loaded = true ∧ w.link.inbound = [theOffer] ∧ ∃ e ∈ w.link.held, e.tg.kind = kindAccept) := by decide

theorem witness_HandoffTimersExpire :
    ((offeredState (.offered 9 (.answer 1))).loaded = true ∧
      (offeredState (.offered 9 (.answer 1))).table.exit = some { rec 1 with handoff := some (.offered 9 (.answer 1)) } ∧
      (offeredState (.offered 9 (.reOffer 1))).table.exit = some { rec 1 with handoff := some (.offered 9 (.reOffer 1)) } ∧
      (offeredState (.offered 9 (.reOffer 1))).cell ≠ .stopped ∧
      ({ offeredState (.offered 9 (.reOffer 1)) with cell := .stopped } : State).cell = .stopped) ∧
    (let s := handing (.transferring (some 9) true false (some 1));
      s.loaded = true ∧ s.table.exit = some { bound 1 with handoff := some (.transferring (some 9) true false (some 1)) } ∧
        s.mask.cand ≠ some .exit) ∧
    (let s : State := { live with tracker := { live.tracker with arrivals := [otherEntry 8, otherEntry 9] } };
      s.tracker.arrivals[1]? = some (otherEntry 9)) ∧
    -- the own OFFER in its send, for the record at EXIT and for none; a RECEIVED at its first and at its eighth posting
    (let s := sending kindOffer (offerPayload 9 (rec 1).trav) (offeredState (.offered 9 .posting));
      s.loaded = true ∧ s.link.line = .sending ∧ s.link.held = [] ∧
        (s.link.out.map fun e => (e.tg.kind, byteAt e.tg.payload 0)) = [(kindOffer, 9)] ∧
        s.table.exit = some { rec 1 with handoff := some (.offered 9 .posting) } ∧
        (sending kindOffer (offerPayload 9 (rec 1).trav) live).table.exit = none) ∧
    (let s := sending kindReceived (answerPayload 2 none) live;
      s.loaded = true ∧ s.link.line = .sending ∧ s.link.held = [] ∧ (s.link.out.map fun e => (e.tg.kind, e.postings)) = [(kindReceived, 1)]) ∧
    8 ≤ (OutEntry.postings { tg := { dst := 4, src := 5, kind := kindReceived, payload := [] }, postings := 8 }) ∧
    (let s : State := { live with tracker := { live.tracker with
        reposts := [{ dst := 4, number := 2, serial := none, postings := 7, timer := 1 }] } };
      s.loaded = true ∧ s.tracker.reposts = [{ dst := 4, number := 2, serial := none, postings := 7, timer := 1 }]) := by decide

/-- A board whose entry read is PENDING, with two entries in the arrival list. -/
def matching : State := { live with tracker := { live.tracker with
  arrival := some (.reading 5), idRequest := 4, arrivals := [announced, otherEntry 9] } }

theorem witness_EntryReadMatchesArrival :
    (matching.loaded = true ∧ matching.tracker.arrival = some (.reading 5) ∧ matching.tracker.arrivals = announced :: [otherEntry 9] ∧
      matching.tracker.idRequest = 4) ∧
    -- read of the first entry's serial, of the second's, and of a serial of neither
    outcomeOf (.read 1 2 3) = .read 1 2 3 ∧ announced.trav.serial = some 1 ∧ announced.trav.serial ≠ some 9 ∧
    (otherEntry 9).trav.serial = some 9 ∧ announced.trav.serial ≠ some 5 ∧ [otherEntry 9].head?.bind (·.trav.serial) ≠ some 5 ∧
    -- the second entry's serial read: the first is skipped, and the second has the serial
    (let m := otherEntry 9; m.trav.serial = some 9 ∧ announced.trav.serial ≠ some 9 ∧ matching.tracker.arrivals = announced :: m :: []) ∧
    filter1.hits announced.trav.variant announced.trav.lot = true ∧
    matching.serialStands 1 = false ∧ (at_ .gate (rec 1) matching).serialStands 1 = true ∧
    (∀ f ∈ [otherEntry 9], f.trav.serial ≠ some 1) ∧
    -- a traveller without a serial
    (let e : ArrivalEntry := { announced with trav := { announced.trav with serial := none } };
     e.trav.serial = none ∧ e.trav.serial ≠ some 5 ∧ (∀ f ∈ [otherEntry 9], f.trav.serial ≠ some 5)) := by decide

theorem witness_OrphanWaitGivesRecord :
    (let s : State := { live with tracker := { live.tracker with arrival := some (.reading 5), idRequest := 4 } };
     s.loaded = true ∧ s.tracker.arrival = some (.reading 5) ∧ s.tracker.arrivals = [] ∧ 3 ≠ s.tracker.idRequest) ∧
    (let s : State := { live with tracker := { live.tracker with arrival := some (.orphan (.read 8 1 2) 1) } };
     s.loaded = true ∧ s.tracker.arrival = some (.orphan (.read 8 1 2) 1) ∧ s.tracker.arrivals = [] ∧ s.tracker.hold = false ∧
      s.serialStands 8 = false ∧ (at_ .gate (rec 8) s).serialStands 8 = true) ∧
    held.tracker.hold = true ∧ live.tracker.arrival = none := by decide

theorem witness_OrphanWaitGivesRecord_lot_hold :
    filter1.hits 7 2 = true ∧ (State.holds { live with holds := { live.holds with
      filters := live.holds.filters.set 4 (some filter1) } }).filters[(4 : Fin 8)] = some filter1 := by decide

/-- A state with an assembly of slot 2 that waits for a fragment. -/
def assembling (n : Nat) : State := { live with store := { live.store with assembler := .assembling 2 n [1] } }

theorem witness_RecipePartAssembles :
    (head 31 kindRecipePart [2, 1, 5] live).link.inbound = [{ dst := 5, src := 31, kind := kindRecipePart, payload := [2, 1, 5] }] ∧
    byteAt [2, 0x10, 5] 1 &&& 0x70 ≠ 0 ∧ ([] : List Byte).length = 0 ∧
    (byteAt [8, 1] 1 &&& 0x70 = 0 ∧ 8 ≤ (byteAt [8, 1] 0).toNat) ∧
    (byteAt [2, 1, 5] 1 &&& 0x70 = 0 ∧ (byteAt [2, 1, 5] 0).toNat = (2 : Fin 8).val ∧ (byteAt [2, 1, 5] 1).toNat % 16 = 1 ∧
      (byteAt [2, 1, 5] 1).getLsbD 7 = false ∧ live.store.assembler = .idle) ∧
    (assembling 1).store.assembler = .assembling 2 1 [1] ∧ (assembling 3).store.assembler = .assembling 2 3 [1] ∧
    ((byteAt [2, 15, 5] 1).toNat % 16 = 15 ∧ (byteAt [2, 15, 5] 1).getLsbD 7 = false ∧
      (assembling 15).store.assembler = .assembling 2 15 [1]) ∧
    ((byteAt [2, 0, 5] 1).toNat % 16 = 0 ∧ (byteAt [2, 0, 5] 1).getLsbD 7 = false) := by decide

/-- The recipe image with its CRC. -/
def recipeImage : List Byte := recipeBody ++ [0x98, 0xE6]

/-- The image for a step that is none, with its CRC. -/
def badImage : List Byte := badBody ++ [0x8F, 0x8B]

/-- The last fragment of an image of one fragment. -/
def onlyPart (im : List Byte) : List Byte := 2 :: 0x80 :: im

theorem recipeImage_formOk : imageFormOk recipeImage = true := by
  rw [imageFormOk, show recipeImage.take (recipeImage.length - 2) = recipeBody by decide, recipeBody_crc]; decide

/-- The images with a segment of no mode and with a zone of no kind, with their CRCs. -/
def segmentImage : List Byte := segmentBody ++ [0xD8, 0x8F]
def zoneImage : List Byte := zoneBody ++ [0x73, 0xC5]

theorem witness_RecipeCommitStages :
    (let p := onlyPart recipeImage;
     2 ≤ p.length ∧ p.length ≤ 62 ∧ byteAt p 1 &&& 0x70 = 0 ∧ (byteAt p 0).toNat = (2 : Fin 8).val ∧ (byteAt p 1).getLsbD 7 = true ∧
      (byteAt p 1).toNat % 16 = 0 ∧ live.store.assembler = .idle ∧ [] ++ p.drop 2 = recipeImage) ∧
    (live.store.records[0] = .free ∧ live.store.slots[(2 : Fin 8)].staged ≠ some 0) ∧
    -- no check of the image fails: scalars, its segment and its zone
    (let b (i : Nat) : Nat := (byteAt recipeImage i).toNat;
     let h (i : Nat) : Nat := 256 * b i + b (i + 1);
     (b 12 = 1 ∧ b 13 = 1) ∧
     (b 5 ≤ 4 ∧ b 4 = 1 ∧ h 7 ≤ h 9 ∧ h 9 ≤ 8191 ∧ h 14 ≤ h 16 ∧ h 24 ≤ h 26 ∧ h 28 < h 30) ∧
     (b 34 < live.cfg.valveCount ∧ h 36 < h 38 ∧ h 38 ≤ 8191 ∧ b 35 = 1 ∧ b 40 ≠ 0) ∧
     b 42 = 2 ∧ h 43 ≤ h 45 ∧ h 45 ≤ 8191 ∧ h 47 ≤ h 49 ∧ h 49 ≤ 8191) ∧
    ([1, 2] : List Byte).length < 36 ∧
    -- the single fragment while an assembly is in progress, and the last fragment of an assembly
    (assembling 3).store.assembler ≠ .idle ∧ (assembling 1).store.assembler = .assembling 2 1 [1] ∧
    ((byteAt [2, 0x81, 5] 1).toNat % 16 = 1 ∧ (byteAt [2, 0x81, 5] 1).getLsbD 7 = true ∧ byteAt [2, 0x81, 5] 1 &&& 0x70 = 0) ∧
    (∀ i : Fin 12, (Store.records { live.store with records := .replicate 12 (.active recipe) })[i] ≠ .free) := by decide

/-- The form check of R53 over the bytes of an image of one segment and one zone. -/
def formOfOne (im : List Byte) : Prop :=
  im.length = 53 ∧ byteAt im 12 = 1 ∧ byteAt im 13 = 1 ∧ crc16 (im.take 51) = halfAt im 51

theorem witness_RecipeCommitStages_form : formOfOne recipeImage ∧ formOfOne badImage ∧ formOfOne segmentImage ∧ formOfOne zoneImage := by
  refine ⟨⟨by decide, by decide, by decide, recipeBody_crc⟩, ⟨by decide, by decide, by decide, badBody_crc⟩,
    ⟨by decide, by decide, by decide, segmentBody_crc⟩, ⟨by decide, by decide, by decide, zoneBody_crc⟩⟩

theorem witness_RecipeCommitStages_content :
    4 < (byteAt badImage 5).toNat ∧ segmentImage.take 34 = recipeImage.take 34 ∧
    ((byteAt segmentImage 34).toNat < live.cfg.valveCount ∧ halfAt segmentImage 36 = 20 ∧ halfAt segmentImage 38 = 60 ∧
      byteAt segmentImage 35 = 3) ∧
    zoneImage.take 42 = recipeImage.take 42 ∧ byteAt zoneImage 42 = 3 := by decide

theorem witness_RecipeRecordFromImage :
    imageFormOk recipeImage = true ∧ (recipeOf recipeImage).segments.length = 1 ∧ (recipeOf recipeImage).zones.length = 1 :=
  ⟨recipeImage_formOk, by decide, by decide⟩

/-- A store with a recipe staged in slot 0, another active there. -/
def stagedOver (s : State) : State :=
  { s with store := { s.store with
      records := (s.store.records.set 3 (.staged recipe)).set 5 (.active recipe)
      slots := s.store.slots.set 0 { active := some 5, staged := some 3 } } }

theorem witness_RecipeActivateAndDrop :
    (head 31 kindRecipeActivate [0] live).link.inbound = [{ dst := 5, src := 31, kind := kindRecipeActivate, payload := [0] }] ∧
    ([0] : List Byte).length = 1 ∧ ([0, 0] : List Byte).length ≠ 1 ∧ 8 ≤ (byteAt [8] 0).toNat ∧
    (byteAt [0] 0).toNat = (0 : Fin 8).val ∧ live.store.slots[(0 : Fin 8)].staged = none ∧
    live.store.slots[(0 : Fin 8)].active = none ∧
    ((stagedOver live).store.slots[(0 : Fin 8)] = { active := some 5, staged := some 3 } ∧
      (stagedOver live).store.records[(3 : Fin 12)] = .staged recipe ∧ (stagedOver live).store.records[(5 : Fin 12)] = .active recipe) ∧
    (stagedOver { live with table := { live.table with gate := some { rec 1 with recipe := some 5 } } }).refCount 5 = 1 := by decide

/-- The recipe with a zone that two mask channels can check. -/
def checked (z : BoardZone) : Recipe := { recipe with zones := [z] }

/-- A MASKED zone that the channels 1 and 2 are to check. -/
def zone : BoardZone := { kind := .masked, x0 := 0, x1 := 30, y0 := 0, y1 := 250 }

/-- A cell whose mask checker measures the board at ENTRY. -/
def measuring (x high : Int) (v : Verdict) : State :=
  let s := at_ .entry { rec 1 with recipe := some 3, verdicts := [v] } live
  { s with
    store := { s.store with records := s.store.records.set 3 (.active (checked zone)) }
    mask := { phase := .measuring, cand := some .entry, x := x, high := high, accepted := some true, lastSample := some true, sampled := [] } }

theorem witness_DatumSampledOutsideMeasurement :
    (live.tracking = true ∧ live.mask.phase ≠ .measuring) ∧
    (let z := { zone with x1 := 10 };
     let r := { rec 1 with recipe := some 3, verdicts := [.pending] }
     let s : State := { at_ .entry r live with
       store := { live.store with records := live.store.records.set 3 (.active (checked z)) }
       mask := { live.mask with phase := .armed, cand := some .entry, accepted := some false, lastSample := some true } }
     s.tracking = true ∧ s.mask.phase = .armed ∧ s.mask.accepted = some false ∧ s.mask.lastSample = some true ∧
      s.mask.cand = some .entry ∧ s.table.get .entry = some r ∧ r.bound s.store = some (checked z) ∧ (checked z).zones[0]? = some z ∧
      r.verdicts[0]? = some .pending ∧ (z.x1 : Int) - z.x0 ≤ 2 * s.cfg.inset ∧ z.kind = .masked) ∧
    (rec 1).bound live.store = none ∧ (∀ c : Fin 32, qualifies live.cfg { zone with y1 := 100 } c.val = false) ∧
    ({ live with cell := .start } : State).loaded = true := by decide

/-- A candidate in ARMED at the sample that brings its leading edge, with one zone. -/
def opening (z : BoardZone) (v : Verdict) : State :=
  let s := at_ .entry { rec 1 with recipe := some 3, verdicts := [v] } live
  { s with
    store := { s.store with records := s.store.records.set 3 (.active (checked z)) }
    mask := { live.mask with phase := .armed, cand := some .entry, accepted := some false, lastSample := some true } }

/-- A checkable zone whose window starts after x = 1, and one whose window starts there, with a channel absent and with all present. -/
theorem witness_DatumSampledOutsideMeasurement_checkable :
    (∃ c : Fin 32, qualifies live.cfg zone c.val = true) ∧ ¬ (zone.x1 : Int) - zone.x0 ≤ 2 * live.cfg.inset ∧
    (let s := opening zone .pending;
     s.tracking = true ∧ s.mask.phase = .armed ∧ s.mask.accepted = some false ∧ s.mask.lastSample = some true ∧
      s.mask.cand = some .entry ∧ (s.table.entry.bind fun r => r.bound s.store) = some (checked zone) ∧
      (s.table.entry.bind fun r => r.verdicts[0]?) = some .pending ∧ (zone.x0 : Int) + s.cfg.inset ≠ 1) ∧
    -- an inset of 1 and a zone from 0: its window starts at x = 1
    (let s : State := { opening zone .pending with cfg := { cfg with inset := 1 } };
     (zone.x0 : Int) + s.cfg.inset = 1 ∧ (1 : Int) ≤ (zone.x1 : Int) - s.cfg.inset ∧ s.tracking = true ∧
      (∃ c : Fin 32, qualifies s.cfg zone c.val = true ∧ s.inputs.mask[c].level ≠ some true) ∧
      ((after (.transportEncoderCount .forward true) s).table.entry.map fun r => (r.verdicts, hasReason r.trav.reasons .maskMissing)) =
        some ([.missing], true)) ∧
    (let s : State := { opening zone .pending with
       cfg := { cfg with inset := 1 }, inputs := { live.inputs with mask := .replicate 32 (Filter.forced true) } };
     (∀ c : Fin 32, s.inputs.mask[c].level = some true) ∧
      ((after (.transportEncoderCount .forward true) s).table.entry.map fun r => (r.verdicts, r.trav.reasons)) = some ([.watching], 0)) := by
  decide +kernel

theorem witness_MeasurementCountsAndCloses :
    (let s := measuring 9 10 .pending;
     s.tracking = true ∧ s.mask.phase = .measuring ∧ s.mask.cand = some .entry ∧ (s.table.get .entry).isSome = true ∧
      s.mask.x + 1 ≤ s.mask.high ∧ s.mask.high - (s.mask.x - 1) ≤ 64) ∧
    (let s := measuring 10 73 .pending; s.mask.high - (s.mask.x - 1) ≤ 64) ∧
    (let s := measuring 10 74 .pending; 64 < s.mask.high - (s.mask.x - 1)) ∧
    (let s := measuring 8191 8191 .pending; s.mask.high < s.mask.x + 1 ∧ s.mask.x + 1 = 8192) ∧
    (let s := { measuring 100 100 .verified with mask := { (measuring 100 100 .verified).mask with lastSample := some false } };
     s.mask.high < s.mask.x + 1 ∧ s.mask.x + 1 ≠ 8192 ∧ 0 ≤ s.mask.x ∧ s.mask.accepted = some true ∧ s.mask.lastSample = some false ∧
      (zone.x1 : Int) ≤ s.mask.x) ∧
    -- a board shorter than its zone, at the bound of the length
    (let s := { measuring 29 29 .verified with mask := { (measuring 29 29 .verified).mask with lastSample := some false } };
     s.mask.high < s.mask.x + 1 ∧ s.mask.x < (zone.x1 : Int) ∧ zone.kind = .masked ∧ s.mask.x + 1 = (zone.x1 : Int)) ∧
    (let s := measuring 9 9 .pending;
     (s.table.entry.bind fun r => r.bound s.store) = some (checked zone) ∧ (checked zone).lenMin = 10 ∧ (9 : Int) < (checked zone).lenMin) := by
  decide

theorem witness_ZonesJudgedAtSamplingCount :
    -- the window of the zone is 5 to 25
    (let s := measuring 4 4 .pending;
     s.tracking = true ∧ s.mask.phase = .measuring ∧ s.mask.cand = some .entry ∧
      (s.table.entry.bind fun r => r.bound s.store) = some (checked zone) ∧ (checked zone).zones[0]? = some zone ∧
      (s.table.entry.bind fun r => r.verdicts[0]?) = some .pending ∧ s.mask.high < s.mask.x + 1 ∧ s.mask.x + 1 ≠ 8192 ∧
      s.mask.accepted = some true ∧ zone.kind = .masked ∧ s.mask.x + 1 = (zone.x0 : Int) + s.cfg.inset ∧
      ∃ c : Fin 32, qualifies s.cfg zone c.val = true ∧ s.inputs.mask[c].level ≠ some true) ∧
    (let t := measuring 24 24 .watching;
     let s : State := { t with inputs := { t.inputs with mask := .replicate 32 (Filter.forced true) } }
     s.mask.high < s.mask.x + 1 ∧ s.mask.x + 1 = (zone.x1 : Int) - s.cfg.inset ∧
      ¬ ∃ c : Fin 32, qualifies s.cfg zone c.val = true ∧ s.inputs.mask[c].level ≠ some true) := by decide +kernel

/-- A count with the datum empty that is not the trailing edge: the zone, not sampled, is at its window's end, and at its window's start. -/
theorem witness_ZonesJudgedAtSamplingCount_empty_datum :
    (let s := measuring 24 24 .watching;
     s.mask.lastSample ≠ some false ∧ s.mask.sampled.getD 0 false = false ∧ s.mask.x + 1 = (zone.x1 : Int) - s.cfg.inset ∧
      (s.table.entry.bind fun r => r.verdicts[0]?) = some .watching ∧ s.mask.high < s.mask.x + 1 ∧ s.mask.accepted = some true) ∧
    (let s := measuring 4 4 .pending; s.mask.x + 1 = (zone.x0 : Int) + s.cfg.inset) ∧
    (let s := { measuring 24 24 .watching with mask := { (measuring 24 24 .watching).mask with sampled := [true] } };
     s.mask.sampled.getD 0 false = true) := by decide

theorem witness_ScheduleAvoidsExclusions :
    interval ∈ (buildSchedule cfg recipe [.verified]).intervals ∧
    (buildSchedule cfg recipe [.pending]).clip.count ≠ 0 ∧ recipe.zones[0]? = some { kind := .masked, x0 := 0, x1 := 30, y0 := 0, y1 := 100 } ∧
    2 * (cfg.valveY0 + interval.valve * cfg.valvePitch : Int) - cfg.swath ≤ 2 * ((100 : Int) + 31) ∧
    2 * ((0 : Int) - 31) ≤ 2 * (cfg.valveY0 + interval.valve * cfg.valvePitch : Int) + cfg.swath := by decide +kernel

theorem witness_ScheduleAvoidsExclusions_piece :
    -- the one segment, which no zone shuts, is one piece, and the list is not cut
    (buildSchedule cfg recipe [.verified]).full = false ∧
    recipe.segments[0]? = some { valve := 0, xOpen := 20, xClose := 60, rate := .spray 40 } ∧ cfg.minOpen ≤ 60 - 20 ∧
    (∀ z ∈ recipe.zones, z.kind = .masked) ∧ recipe.zones.length = 1 ∧ [Verdict.verified].getD 0 .pending = .verified := by
  decide +kernel

/-- The values of one forward count with no lead, at a travelled count. -/
def countAt (n : Nat) : CountAt := { travelled := n, now := 5, stopToBar := 10, openLead := 0, closeLead := 0, mayOpen := true }

/-- A JET interval of pitch 8 from 20 to 60. -/
def jet (pr : Progress) : Interval := { interval with rate := .jet 8 50, progress := pr }

theorem witness_EventsFireWhenDue :
    (∃ o, (fireFrom (countAt 30) [] [interval]).1[0]? = some o ∧ o.progress ≠ .armed) ∧
    (∃ o, (fireFrom (countAt 70) [] [interval]).1[0]? = some o ∧ o.progress = .passedOver) ∧
    (countAt 70).stopToBar + interval.xClose ≤ (countAt 70).travelled + (countAt 70).closeLead ∧
    (countAt 69).travelled + (countAt 69).closeLead < (countAt 69).stopToBar + interval.xClose ∧
    ({ interval with progress := .closed 5 0 } : Interval).finished = true ∧
    -- the second interval of a valve waits for the first
    (∃ o, (fireFrom (countAt 40) [] [interval, { interval with xOpen := 25 }]).1[1]? = some o ∧ o.progress = .due) ∧
    -- an interval whose close becomes due before its open, under a larger close lead: it is not opened, though its close is due no more
    (∃ o, (fireFrom { countAt 29 with closeLead := 41 } [] [interval]).1[0]? = some o ∧ o.progress = .lapsed false) ∧
    (∃ o, (fireFrom (countAt 30) [] [{ interval with progress := .lapsed false }]).1[0]? = some o ∧ o.progress = .passedOver) ∧
    -- a JET interval on and off, at its last count of a half pitch, with opens allowed and not
    (∀ on ∈ [true, false], ∃ o, (fireFrom { countAt 40 with mayOpen := on } [] [jet (.opened 0 on 1 2)]).1[0]? = some o ∧
      o.progress = .opened 0 false 4 2) ∧
    (∃ o, (fireFrom (countAt 40) [] [jet (.opened 0 false 1 2)]).1[0]? = some o ∧ o.progress = .opened 0 true 4 3) ∧
    (∃ e ∈ pendingEvents [interval], e.opens = true) :=
  ⟨⟨_, rfl, by decide⟩, ⟨_, rfl, by decide⟩, by decide, by decide, by decide, ⟨_, rfl, by decide⟩, ⟨_, rfl, by decide⟩,
    ⟨_, rfl, by decide⟩, by decide, by decide, by decide⟩

/-- An open that has become due waits for the close before it, and fires at the count of that close though its lead has fallen since:
stop-to-bar and x_open are 75 and travelled is 70 (R96). -/
theorem test_due_open_fires_at_close :
    let second (p : Progress) : Interval := { interval with xOpen := 65, xClose := 90, progress := p }
    let first : Interval := { interval with progress := .opened 0 true 0 0 }
    ((fireFrom { countAt 69 with openLead := 10 } [] [first, second .armed]).1.map (·.progress)) = [.opened 0 true 0 0, .due] ∧
      ((fireFrom (countAt 70) [] [first, second .due]).1.map (·.progress)) = [.closed 5 0, .opened 5 true 0 0] := by decide

theorem witness_SprayFilmFormula :
    interval.rate = .spray 40 ∧ ({ interval with progress := .closed 100 0 } : Interval).progress = .closed 100 0 ∧
      (255 ≤ 255 ∧ 2 ^ 20 - 1 ≤ 2 ^ 20 - 1 ∧ 8191 ≤ 8191 ∧ 1023 ≤ 1023) ∧ (0 < 40 ∧ 0 < 100 ∧ 0 < 4 ∧ 4 * 100 = 10 * 40) := by decide

theorem witness_JetDotsAndFilm :
    0 < 4 ∧ (jet (.opened 0 true 4 1)).rate = .jet (2 * 4) 50 ∧ (jet (.opened 0 true 4 1)).progress = .opened 0 true 4 1 ∧
    (∀ j, j < 20 → (countAt 40).mayOpen = true ∧ (countAt 40).travelled + (countAt 40).closeLead < (countAt 40).stopToBar + 60) ∧
    (jet (.closed 100 5)).progress = .closed 100 5 ∧ (∀ t d, (jet .passedOver).progress ≠ .closed t d) ∧
    extremes (filmsOf 100 [jet (.closed 100 5), jet .armed]) = some (25, 25) :=
  ⟨by decide, rfl, rfl, fun _ _ => by decide, rfl, fun _ _ => Progress.noConfusion, by decide⟩

/-- A board that waits at SPRAY with an empty schedule. -/
def waitingEmpty : State := { waiting interval live with spray := { live.spray with schedule := some [] } }

theorem witness_ClaimAskedAndPassStarted :
    (let s := waiting interval live;
     s.loaded = true ∧ (s.table.spray.map fun r => (r.spray, r.bound s.store)) = some (.waitingSupply, some recipe) ∧
      s.spray.schedule = some (interval :: []) ∧ s.table.gate = none ∧ s.tracker.hold = false ∧ s.spray.purge ≠ .claiming ∧
      s.spray.purge ≠ .purging ∧ s.supply.own = .none) ∧
    (let s : State := { live with spray := { live.spray with purge := .requested } };
     s.loaded = true ∧ s.spray.purge = .requested ∧ s.table.spray = none ∧ s.tracker.hold = false ∧ s.supply.own = .none) ∧
    held.tracker.hold = true ∧
    (let s := granted .board (waiting interval live);
     s.supply.own = .granted ∧ s.supply.holder = some .board ∧ s.spray.schedule = some (interval :: []) ∧ s.table.gate = none) ∧
    (let s := waitingEmpty;
     s.loaded = true ∧ (s.table.spray.map fun r => (r.spray, r.bound s.store)) = some (.waitingSupply, some recipe) ∧
      s.table.gate = none ∧ s.tracker.hold = false ∧ s.spray.schedule = some [] ∧ s.spray.purge = .none) := by decide

theorem witness_SprayEncoderCounts_dots :
    let s := { passing .armed 29 with spray := { (passing .armed 29).spray with schedule := some [jet .armed] } }
    s.loaded = true ∧ s.sprayIs .spraying = true ∧ s.spray.schedule = some [jet .armed] ∧ s.spray.abort = none ∧
      (fireFrom (countAt 30) [] [jet .armed]).2 = 1 := by decide

theorem witness_SprayEncoderCounts :
    (live.loaded = true ∧ live.sprayIs .spraying = false) ∧
    (let s := passing .armed 5;
     s.loaded = true ∧ (s.table.spray.map fun r => (r.spray, r.bound s.store)) = some (.spraying, some recipe) ∧
      s.spray.schedule = some [interval] ∧ s.spray.abort = none ∧ s.cfg.edge = .both ∧ s.openLead = 0 ∧ s.closeLead = 0 ∧
      s.cfg.stopToBar = 10 ∧ (fireFrom (countAt 6) [] [interval]).2 = 0 ∧
      ∃ o ∈ (fireFrom (countAt 6) [] [interval]).1, o.finished = false) ∧
    (let open' := { interval with progress := .opened 0 false 0 0 };
     (passing (.opened 0 false 0 0) 69).spray.schedule = some [open'] ∧ (passing (.opened 0 false 0 0) 69).spray.travelled = 69 ∧
      (fireFrom (countAt 70) [] [open']).2 = 0 ∧ (∀ o ∈ (fireFrom (countAt 70) [] [open']).1, o.finished = true) ∧
      (passing (.opened 0 false 0 0) 69).supply.own = .granted ∧ (passing (.opened 0 false 0 0) 69).supply.holder = some .board) := by
  decide

/-- A pass whose abort is pending, its interval in some progress. -/
def aborting (pr : Progress) : State :=
  let s := passing pr 5
  { s with spray := { s.spray with abort := some 1 } }

theorem witness_AbortTakesEffect :
    (let s := aborting .armed;
     s.loaded = true ∧ (s.table.spray.map fun r => (r.spray, r.bound s.store)) = some (.spraying, some recipe) ∧
      s.spray.schedule = some [interval] ∧ s.spray.abort = some 1 ∧ filmsOf s.cfg.swath [interval] = [] ∧
      s.supply.holder = some .board ∧ s.supply.own = .granted ∧ s.cfg.edge = .both) ∧
    extremes (filmsOf (aborting .armed).cfg.swath [{ interval with progress := .closed 100 0 }]) = some (40, 40) ∧
    -- a close that is due at the forward count of the abort gives a film
    filmsOf 100 (fireFrom { countAt 70 with now := 100, mayOpen := false } [] [{ interval with progress := .opened 0 true 0 0 }]).1 = [40] ∧
    ({ aborting .armed with supply := live.supply } : State).supply.own = .none ∧
    (let s := lev .gate false (passing .armed 5);
     (s.table.spray.map fun r => (r.spray, r.bound s.store)) = some (.spraying, some recipe) ∧ s.spray.schedule = some [interval] ∧
      s.supply.own = .granted ∧ s.tracking = true ∧ (s.inputs.pos.get .gate).level = some (!true) ∧
      s.tracker.moves.toGate = true ∧ s.mask.cand ≠ some .spray ∧ s.sensorEmpty .spray = true) := by decide

theorem witness_PurgeEndsAtItsTimer :
    purging.loaded = true ∧ purging.spray.purge = .purging ∧ purging.spray.purgeTimer = some 1 ∧ purging.supply.own = .granted ∧
      purging.supply.holder = some .purge := by decide

theorem witness_ValvesOpenOnlyUnderClaim :
    let s := passing (.opened 0 true 0 0) 40
    s.valvePin 0 = true ∧ s.sprayLaw ∧ s.supplyLaw ∧ s.loaded = true ∧ s.inputs.guard.raw = false ∧
      State.reset.blankLaw ∧ State.reset.loaded = false := by
  refine ⟨by decide, ⟨?_, by decide, by decide, by decide⟩, ⟨by decide, by decide, fun _ => ⟨0, by decide, by decide⟩⟩,
    by decide, by decide, fun _ => ⟨by decide, by decide⟩, by decide⟩
  intro p r h _
  cases p <;> first | rfl | cases h

/-- A valve driven for a pass, and one for a purge. -/
theorem witness_ValvesOpenOnlyUnderClaim_driven :
    (let s := passing (.opened 0 true 0 0) 40;
     s.sprayIs .spraying = true ∧ s.spray.schedule = some [{ interval with progress := .opened 0 true 0 0 }] ∧ interval.valve = 0) ∧
    purging.valvePin 0 = true ∧ purging.spray.purge = .purging ∧ purging.cfg.purgeSet.getLsbD 0 = true ∧ purging.valvePin 2 = false := by
  decide

theorem witness_SupplyClaimTaken :
    live.tracking = true ∧ State.reset.cell = .start ∧ ([] : List Byte).length ≠ 8 ∧ live.cfg.station = 5 ∧ (6 : Byte) ≠ 0 ∧ (6 : Byte) ≠ live.cfg.station ∧
      (31 : Byte).toNat ≤ 31 ∧ ([2, 0, 0, 0, 0, 0, 0, 0] : List Byte).length = 8 ∧ byteAt [2, 0, 0, 0, 0, 0, 0, 0] 0 = live.cfg.group ∧
      byteAt [3, 0, 0, 0, 0, 0, 0, 0] 0 ≠ live.cfg.group := by decide

theorem witness_SupplyDoneRemovesEntry :
    (let s := claimWaiting;
     s.tracking = true ∧ State.reset.cell = .start ∧ ([0, 0, 0, 0, 0, 0] : List Byte).length = 6 ∧ (∃ e ∈ s.supply.view, e.station = 6) ∧
      (∀ e ∈ s.supply.view, e.station ≠ 7) ∧ (6 : Byte) ≠ s.cfg.station ∧ (6 : Byte).toNat ≤ 31 ∧ s.supply.own = .waiting) ∧
    (let s := { claimWaiting with supply := { claimWaiting.supply with learning := none } };
     s.supply.learning = none ∧ (s.supply.view.filter fun e => e.station != 6) = [] ++ [{ station := 5, serial := some 1, remaining := 9 }] ∧
      ([] : List ClaimEntry).length < s.cfg.limit) ∧ live.supply.own ≠ .waiting := by decide

/-- The claim of `claimWaiting` after the learning time. -/
def learned : State := { claimWaiting with supply := { claimWaiting.supply with learning := none } }

theorem witness_ClaimGrantedByTest :
    (learned.loaded = true ∧ learned.supply.own = .waiting ∧ learned.supply.learning = none ∧
      learned.supply.view = [{ station := 6, serial := none, remaining := 9 }] ++ [{ station := 5, serial := some 1, remaining := 9 }] ∧
      (5 : Byte) = learned.cfg.station ∧ 1 < learned.cfg.limit ∧ learned.supply.holder = some .board) ∧
    (let s := { learned with
       spray := { live.spray with purge := .claiming }
       supply := { learned.supply with holder := some .purge } };
     s.supply.holder = some .purge ∧ s.spray.purge = .claiming ∧ s.tracker.hold = false) ∧
    live.supply.own ≠ .waiting ∧ claimWaiting.supply.learning = some 3 := by decide

theorem witness_OwnClaimReadBackAndExpired :
    (∀ own ∈ [OwnClaim.sending, .ending], (claimSending own).loaded = true ∧ (claimSending own).link.line = .sending ∧
      ((claimSending own).link.out.map fun e => e.tg.kind) = [kindSupplyClaim] ∧ (claimSending own).supply.own = own) ∧
    (let s := sending kindSupplyDone [] live;
     s.link.line = .sending ∧ (s.link.out.map fun e => e.tg.kind) = [kindSupplyDone]) ∧
    (let s := { claimWaiting with supply := { claimWaiting.supply with own := .refusedWait, reClaim := some 1 } };
     s.loaded = true ∧ s.supply.own = .refusedWait ∧ s.supply.reClaim = some 1) ∧
    -- the own entry runs out at a tick, during a pass, in the wait for a pass, and during a purge
    (let view : List ClaimEntry := [{ station := 5, serial := none, remaining := 1 }];
     let s := { passing .armed 5 with supply := { (passing .armed 5).supply with view := view } }
     s.supply.view = view ∧ (∃ e ∈ s.supply.view, e.station = s.cfg.station) ∧
      (∀ e ∈ (view.map fun e => { e with remaining := e.remaining - 1 }).filter fun e => decide (0 < e.remaining), e.station ≠ s.cfg.station) ∧
      s.supply.own = .granted ∧ s.supply.holder = some .board ∧ s.sprayIs .spraying = true ∧ s.spray.abort = none) ∧
    (claimWaiting.supply.own = .waiting ∨ claimWaiting.supply.own = .granted) ∧ claimWaiting.sprayIs .spraying = false ∧
    (purging.supply.own = .granted ∧ purging.supply.holder = some .purge ∧ purging.spray.purge = .purging ∧
      (∀ e ∈ purging.supply.view.filter (fun e => e.station != 5), e.station ≠ purging.cfg.station)) ∧
    ∃ e ∈ purging.supply.view.filter (fun e => e.station != 6), e.station = purging.cfg.station := by decide
theorem witness_WeightOfReading :
    ((599 : Int) < recipe.tOn ∧ recipe.tOn ≤ 600) ∧
    -- reading 93.7: d = 13, q = 1, r = 3; reading 72.4: d = -8, q = -1, r = 2; the top of the scale: d = 49
    (10 * (13 : Int) ≤ 937 - recipe.tRef ∧ 937 - recipe.tRef < 10 * 13 + 10 ∧ (13 : Int) = 10 * 1 + 3 ∧
      [256, 274, 294, 315, 338, 362, 388, 416, 446, 478][3]? = some 315) ∧
    (10 * (-8 : Int) ≤ 724 - recipe.tRef ∧ 724 - recipe.tRef < 10 * (-8) + 10 ∧ (-8 : Int) = 10 * (-1) + 2) ∧
    ((490 : Int) ≤ 1290 - recipe.tRef ∧ (49 : Int) = 10 * 4 + 9) ∧
    (let rc := { recipe with tOn := -500 };
     rc.tOn ≤ -500 ∧ 10 * (-130 : Int) ≤ -500 - rc.tRef ∧ -500 - rc.tRef < 10 * (-130) + 10 ∧ (-130 : Int) = 10 * (-13) + 0 ∧
      (-13 : Int) < -8) ∧
    (10 * (-80 : Int) ≤ 0 - recipe.tRef ∧ 0 - recipe.tRef < 10 * (-80) + 10 ∧ (-80 : Int) = 10 * (-((8 : Nat) : Int)) + 0) := by decide

theorem witness_CureTickTimesAndDoses :
    (let s := at_ .tunnel5 (sprayed 207000) (at_ .gate { sprayed 0 with elapsed := 599 } (heated live));
     s.loaded = true ∧ s.table.get .tunnel5 = some (sprayed 207000) ∧ slotZoneOf s.cfg.slotZone .tunnel5 = some .b ∧
      (sprayed 207000).sprayedHere = true ∧ (sprayed 207000).bound s.store = some recipe ∧ s.table.get .entry = none ∧
      slotZoneOf s.cfg.slotZone .gate = none ∧ s.table.get .gate = some { sprayed 0 with elapsed := 599 } ∧
      ({ sprayed 0 with elapsed := 599 } : Record).sprayedHere = true ∧
      ({ sprayed 0 with elapsed := 599 } : Record).bound s.store = some recipe) ∧ Record.strandedRecord.sprayedHere = false := by decide

/-- A board at GATE that the next index carries, the index due. -/
def due (elapsed : Nat) : State :=
  let s := at_ .gate { sprayed 0 with elapsed := elapsed } (heated live)
  { s with tunnel := { s.tunnel with phase := .indexPending } }

theorem witness_DwellExpiryAndIndex :
    (let s := { live with tunnel := { live.tunnel with dwell := 2 } };
     s.loaded = true ∧ s.tunnel.phase = .dwell ∧ s.tunnel.dwell ≠ 1 ∧ s.runState = .running) ∧
    held.runState ≠ .running ∧
    (∃ t, exec .cureTick (atExpiry 207120) = .next t) ∧
    ((atExpiry 207120).tunnel.phase = .dwell ∧ (atExpiry 207120).tunnel.dwell = 1 ∧ (atExpiry 207120).runState = .running ∧
      (atExpiry 207120).cell = .run ∧ (atExpiry 207120).tunnel.extensionUsed + 30 ≤ (atExpiry 207120).cfg.maxExtension ∧
      ((atExpiry 207120).table.tunnel5.map fun r => (r.sprayedHere, r.bound (atExpiry 207120).store, r.dose)) =
        some (true, some recipe, 207120) ∧ 207120 < recipe.cureMin * 256 ∧ 207120 + 30 * 776 ≤ recipe.cureMax * 256) ∧
    ¬ 230400 < recipe.cureMin * 256 ∧
    ((due 30).loaded = true ∧ (due 30).tunnel.phase = .indexPending ∧ (due 30).table.exit = none ∧ (due 30).runState = .running ∧
      ((due 30).table.gate.map fun r => (r.sprayedHere, r.bound (due 30).store)) = some (true, some recipe) ∧ recipe.flashMin = 30) ∧
    (at_ .gate Record.strandedRecord live).table.gate = some Record.strandedRecord ∧ live.table.gate = none ∧
    (indexing (sprayed 0)).tunnel.phase = .indexing ∧ (indexing (sprayed 0)).tunnel.fault = false ∧
    (indexing (sprayed 0)).tunnel.timeout = some 1 :=
  ⟨by decide, by decide, ⟨_, rfl⟩, by decide, by decide, by decide, by decide, by decide, by decide, by decide, by decide⟩

theorem witness_IndexDoneMovesRecords :
    live.loaded = true ∧ live.tunnel.phase ≠ .indexing ∧
    (let s := indexing (sprayed 0);
     s.loaded = true ∧ s.tunnel.phase = .indexing ∧ s.tunnel.fault = false ∧ (s.table.shifted false).exit.isSome = true ∧
      (lev .exit false s).sensorEmpty .exit = true ∧ Position.gate ∉ coveredPositions s.tunnel.carriesGate ∧
      Position.tunnel1 ∈ coveredPositions s.tunnel.carriesGate) ∧
    (let s := { lev .exit true live with tunnel := { live.tunnel with phase := .indexing } };
     (s.table.shifted false).exit = none ∧ s.occupied .exit = true ∧ (lev .exit false s).occupied .exit = false) := by decide

/-- The last board of a RETIRING recipe, carried to an empty sensor at TUNNEL3; the input not active, active, and the index in FAULT. -/
theorem witness_IndexDoneMovesRecords_lost :
    (let s := at_ .tunnel2 { rec 1 with recipe := some 3 } { live with tunnel := { live.tunnel with phase := .indexing } }
     let w : State := { s with store := { s.store with records := s.store.records.set 3 (.retiring recipe) } };
     w.loaded = true ∧ w.inputs.indexDone.level ≠ some true ∧ w.tunnel.fault = false ∧ w.store.records[(3 : Fin 12)].isRetiring = true ∧
      Position.tunnel3 ∈ coveredPositions w.tunnel.carriesGate ∧ w.sensorEmpty .tunnel3 = true ∧
      (w.table.shifted w.tunnel.carriesGate).get .tunnel3 = some { rec 1 with recipe := some 3 } ∧
      (rec 1).handoff = none ∧ w.table.tunnel5 = none ∧
      (after .indexDone w).store.records[(3 : Fin 12)] = .free ∧ outKinds (after .indexDone w) = [kindNotice]) ∧
    (Inputs.indexDone { live.inputs with indexDone := Filter.forced true }).level = some true ∧
    (Tunnel.fault { live.tunnel with fault := true }) = true := by decide

theorem witness_RecordJudgedAtExit :
    (∀ r ∈ [sprayed 230400, sprayed 230399, rec 1], let s := indexing r;
     s.loaded = true ∧ s.inputs.indexDone.level ≠ some true ∧ s.tunnel.phase = .indexing ∧ s.tunnel.fault = false ∧
      s.table.tunnel5 = some r ∧ s.cell = .run ∧
      ∀ p ∈ coveredPositions s.tunnel.carriesGate,
        ((s.table.shifted s.tunnel.carriesGate).get p = none → s.occupied p = false) ∧
        ((s.table.shifted s.tunnel.carriesGate).get p ≠ none → s.sensorEmpty p = false)) ∧
    ((sprayed 230400).sprayedHere = true ∧ (sprayed 230400).bound (indexing (sprayed 230400)).store = some recipe ∧
      (sprayed 230400).trav.reasons = 0 ∧ recipe.cureMin * 256 ≤ (sprayed 230400).dose ∧ live.cfg.downstream ≠ 0) ∧
    (sprayed 230399).dose < recipe.cureMin * 256 ∧ (rec 1).sprayedHere = false ∧ (rec 1).trav.reasons = 0 ∧
    -- a counter armed for AUDIT before the event, and one that its CURE_MARGIN event arms
    (let w := watched.watch.set 0 { count := 0, flag := true, armed := true, edgeMark := false };
     ∃ i : Fin 4, w[i].armed = true ∧ watched.cfg.watch[i].action = .audit) ∧
    (let s := { watched with
       cfg := { watched.cfg with watch := watched.cfg.watch.set 0 { filmCounter with source := .cureMargin } }
       watch := watched.watch.set 0 { count := 0xFFFF, flag := false, armed := false, edgeMark := false } };
     ∃ i : Fin 4, (s.report .cureMargin 0).watch[i].armed = true ∧ s.cfg.watch[i].action = .audit) ∧
    (CellCfg.downstream { cfg with downstream := 0 }) = 0 := by decide +kernel

theorem witness_ProbeReadTaken :
    (let s := polling (some 5) 3;
     s.loaded = true ∧ s.tunnel.poll = some { zone := .a, timer := 9 } ∧ s.tunnel.probeRequest = 2 ∧
      (s.tunnel.zones.get .a).value = some 5 ∧ ¬ (s.tunnel.zones.get .a).miss < 3) ∧
    ((polling (some 5) 2).tunnel.zones.get .a).miss < 3 ∧ ((polling none 0).tunnel.zones.get .a).value = none ∧
    ((-500 : Int) ≤ -500 ∧ (3000 : Int) ≤ 3000) ∧ live.tunnel.poll = none ∧ (Zone.a ≠ .b) ∧ 1 ≠ (polling none 0).tunnel.probeRequest := by
  decide

theorem witness_DiversionStartsAndCompletes :
    (let s := withHolds [entry 0 .held] (diverted .waitingRack);
     s.loaded = true ∧ s.table.exit = some { Record.strandedRecord with diversion := some .waitingRack } ∧ s.tracker.hold = false ∧
      (∀ e ∈ s.holds.list, e.rack ≠ 1) ∧ ∀ j : Fin 8, j < 1 → ∃ e ∈ s.holds.list, e.rack = j) ∧
    (∀ k : Fin 8, ∃ e ∈ ((List.finRange 8).map fun k => entry k .held), e.rack = k) ∧ held.tracker.hold = true ∧
    (let s := lev .exit false (rackLev 2 false (diverted (.diverting 2)));
     s.tracking = true ∧ s.table.exit = some { Record.strandedRecord with diversion := some (.diverting 2) } ∧
      s.inputs.rack[(2 : Fin 8)].level = some false ∧ s.sensorEmpty .exit = true ∧ s.cfg.terminal ≠ 0 ∧ s.link.out.length < 8 ∧
      (∀ i : Fin 4, s.cfg.watch[i].source ≠ .holdPlaced) ∧ Record.strandedRecord.recipe = none) ∧
    (let s := lev .exit true (rackLev 2 true (diverted (.diverting 2)));
     s.tracking = true ∧ s.inputs.rack[(2 : Fin 8)].level = some true ∧ s.occupied .exit = true ∧ s.tunnel.phase ≠ .indexing) := by decide

/-- A diversion that completes with one entry held: the count of 2 crosses the near-full threshold. -/
theorem witness_DiversionStartsAndCompletes_near_full :
    let s := withHolds [entry 0 .held] (lev .exit false (rackLev 2 false (diverted (.diverting 2))))
    s.mask.cand ≠ some .exit ∧ s.cfg.nearFull ≤ (s.holds.list ++ [entry 2 .held]).length ∧ s.holds.nearFull = false ∧
      s.tracking = true ∧ s.inputs.rack[(2 : Fin 8)].level = some false ∧ s.sensorEmpty .exit = true := by decide

/-- Edges of EXIT that leave the diversion: in WAITING_RACK, at an occupied edge, and with the target's rack sensor empty. -/
theorem witness_DiversionStartsAndCompletes_exit_edges :
    (∀ b ∈ [true, false], let s := lev .exit (!b) (diverted .waitingRack);
     s.tracking = true ∧ (s.inputs.pos.get .exit).level = some (!b) ∧ (s.table.exit.bind (·.diversion)) = some .waitingRack) ∧
    (let s := lev .exit true (rackLev 2 false (diverted (.diverting 2)));
     s.tracking = true ∧ (s.inputs.pos.get .exit).level = some (!false) ∧ s.inputs.rack[(2 : Fin 8)].level ≠ some true ∧
      (s.table.exit.bind (·.diversion)) = some (.diverting 2) ∧ (after (.emptyEdge .exit) s).table.exit = s.table.exit) := by decide

/-- The diverted board bound to a RETIRING recipe that no other board has. -/
def lastOfRecipe : State :=
  let s := at_ .exit { Record.strandedRecord with diversion := some (.diverting 2), recipe := some 3 } live
  { s with store := { s.store with records := s.store.records.set 3 (.retiring recipe) } }

theorem witness_DiversionStartsAndCompletes_retiring :
    lastOfRecipe.store.records[(3 : Fin 12)] = .retiring recipe ∧
    (lastOfRecipe.table.exit.bind (·.recipe)) = some 3 ∧
    ∀ p q, p ≠ .exit → lastOfRecipe.table.get p = some q → q.recipe ≠ some 3 := by
  refine ⟨by decide, by decide, ?_⟩
  intro p q hp h
  cases p <;> first | exact absurd rfl hp | cases h

theorem witness_RackEdgesTaken :
    (let s := rackLev 2 true (withHolds [entry 2 .held] live);
     s.tracking = true ∧ s.inputs.rack[(2 : Fin 8)].level = some (!false) ∧ s.target ≠ some 2 ∧ s.holds.list = [] ++ entry 2 .held :: [] ∧
      (entry 2 .held).rack = 2 ∧ ¬ s.cfg.nearFull ≤ 0) ∧ (entry 2 .releasedScrap).state ≠ .held ∧
    -- near-full at 2 entries: the second entry crosses it, and the first does not
    (let s := rackLev 2 false (withHolds [entry 0 .held] live);
     s.inputs.rack[(2 : Fin 8)].level = some (!true) ∧ (∀ e ∈ s.holds.list, e.rack ≠ 2) ∧ s.cfg.nearFull ≤ 2 ∧ s.holds.nearFull = false) ∧
    (let s := rackLev 2 false live; (∀ e ∈ s.holds.list, e.rack ≠ 2) ∧ 1 < s.cfg.nearFull ∧ s.holds.list = []) ∧
    (let s := rackLev 2 false (diverted (.diverting 2)); s.target = some 2 ∧ (lev .exit true s).sensorEmpty .exit = false) ∧
    ∃ e ∈ (withHolds [entry 2 .held] live).holds.list, e.rack = 2 := by decide

theorem witness_ReleaseAnswered :
    (let p : List Byte := [2, 0, 0, 0, 2, 2];
     p.length = 6 ∧ byteAt p 0 = 2 ∧ (wordAt p 1).toNat ≤ 7 ∧ byteAt p 5 = 2 ∧ (entry 2 .held).rack.val = (wordAt p 1).toNat ∧
      (entry 0 .held).rack.val ≠ (wordAt p 1).toNat) ∧
    (let p : List Byte := [1, 0, 0, 0, 2, 1];
     p.length = 6 ∧ byteAt p 0 = 1 ∧ byteAt p 5 = 1 ∧ (entry 2 .held).serial = some (wordAt p 1)) ∧
    (let p : List Byte := [2, 0, 0, 0, 8, 1]; p.length = 6 ∧ byteAt p 0 ≠ 1 ∧ ¬ (wordAt p 1).toNat ≤ 7) ∧ ([] : List Byte).length < 5 ∧
    (withHolds [entry 0 .held, entry 2 .held] live).holds.list = [entry 0 .held] ++ entry 2 .held :: [] ∧
    (withHolds [entry 2 .releasedRework] live).holds.list = [] ++ entry 2 .releasedRework :: [] ∧
    (head 31 kindRelease [2, 0, 0, 0, 2, 2] live).link.inbound =
      [{ dst := 5, src := 31, kind := kindRelease, payload := [2, 0, 0, 0, 2, 2] }] := by decide

/-- A state with the filter of id 1 stored in slot 4. -/
def filtered : State := { live with holds := { live.holds with filters := live.holds.filters.set 4 (some filter1) } }

theorem witness_LotFilterMatches :
    filter1.lotMask = 0xFFFF ∧ filter1.variantMask = 0 ∧ filter1.hits 7 9 = true ∧ filtered.holds.filters[(4 : Fin 8)] = some filter1 ∧
      filter1.hits (rec 1).trav.variant (rec 1).trav.lot = true ∧ (∀ k : Fin 8, live.holds.filters[k] = none) := by decide

theorem witness_LotFiltersStoredAndApplied :
    (let p : List Byte := [1, 0, 7, 0, 0, 0, 0, 0xFF, 0xFF];
     p.length = 9 ∧ byteAt p 0 ≠ 0 ∧
      ((filtered.holds.filters[(4 : Fin 8)].map (·.id)) = some (byteAt p 0) ∧
        ∀ j : Fin 8, j < 4 → (filtered.holds.filters[j].map (·.id)) ≠ some (byteAt p 0)) ∧
      ((∀ j : Fin 8, (live.holds.filters[j].map (·.id)) ≠ some (byteAt p 0)) ∧ live.holds.filters[(0 : Fin 8)] = none) ∧
      (∀ k : Fin 8, (Vector.replicate 8 (some filter1))[k] ≠ none ∧ (((Vector.replicate 8 (some filter1))[k]).map (·.id)) ≠ some 2) ∧
      (head 31 kindLotHold p live).link.inbound = [{ dst := 5, src := 31, kind := kindLotHold, payload := p }]) ∧
    ((waiting interval live).table.spray.map fun r => (r.spray, filter1.hits r.trav.variant r.trav.lot)) = some (.waitingSupply, true) ∧
    ((offeredState (.offered 9 .posting)).table.exit.map fun r => (r.handoff, filter1.hits r.trav.variant r.trav.lot)) =
      some (some (.offered 9 .posting), true) ∧
    filter1.hits (Record.strandedRecord.trav.variant) (Record.strandedRecord.trav.lot) = false ∧
    ((granted .board (waiting interval live)).supply.holder = some .board ∧ (granted .board (waiting interval live)).supply.own = .granted) ∧
    ([] : List Byte).length ≠ 9 ∧ ([1] : List Byte).length = 1 ∧ byteAt [0] 0 = 0 ∧ filter1.id = byteAt [1] 0 := by decide

theorem witness_EventsCountedAndCleared :
    (watched.cfg.watch[(0 : Fin 4)].source = .filmMargin ∧ watched.cfg.watch[(0 : Fin 4)].compare = .below ∧
      (4 : Int) < watched.cfg.watch[(0 : Fin 4)].threshold ∧ watched.watch[(0 : Fin 4)].edgeMark = false ∧
      watched.watch[(0 : Fin 4)].count ≠ 0xFFFF ∧ watched.cfg.watch[(1 : Fin 4)].source ≠ .filmMargin ∧
      (∀ i : Fin 4, watched.cfg.watch[i].source = .filmMargin → watched.cfg.watch[i].action ≠ .purge) ∧
      ∀ i : Fin 4, watched.cfg.watch[i].source = .filmMargin → watched.cfg.watch[i].action ≠ .notice) ∧
    -- the three overflows: one armed before, a NOTICE and a PURGE counter
    (∀ a ∈ [WatchAction.notice, .purge], WatchCfg.action { filmCounter with action := a } = a) ∧
    (WatchCounter.count { count := 0xFFFF, flag := false, armed := false, edgeMark := false }) = 0xFFFF ∧
    ([1] : List Byte).length = 1 ∧ (byteAt [1] 0).toNat < 16 ∧ 16 ≤ (byteAt [16] 0).toNat ∧
    (head 31 kindWatchClear [1] watched).link.inbound = [{ dst := 5, src := 31, kind := kindWatchClear, payload := [1] }] := by decide

/-- A NOTICE counter of margins below 5 that stands at its last count. -/
def lastCount : State := { watched with
  cfg := { watched.cfg with watch := watched.cfg.watch.set 0 { filmCounter with action := .notice } }
  watch := watched.watch.set 0 { count := 0xFFFF, flag := false, armed := false, edgeMark := false } }

theorem witness_EventsCountedAndCleared_notice :
    lastCount.cfg.watch[(0 : Fin 4)].source = .filmMargin ∧ lastCount.cfg.watch[(0 : Fin 4)].action = .notice ∧
      lastCount.cfg.watch[(0 : Fin 4)].compare = .below ∧ lastCount.watch[(0 : Fin 4)].edgeMark = false ∧
      (4 : Int) < lastCount.cfg.watch[(0 : Fin 4)].threshold ∧ lastCount.watch[(0 : Fin 4)].armed = false ∧
      lastCount.watch[(0 : Fin 4)].count = 0xFFFF ∧ lastCount.cfg.terminal ≠ 0 ∧
      ((lastCount.report .filmMargin 4).link.out.map fun e => e.tg.payload) = [[7, 0, 3, 255, 253, 1, 0, 0, 0, 0]] := by decide

theorem witness_PostedAndHeldTelegrams :
    (queued kindNotice).cls = 2 ∧ (queued kindOffer).cls ≠ 2 ∧
    (let l : Link := { live.link with out := List.replicate 8 (queued kindNotice) };
     8 ≤ l.out.length ∧ l.out ≠ [] ∧ l.waitingOut = List.replicate 7 (queued kindNotice) ++ queued kindNotice :: []) ∧
    -- a held OFFER of a full queue, with a place that was freed for it and without
    (∀ owed ∈ [true, false], (fullQueue owed).loaded = true ∧ 8 ≤ (fullQueue owed).link.out.length ∧
      (fullQueue owed).link.owed = owed ∧ (fullQueue owed).cell ≠ .stopped ∧
      (fullQueue owed).link.held = [] ++ queued kindOffer :: [] ∧ ∃ x ∈ (fullQueue owed).link.waitingOut, x.cls = 2) ∧
    (let l : Link := { live.link with out := List.replicate 8 (queued kindAccept) };
     8 ≤ l.out.length ∧ ∀ x ∈ l.waitingOut, x.cls ≠ 2) ∧ live.link.out.length < 8 ∧
    (heldOffer .run).loaded = true ∧ (heldOffer .run).link.out.length < 8 ∧
    (heldOffer .run).link.held = [] ++ queued kindOffer :: [] ∧ (heldOffer .run).cell ≠ .stopped ∧
    (heldOffer .stopped).cell = .stopped ∧ (queued kindOffer).tg.kind = kindOffer := by decide

/-- An ACCEPT and a SUPPLY_DONE held at the end of a send, and at a withdrawal of a claim that waits: the one of class 0 goes first. -/
theorem witness_PostedAndHeldTelegrams_freed_place :
    let l : Link := { live.link with
      line := .sending, out := [queued kindNotice, queued kindSupplyClaim], held := [queued kindAccept, queued kindSupplyDone] }
    l.out.length ≤ 8 ∧ l.held = [queued kindAccept] ++ queued kindSupplyDone :: [] ∧
      (queued kindSupplyDone).cls < (queued kindAccept).cls ∧
      (l.sent false).held = [queued kindAccept] ∧ (l.sent false).out = [queued kindSupplyClaim, queued kindSupplyDone] ∧
      (l.withdraw false fun e => e.tg.kind == kindSupplyClaim).held = [queued kindAccept] ∧
      (∃ x ∈ l.out.drop 1, (x.tg.kind == kindSupplyClaim) = true) := by decide

/-- A cell in the acceptance slot of another station's telegram. -/
def inSlot (good : Option Telegram) (driven : Bool) : State := { live with link := { live.link with line := .slot good driven } }

theorem witness_LineEventsAndTelegrams :
    live.link.line = .busy ∧ (idle4 false).link.line = .idle ∧ (idle4 false).link.access = some 0 ∧
    ((idle4 false).link.out.map fun e => (e.cls, e.tg.kind)) = [(1, kindDecline)] ∧ (idle4 false).cfg.station = 4 ∧
    (let s := sending kindNotice [] live;
     s.loaded = true ∧ s.link.line = .sending ∧ s.link.withdrawAsked = false ∧ s.link.held = [] ∧
      (s.link.out.map fun e => e.tg.kind) = [kindNotice] ∧ kindNotice ∉ [kindOffer, kindReceived, kindSupplyClaim, kindSupplyDone]) ∧
    (Link.withdrawAsked { (sending kindOffer [] live).link with withdrawAsked := true }) = true ∧ ([] : List OutEntry).length < 8 ∧
    (query.payload.length ≤ 64 ∧ query.dst = live.cfg.station ∧ query.src ≠ 0 ∧
      query.src ≠ live.cfg.station ∧ query.src.toNat ≤ 31 ∧ query.kind ∈ kindTable ∧ query.kind ≠ kindSupplyClaim ∧
      query.kind ≠ kindSupplyDone ∧ live.link.inbound.length < 8 ∧ live.link.inbound.head? = none) ∧
    -- the bytes of that telegram received, with sound stop bits and not
    (∀ f ∈ [true, false], let body := query.dst :: query.src :: query.kind :: byteOf query.payload.length :: query.payload
      (receiving (0x5A :: (body ++ be16 (crc16 body))) f).loaded = true ∧
        (receiving (0x5A :: (body ++ be16 (crc16 body))) f).link.line = .receiving (0x5A :: (body ++ be16 (crc16 body))) f) ∧
    -- the slot of a good telegram, driven and not, and of a faulty one; and bytes that make no whole telegram
    (∀ d ∈ [true, false], (inSlot (some query) d).loaded = true ∧ (inSlot (some query) d).link.line = .slot (some query) d ∧
      (inSlot none d).link.line = .slot none d) ∧
    ([] : List Byte).length < 7 ∧ byteAt [0x5B, 0, 0, 0, 0, 0, 0, 0] 0 ≠ 0x5A ∧ 64 < (byteAt [0x5A, 0, 0, 0, 65, 0, 0, 0] 4).toNat ∧
    (kindSupplyClaim ∈ kindTable ∧ kindSupplyDone ∈ kindTable ∧ (99 : Byte) ≠ live.cfg.station ∧ (99 : Byte) ≠ 0) ∧
    8 ≤ (Link.inbound { live.link with inbound := List.replicate 8 query }).length ∧ ownerless query.kind = false := by decide +kernel

/-- A head with a NOTICE of another station behind it. -/
theorem witness_LineEventsAndTelegrams_head :
    let l : Link := { live.link with inbound := [query, { query with kind := kindNotice }, query] }
    l.inbound = query :: [{ query with kind := kindNotice }, query] ∧ l.popInbound.inbound = [query] := by decide

theorem witness_StatusAnswered :
    (let s := head 31 kindStatusQuery [0] live;
     s.loaded = true ∧ s.link.inbound = [{ dst := 5, src := 31, kind := kindStatusQuery, payload := [0] }] ∧ s.link.out.length < 8) ∧
    8 ≤ (Link.out { live.link with out := List.replicate 8 (queued kindAccept) }).length ∧ 2 ≤ (byteAt [2] 0).toNat ∧
    zoneIndex .a < live.cfg.zoneCount ∧ live.cfg.zoneCount ≤ zoneIndex .c ∧ ((polling (some 5) 0).tunnel.zones.get .a).value = some 5 ∧
    (withRecipe live).store.slots[(0 : Fin 8)].active = some 3 ∧ (withRecipe live).store.records[(3 : Fin 12)] = .active recipe ∧
    (stagedOver live).store.slots[(0 : Fin 8)].staged = some 3 ∧ (stagedOver live).store.records[(3 : Fin 12)] = .staged recipe ∧
    (assembling 3).store.assembler = .assembling 2 3 [1] ∧
    claimWaiting.supply.view = [{ station := 6, serial := none, remaining := 9 }] ++ [{ station := 5, serial := some 1, remaining := 9 }] ∧
    claimWaiting.cfg.station = 5 ∧ live.supply.view = [] := by decide

theorem witness_GuardTakesAndEndsHold :
    (live.loaded = true ∧ live.sprayIs .spraying = false) ∧
    (State.reset.inputs.guard.level = none ∧ ({ live with inputs := .reset } : State).inputs.guard.level = none) ∧
    (let s := passing .armed 5;
     s.loaded = true ∧ (s.table.spray.map (·.spray)) = some .spraying ∧ s.sprayIs .spraying = true ∧ s.supply.holder = some .board ∧
      s.spray.purge = .none ∧ s.supply.own = .granted) ∧
    (purging.spray.purge = .purging ∧ purging.sprayIs .spraying = false ∧ purging.supply.holder = some .purge ∧
      purging.supply.own = .granted) ∧
    (held.loaded = true ∧ held.tracker.hold = true ∧ held.tracker.settle = some 1 ∧ held.link.held = [] ∧
      ((at_ .exit { rec 1 with handoff := some (.offered 9 .due) } held).table.exit.bind (·.handoff)) = some (.offered 9 .due)) ∧
    -- an OFFER held through STOPPED, in a full queue with a place that was freed for it
    (let s : State := { held with link := (fullQueue true).link };
     s.link.held = [] ++ queued kindOffer :: [] ∧ s.link.owed = true ∧ ∃ x ∈ s.link.waitingOut, x.cls = 2) ∧
    live.tracker.hold = false ∧ live.inputs.guard.level ≠ none ∧ live.tracker.settle = none := by decide

/-- A pass with films on record at the guard opening, and the claim of the board or of the purge in each of its states. -/
theorem witness_GuardTakesAndEndsHold_claims :
    (let s := passing (.closed 100 0) 69;
     (s.table.spray.bind fun r => r.bound s.store) = some recipe ∧ s.spray.schedule = some [{ interval with progress := .closed 100 0 }] ∧
      extremes (filmsOf s.cfg.swath [{ interval with progress := .closed 100 0 }]) = some (40, 40)) ∧
    ∀ own ∈ [OwnClaim.queued, .sending, .refusedWait, .ending, .none, .waiting, .granted], ∀ read ∈ [true, false],
      (let s := waiting interval live
       let w : State := { s with supply := { s.supply with own := own, holder := some .board, doneRead := read } };
       w.sprayIs .waitingSupply = true ∧ w.supply.holder = some .board ∧ w.spray.purge = .none ∧ w.supply.own = own ∧
        w.supply.doneRead = read) ∧
      (let w : State := { purging with supply := { purging.supply with own := own, doneRead := read } };
       w.sprayIs .spraying = false ∧ w.supply.holder = some .purge ∧ w.spray.purge = .purging ∧ w.supply.own = own) := by decide

theorem witness_invariants :
    live.serialLaw ∧ live.queueLaw ∧ live.supplyLaw ∧ live.sprayLaw ∧ live.exitLaw ∧ live.storeLaw ∧ ∃ t, step live = .next t := by
  refine ⟨by unfold State.serialLaw; decide, ⟨by decide, by decide, by decide, by decide, by decide, fun t h => Line.noConfusion h⟩, ⟨by decide, by decide, by decide⟩,
    ⟨?_, by decide, by decide, by decide⟩, ⟨(fun h => by cases h), ⟨?_, ?_⟩, ?_, ?_⟩,
    ⟨?_, ?_, ?_, ?_, ?_⟩, ⟨_, rfl⟩⟩
  · intro p r h _; cases p <;> cases h
  · intro p r _ h; cases p <;> cases h
  · intro p h; cases h
  · exact ⟨by decide, (fun t h => by cases h)⟩
  · intro r n w h; cases h
  · decide
  · decide
  · decide
  · decide
  · intro p r i h; cases p <;> cases h

end Sys2Proof.Tests
end

section

namespace Sys2Proof.Machine

/-! ## What a record keeps -/

/-- What every judgement of a record leaves: its identity, its handoff state and its diversion state. -/
def Record.badge (r : Record) : (Option Serial × Half × Half × Side) × Option Handoff × Option Diversion :=
  (r.identity, r.handoff, r.diversion)

theorem Record.serial_of_badge {r q : Record} (h : q.badge = r.badge) : q.trav.serial = r.trav.serial :=
  congrArg (fun b => b.1.1) h

theorem Record.handoff_of_badge {r q : Record} (h : q.badge = r.badge) : q.handoff = r.handoff := congrArg (fun b => b.2.1) h

theorem Record.diversion_of_badge {r q : Record} (h : q.badge = r.badge) : q.diversion = r.diversion :=
  congrArg (fun b => b.2.2) h

section badge
variable (r : Record)

@[simp] theorem Record.badge_addReason (x : Reason) : (r.addReason x).badge = r.badge := rfl

@[simp] theorem Record.badge_addReasonIf (c : Bool) (x : Reason) : (r.addReasonIf c x).badge = r.badge := by
  cases c <;> rfl

@[simp] theorem Record.badge_withVerdicts (vs : List Verdict) : (r.withVerdicts vs).badge = r.badge := by
  simp [Record.withVerdicts]; rfl

@[simp] theorem Record.badge_withFilm (rc : Recipe) (e : Nat × Nat) : (r.withFilm rc e).badge = r.badge := by
  simp [Record.withFilm]; rfl

@[simp] theorem Record.badge_withCoat (b : Byte) (rc : Recipe) : (r.withCoat b rc).badge = r.badge := rfl

@[simp] theorem Record.badge_flashTick : r.flashTick.badge = r.badge := by
  unfold Record.flashTick; split <;> rfl

@[simp] theorem LotFilter.badge_mark (f : LotFilter) : (f.mark r).badge = r.badge := by simp [LotFilter.mark]

@[simp] theorem Record.badge_bind (found : Option (Fin 12 × Recipe)) : (r.bind found).badge = r.badge := by
  cases found <;> rfl

variable (s : State)

@[simp] theorem State.badge_bindRecord : (s.bindRecord r).badge = r.badge := by
  unfold State.bindRecord; split <;> simp

@[simp] theorem State.badge_closeCut (l : Option Half) : (s.closeCut r l).badge = r.badge := by
  simp [State.closeCut]; rfl

@[simp] theorem State.badge_closeTrailing (l : Nat) : (s.closeTrailing r l).badge = r.badge := by
  simp [State.closeTrailing]; rfl

@[simp] theorem State.badge_closeAtSpray : (s.closeAtSpray r).badge = r.badge := by
  unfold State.closeAtSpray; split <;> simp

@[simp] theorem State.badge_potTest (p : Position) : (s.potTest p r).badge = r.badge := by simp [State.potTest]

@[simp] theorem State.badge_cureRecord (p : Position) : (s.cureRecord p r).badge = r.badge := by
  unfold State.cureRecord
  split
  · simp; rfl
  · rfl

end badge

/-! ## Calm events: no record is made, moved, offered or diverted -/

/-- What a record may become in a calm event: it keeps its serial and diversion state, gains no handoff state, and where `exit`
holds it is OFFERED only if it was so before, and is as clean as it was. -/
structure Record.Becomes (exit : Prop) (r q : Record) : Prop where
  serial : q.trav.serial = r.trav.serial
  handoff : r.handoff = none → q.handoff = none
  diversion : q.diversion = r.diversion
  offered : exit → ∀ n w, q.handoff = some (.offered n w) →
    (∃ m v, r.handoff = some (.offered m v)) ∧ (r.clean = true → q.clean = true)

theorem Record.Becomes.refl (e : Prop) (r : Record) : r.Becomes e r :=
  ⟨rfl, id, rfl, fun _ n w h => ⟨⟨n, w, h⟩, id⟩⟩

theorem Record.Becomes.trans {e f : Prop} (hef : e → f) {a b c : Record} (h : a.Becomes e b) (k : b.Becomes f c) :
    a.Becomes e c where
  serial := k.serial.trans h.serial
  handoff x := k.handoff (h.handoff x)
  diversion := k.diversion.trans h.diversion
  offered he n w x := by
    obtain ⟨⟨m, v, hb⟩, hc⟩ := k.offered (hef he) n w x
    obtain ⟨ha, hb'⟩ := h.offered he m v hb
    exact ⟨ha, hc ∘ hb'⟩

/-- A record keeps its badge, and at EXIT its reasons as long as it is OFFERED. -/
theorem Record.Becomes.of_badge {e : Prop} {r q : Record} (h : q.badge = r.badge)
    (hc : e → ∀ n w, r.handoff = some (.offered n w) → q.trav.reasons = r.trav.reasons) : r.Becomes e q := by
  have hh := Record.handoff_of_badge h
  refine ⟨Record.serial_of_badge h, fun x => hh.trans x, Record.diversion_of_badge h, fun he n w x => ?_⟩
  have hr := hh ▸ x
  exact ⟨⟨n, w, hr⟩, fun hcl => by simpa only [Record.clean, hc he n w hr] using hcl⟩

theorem Record.Becomes.of_inside {e : Prop} {r q : Record} (he : ¬ e) (h : q.badge = r.badge) : r.Becomes e q :=
  .of_badge h fun x => absurd x he

/-- The candidate stands at ENTRY or TRANSPORT (R68). -/
def State.candLaw (s : State) : Prop := ∀ p, s.mask.cand = some p → p = .entry ∨ p = .transport

/-- A calm event: each record that stands after it stood at the same place before, no entry is added to the arrival list or the
hold list, a new candidate stands at ENTRY or TRANSPORT, and START is entered only with EXIT empty and no index under way. -/
structure Calm (s t : State) : Prop where
  table : ∀ p q, t.table.get p = some q → ∃ r, s.table.get p = some r ∧ r.Becomes (s.candLaw ∧ p = .exit) q
  arrivals : t.arrivalSerials.Sublist s.arrivalSerials
  holds : (t.holds.list.map fun e => (e.rack, e.serial)).Sublist (s.holds.list.map fun e => (e.rack, e.serial))
  cand : ∀ p, t.mask.cand = some p → s.mask.cand = some p ∨ p = .entry ∨ p = .transport
  cell : t.cell = .start → s.cell = .start ∨ t.table.exit = none
  phase : t.cell = .start → t.tunnel.phase = .indexing → s.cell = .start ∧ s.tunnel.phase = .indexing

theorem Calm.refl (s : State) : Calm s s :=
  ⟨fun _ q h => ⟨q, h, .refl _ q⟩, .refl _, .refl _, fun _ h => .inl h, fun h => .inl h, fun h k => ⟨h, k⟩⟩

/-- Where nothing stood, nothing stands after a calm event. -/
theorem Calm.free {s t : State} (h : Calm s t) {p : Position} (hp : s.table.get p = none) : t.table.get p = none := by
  cases ht : t.table.get p with
  | none => rfl
  | some q => obtain ⟨r, hr, -⟩ := h.table p q ht; simp [hp] at hr

theorem Calm.candLaw {s t : State} (h : Calm s t) (hs : s.candLaw) : t.candLaw := fun p hp =>
  (h.cand p hp).elim (hs p) id

theorem Calm.trans {s t u : State} (h : Calm s t) (k : Calm t u) : Calm s u where
  table p q hq := by
    obtain ⟨r, hr, hrq⟩ := k.table p q hq
    obtain ⟨o, ho, hor⟩ := h.table p r hr
    exact ⟨o, ho, hor.trans (fun e => ⟨h.candLaw e.1, e.2⟩) hrq⟩
  arrivals := k.arrivals.trans h.arrivals
  holds := k.holds.trans h.holds
  cand p hp := by
    rcases k.cand p hp with hc | hc
    · exact h.cand p hc
    · exact .inr hc
  cell hu := by
    rcases k.cell hu with ht | ht
    · rcases h.cell ht with hs | hs
      · exact .inl hs
      · exact .inr (k.free (p := .exit) hs)
    · exact .inr ht
  phase hu hp := by
    obtain ⟨hc, hq⟩ := k.phase hu hp
    exact h.phase hc hq

/-! ## Ways to be calm -/

/-- What of the state, besides its table, the board laws speak of. -/
def State.beside (s : State) : List ArrivalEntry × List HoldEntry × Option Position × CellState × Phase :=
  (s.tracker.arrivals, s.holds.list, s.mask.cand, s.cell, s.tunnel.phase)

theorem State.beside_eq {s t : State} : t.beside = s.beside ↔ t.tracker.arrivals = s.tracker.arrivals ∧
    t.holds.list = s.holds.list ∧ t.mask.cand = s.mask.cand ∧ t.cell = s.cell ∧ t.tunnel.phase = s.tunnel.phase := by
  simp [State.beside]

/-- An event that touches the table alone is calm where each record that stands after it is one that stood there. -/
theorem Calm.of_beside {s t : State} (h : t.beside = s.beside)
    (ht : ∀ p q, t.table.get p = some q → ∃ r, s.table.get p = some r ∧ r.Becomes (s.candLaw ∧ p = .exit) q) : Calm s t := by
  obtain ⟨ha, hh, hm, hc, hp⟩ := State.beside_eq.1 h
  refine ⟨ht, ?_, ?_, fun p e => .inl (hm ▸ e), fun e => .inl (hc ▸ e), fun e f => ⟨hc ▸ e, hp ▸ f⟩⟩
  · rw [State.arrivalSerials, State.arrivalSerials, ha]
  · rw [hh]

/-- An event that touches neither the table nor what stands beside it is calm. -/
theorem Calm.of_same {s t : State} (ht : t.table = s.table) (h : t.beside = s.beside) : Calm s t :=
  .of_beside h fun _ q e => ⟨q, ht ▸ e, .refl _ q⟩

/-- An event that touches the cell state or the tunnel's phase is calm where it brings neither START nor an index in START. -/
theorem Calm.of_cell {s t : State} (ht : t.table = s.table) (ha : t.tracker.arrivals = s.tracker.arrivals)
    (hh : t.holds = s.holds) (hm : t.mask = s.mask) (hc : t.cell = .start → s.cell = .start)
    (hp : t.cell = .start → t.tunnel.phase = .indexing → s.tunnel.phase = .indexing) : Calm s t where
  table _ q e := ⟨q, ht ▸ e, .refl _ q⟩
  arrivals := by rw [State.arrivalSerials, State.arrivalSerials, ha]
  holds := by rw [hh]
  cand p e := .inl (hm ▸ e)
  cell e := .inl (hc e)
  phase e f := ⟨hc e, hp e f⟩

/-- An event that changes the record at one place alone. -/
theorem Calm.of_put {s t : State} {p : Position} {o : Option Record} (ht : t.table = s.table.put p o) (h : t.beside = s.beside)
    (ho : ∀ q, o = some q → ∃ r, s.table.get p = some r ∧ r.Becomes (s.candLaw ∧ p = .exit) q) : Calm s t := by
  refine .of_beside h fun a q e => ?_
  rw [ht, PerPos.get_put] at e
  split at e
  · next hap => subst hap; exact ho q e
  · exact ⟨q, e, .refl _ q⟩

/-- Every record changed by a function that keeps its badge, and at EXIT its reasons. -/
theorem Calm.of_mapRecords {s : State} {f : Position → Record → Record} (hb : ∀ p r, (f p r).badge = r.badge)
    (he : ∀ r, (f .exit r).trav.reasons = r.trav.reasons) : Calm s (s.mapRecords f) := by
  refine .of_beside rfl fun p q e => ?_
  simp only [State.mapRecords, PerPos.get_mapPos, Option.map_eq_some_iff] at e
  obtain ⟨r, hr, rfl⟩ := e
  exact ⟨r, hr, .of_badge (hb p r) fun ⟨_, hp⟩ _ _ _ => by rw [hp, he]⟩

/-- The record at SPRAY changed by a function that keeps its badge. -/
theorem Calm.of_spray {s t : State} {f : Record → Record} (ht : t.table = { s.table with spray := s.table.spray.map f })
    (h : t.beside = s.beside) (hf : ∀ r, (f r).badge = r.badge) : Calm s t := by
  refine .of_put (p := .spray) (o := s.table.spray.map f) ht h fun q hq => ?_
  obtain ⟨r, hr, rfl⟩ := Option.map_eq_some_iff.1 hq
  exact ⟨r, hr, .of_inside (by simp) (hf r)⟩

/-- The record at SPRAY replaced by one with its badge. -/
theorem Calm.of_putSpray {s t : State} {r q : Record} (hr : s.table.spray = some r) (ht : t.table = s.table.put .spray (some q))
    (h : t.beside = s.beside) (hq : q.badge = r.badge) : Calm s t :=
  .of_put ht h fun x hx => ⟨r, hr, by cases hx; exact .of_inside (by simp) hq⟩

/-- The candidate's record replaced by one with its badge: the candidate is not at EXIT. -/
theorem Calm.of_candidate {s t : State} {r q : Record} (hr : s.candidate = some r) (ht : t.table = (s.setCandidate q).table)
    (h : t.beside = s.beside) (hq : q.badge = r.badge) : Calm s t := by
  obtain ⟨p, hp, hrp⟩ := Option.bind_eq_some_iff.1 hr
  refine .of_put (p := p) (o := some q) (by rw [ht, State.setCandidate, hp]; rfl) h fun x hx => ⟨r, hrp, ?_⟩
  cases hx
  refine .of_inside ?_ hq
  rintro ⟨hl, rfl⟩
  simpa using hl _ hp

/-- Another handoff state for a record at EXIT that has one: OFFERED only where the record was OFFERED. -/
theorem Calm.of_setHandoff {s : State} {old : Handoff} {h : Option Handoff} (hs : s.exitHandoff = some old)
    (hh : ∀ n w, h = some (.offered n w) → ∃ m v, old = .offered m v) : Calm s (s.setHandoff h) := by
  refine .of_put (p := .exit) (o := s.table.exit.map fun r => { r with handoff := h }) rfl rfl fun q hq => ?_
  obtain ⟨r, hr, rfl⟩ := Option.map_eq_some_iff.1 hq
  have ho : r.handoff = some old := by simpa [State.exitHandoff, hr] using hs
  refine ⟨r, hr, rfl, fun e => by simp [ho] at e, rfl, fun _ n w e => ⟨?_, id⟩⟩
  obtain ⟨m, v, rfl⟩ := hh n w e
  exact ⟨m, v, ho⟩

end Sys2Proof.Machine

end

section

namespace Sys2Proof.Machine

section
variable (s : State)

/-! ## Records that leave -/

/-- The mask checker loses its candidate. -/
theorem State.calm_dropMask : Calm s { s with mask := s.mask.drop } where
  table _ q e := ⟨q, e, .refl _ q⟩
  arrivals := .refl _
  holds := .refl _
  cand p e := by cases e
  cell e := .inl e
  phase e f := ⟨e, f⟩

theorem State.calm_leave (p : Position) : Calm s (s.leave p) := by
  unfold State.leave
  split
  · exact .refl s
  next r _ =>
    dsimp only
    have h1 : Calm s ({ s with table := s.table.put p none }.handBack r.recipe) :=
      .of_put (p := p) (o := none) (by simp) (by simp [State.beside]) (by simp)
    have h2 : ∀ u : State, Calm s u → Calm s (if u.mask.cand = some p then { u with mask := u.mask.drop } else u) := by
      intro u hu
      split
      · exact hu.trans u.calm_dropMask
      · exact hu
    split
    · exact (h2 _ h1).trans (.of_same (by simp) (by simp [State.beside]))
    · exact h2 _ h1

theorem State.calm_withdrawKind (kind : Byte) : Calm s (s.withdrawKind kind) := .of_same (by simp) (by simp [State.beside])

theorem State.calm_post (dst kind : Byte) (payload : List Byte) : Calm s (s.post dst kind payload) :=
  .of_same (by simp) (by simp [State.beside])

theorem State.calm_notice (code : Byte) (body : List Byte) : Calm s (s.notice code body) :=
  .of_same (by simp) (by simp [State.beside])

theorem State.calm_report (src : Source) (margin : Int) : Calm s (s.report src margin) :=
  .of_same (by simp) (by simp [State.beside])

theorem State.calm_removeLifted (p : Position) : Calm s (s.removeLifted p) := by
  unfold State.removeLifted
  split
  · exact .refl s
  next r _ =>
    dsimp only
    refine Calm.trans ?_ (State.calm_notice _ _ _)
    split
    · exact (s.calm_leave p).trans (State.calm_withdrawKind _ _)
    · exact s.calm_leave p

theorem State.calm_departClean : Calm s s.departClean := (s.calm_leave .exit).trans (State.calm_report _ _ _)

theorem State.calm_dropUnconfirmed (r : Record) (n : Option Byte) : Calm s (s.dropUnconfirmed r n) :=
  (State.calm_notice _ _ _).trans (State.calm_departClean _)

/-! ## The candidate's record -/

theorem State.calm_closeWith {f : Record → Record} (hf : ∀ r, (f r).badge = r.badge) : Calm s (s.closeWith f) := by
  unfold State.closeWith
  split
  next r hr => exact .of_candidate (q := f r) hr rfl (by simp [State.beside]) (hf r)
  · exact .of_same rfl rfl

theorem State.calm_sampleZones (x : Int) (seen : Bool) : Calm s (s.sampleZones x seen) := by
  unfold State.sampleZones
  split
  · exact .refl s
  next r hr => exact .of_candidate hr rfl (by simp [State.beside]) (Record.badge_withVerdicts _ _)

theorem State.calm_classify : Calm s s.classify := by
  unfold State.classify
  split
  · exact .refl s
  next r hr => exact .of_candidate hr rfl (by simp [State.beside]) (Record.badge_withVerdicts _ _)

theorem State.calm_openMeasurement : Calm s s.openMeasurement :=
  Calm.trans (t := { s with mask := { s.mask with phase := .measuring, x := 1, high := 1 } }) (.of_same rfl rfl)
    ((State.calm_classify _).trans (State.calm_sampleZones _ _ _))

theorem State.calm_countOutside (datum : Bool) : Calm s (s.countOutside datum) := by
  unfold State.countOutside
  have h : Calm s { s with mask := s.mask.sampleDatum datum } := .of_same rfl rfl
  dsimp only
  split
  · exact h.trans (State.calm_openMeasurement _)
  · exact h

theorem State.calm_trailingEdge (x : Int) : Calm s (s.trailingEdge x) := s.calm_closeWith fun r => by simp

theorem State.calm_countForward (datum : Bool) : Calm s (s.countForward datum) := by
  unfold State.countForward
  dsimp only
  split
  · exact .of_same rfl rfl
  split
  · exact s.calm_closeWith fun r => by simp
  have h (x : Int) (seen : Bool) :
      Calm s (State.sampleZones { s with mask := MaskChecker.sampleDatum { s.mask with x := x, high := x } datum } x seen) :=
    Calm.trans (t := { s with mask := MaskChecker.sampleDatum { s.mask with x := x, high := x } datum }) (.of_same rfl rfl)
      (State.calm_sampleZones _ _ _)
  split
  · exact (h _ _).trans (State.calm_trailingEdge _ _)
  · exact h _ _

theorem State.calm_countReverse : Calm s s.countReverse := by
  unfold State.countReverse
  have h (x : Int) : Calm s { s with mask := { s.mask with x := x } } := .of_same rfl rfl
  dsimp only
  split
  · exact (h _).trans (State.calm_closeWith _ fun r => by simp)
  · exact h _

theorem State.calm_transportCount (dir : Direction) (datum : Bool) : Calm s (s.transportCount dir datum) := by
  unfold State.transportCount
  split
  · exact s.calm_countForward datum
  · exact s.calm_countReverse
  · exact s.calm_countOutside datum
  · exact s.calm_countOutside datum
  · exact s.calm_countOutside datum
  all_goals exact .refl s

theorem State.calm_candidateAtSpray : Calm s s.candidateAtSpray := by
  unfold State.candidateAtSpray
  split
  · exact Calm.trans (t := s.atSpray s.closeAtSpray) (.of_spray rfl rfl fun r => by simp) (State.calm_dropMask _)
  · exact .refl s

/-! ## The cure tick and the tunnel -/

theorem State.calm_cureStep : Calm s s.cureStep := .of_mapRecords (fun p r => by simp) fun r => rfl

theorem State.calm_potStep : Calm s (s.mapRecords s.potTest) := .of_mapRecords (fun p r => by simp) fun r => rfl

theorem State.calm_flashStep : Calm s s.flashStep :=
  .of_mapRecords (fun p r => by simp) fun r => by
    show r.flashTick.trav.reasons = _
    unfold Record.flashTick
    split <;> rfl

/-- No index starts in START: the tunnel is not RUNNING there. -/
theorem State.indexDue_of_start (h : s.cell = .start) : s.indexDue = false := by
  simp [State.indexDue, State.runState, h]
  split <;> simp

theorem State.calm_tryIndex : Calm s s.tryIndex := by
  refine .of_cell (by simp) (by simp) (by simp) (by simp) (by simp) fun h e => ?_
  have := s.indexDue_of_start (by simpa using h)
  simpa [State.tryIndex, this] using e

theorem State.calm_expiry : Calm s s.expiry := by
  unfold State.expiry
  split
  · exact .of_same rfl rfl
  · exact Calm.trans (.of_cell (t := { s with tunnel := { s.tunnel with dwell := 0, phase := .indexPending } })
      rfl rfl rfl rfl id (by simp)) (State.calm_tryIndex _)

theorem State.calm_dwellTick : Calm s s.dwellTick := by
  unfold State.dwellTick
  split
  · split
    · exact s.calm_expiry
    · exact .of_same rfl rfl
  · exact .refl s

theorem State.calm_cureTick : Calm s s.cureTick :=
  s.calm_cureStep.trans <| (State.calm_flashStep _).trans <| (State.calm_dwellTick _).trans <| (State.calm_tryIndex _).trans <|
    .of_same rfl rfl

theorem State.calm_endRead (good : Option Int) : Calm s (s.endRead good) := by
  refine .of_same (by simp) ?_
  unfold State.endRead
  split
  · rfl
  · dsimp only
    repeat' split
    all_goals simp [State.beside, State.startRead]

theorem State.calm_indexTimeout : Calm s s.indexTimeout := .of_same (by simp) (by simp [State.beside, State.indexTimeout])

/-! ## The offer at EXIT -/

theorem State.calm_answerExpiry : Calm s s.answerExpiry := by
  unfold State.answerExpiry
  split
  next n t h => exact .of_setHandoff h fun _ _ _ => ⟨n, _, rfl⟩
  · exact .refl s

/-- The OFFER of a record that is OFFERED is posted, or falls due. -/
theorem State.calm_postOffer {n : Byte} {w : OfferWait} (h : s.exitHandoff = some (.offered n w)) (m : Byte) :
    Calm s (s.postOffer m) := by
  have hc (v : OfferWait) : Calm s (s.setHandoff (some (.offered m v))) := .of_setHandoff h fun _ _ _ => ⟨n, w, rfl⟩
  unfold State.postOffer
  split
  · exact .refl s
  split
  · exact hc _
  · exact (hc _).trans (State.calm_post _ _ _ _)

theorem State.calm_reOfferExpiry : Calm s s.reOfferExpiry := by
  unfold State.reOfferExpiry
  split
  next h => exact s.calm_postOffer h _
  · exact .refl s

theorem State.calm_postDueOffer : Calm s s.postDueOffer := by
  unfold State.postDueOffer
  split
  next h => exact s.calm_postOffer h _
  · exact .refl s

theorem State.calm_offerReport (number : Byte) (refused : Bool) : Calm s (s.offerReport number refused) := by
  unfold State.offerReport
  split
  next n h =>
    split
    · exact .of_setHandoff h fun _ _ _ => ⟨n, _, rfl⟩
    · exact .refl s
  · exact .refl s

theorem State.calm_takeAccept (t : Telegram) : Calm s (s.takeAccept t) := by
  unfold State.takeAccept
  split
  · split
    next n w h => exact (Calm.of_setHandoff h (by simp)).trans (State.calm_withdrawKind _ _)
    · exact .refl s
  · exact .refl s

theorem State.calm_takeDecline (t : Telegram) : Calm s (s.takeDecline t) := by
  unfold State.takeDecline
  split
  · split
    next n w h => exact .of_setHandoff h fun _ _ _ => ⟨n, _, rfl⟩
    · exact .refl s
  · exact .refl s

theorem State.calm_takeReceived (t : Telegram) : Calm s (s.takeReceived t) := by
  unfold State.takeReceived
  split
  · split
    next n c v k h =>
      split
      · exact s.calm_departClean
      · exact .of_setHandoff h (by simp)
    · exact .refl s
  · exact .refl s

/-- The empty edge of a record with a handoff state at EXIT. -/
theorem State.calm_exitCleared {old : Handoff} (h : s.exitHandoff = some old) (n : Option Byte) (received : Bool) :
    Calm s (s.exitCleared n received) := by
  unfold State.exitCleared
  split
  · exact s.calm_departClean
  · exact .of_setHandoff h (by simp)

theorem State.calm_exitReturned {old : Handoff} (h : s.exitHandoff = some old) (n : Option Byte) : Calm s (s.exitReturned n) :=
  .of_setHandoff h (by simp)

/-! ## The arrival list and the hold list -/

theorem State.calm_expireArrival (i : Fin 2) : Calm s (s.expireArrival i) := by
  unfold State.expireArrival
  split
  · exact .refl s
  next e _ =>
    refine Calm.trans (t := { s with tracker := { s.tracker with arrivals := s.tracker.arrivals.eraseIdx i.val } }) ?_
      (State.calm_notice _ _ _)
    exact ⟨fun _ q h => ⟨q, h, .refl _ q⟩, (List.eraseIdx_sublist _ _).filterMap _, .refl _, fun _ h => .inl h,
      fun h => .inl h, fun h k => ⟨h, k⟩⟩

/-- An event that leaves the table and what stands beside it, but for the hold list, of which it keeps some entries. -/
theorem Calm.of_holds {s t : State} (ht : t.table = s.table) (hk : t.tracker = s.tracker) (hm : t.mask = s.mask)
    (hc : t.cell = s.cell) (hp : t.tunnel = s.tunnel)
    (h : (t.holds.list.map fun e => (e.rack, e.serial)).Sublist (s.holds.list.map fun e => (e.rack, e.serial))) : Calm s t where
  table _ q e := ⟨q, ht ▸ e, .refl _ q⟩
  arrivals := by rw [State.arrivalSerials, State.arrivalSerials, hk]
  holds := h
  cand p e := .inl (hm ▸ e)
  cell e := .inl (hc ▸ e)
  phase e f := ⟨hc ▸ e, hp ▸ f⟩

@[simp] theorem State.nearFullTest_list : s.nearFullTest.holds.list = s.holds.list := by
  unfold State.nearFullTest
  dsimp only
  repeat' split
  all_goals simp

theorem State.calm_nearFullTest : Calm s s.nearFullTest := .of_same (by simp) (by simp [State.beside])

theorem State.calm_removeEntry (e : HoldEntry) : Calm s (s.removeEntry e) :=
  Calm.trans (.of_holds (t := { s with holds := { s.holds with list := s.holds.list.filter fun h => h.rack != e.rack } })
    rfl rfl rfl rfl rfl (List.filter_sublist.map _))
    (Calm.trans (.of_same (by simp) (by simp [State.beside])) (State.calm_nearFullTest _))

theorem State.calm_setHoldState (t : Fin 8) (st : HoldState) : Calm s (s.setHoldState t st) := by
  refine .of_holds rfl rfl rfl rfl rfl ?_
  have : ∀ e : HoldEntry, ((if e.rack = t then { e with state := st } else e).rack,
      (if e.rack = t then { e with state := st } else e).serial) = (e.rack, e.serial) := fun e => by split <;> rfl
  simp [State.setHoldState, this, Function.comp_def]

theorem State.calm_takeRelease (t : Telegram) : Calm s (s.takeRelease t) := by
  unfold State.takeRelease
  dsimp only
  split
  · exact .of_same (by simp) (by simp [State.beside])
  split
  · exact .of_same (by simp) (by simp [State.beside])
  split
  · exact (s.calm_setHoldState _ _).trans (State.calm_post _ _ _ _)
  all_goals exact s.calm_post _ _ _

theorem State.calm_takeLotLift (t : Telegram) : Calm s (s.takeLotLift t) := by
  unfold State.takeLotLift
  split
  · exact .refl s
  · exact .of_same rfl rfl

/-! ## The spray sequencer -/

theorem State.calm_atSpray {f : Record → Record} (hf : ∀ r, (f r).badge = r.badge) : Calm s (s.atSpray f) := .of_spray rfl rfl hf

theorem State.calm_endBoardClaim : Calm s s.endBoardClaim := .of_same (by simp) (by simp [State.beside])

theorem State.calm_startWaiting {r : Record} (hr : s.table.spray = some r) (rc : Recipe) : Calm s (s.startWaiting r rc) := by
  have h1 (sp : Sprayer) (q : Record) (hq : q.badge = r.badge) : Calm s { s.putRecord .spray q with spray := sp } :=
    .of_putSpray hr rfl rfl hq
  have h2 (u : State) (k : Option Conflict) : Calm u (u.conflictNotice r rc k) := .of_same (by simp) (by simp [State.beside])
  unfold State.startWaiting
  dsimp only
  split
  · exact (h1 _ _ (by simp; rfl)).trans ((h2 _ _).trans (State.calm_report _ _ _))
  · exact (h1 _ _ (by simp; rfl)).trans (h2 _ _)

theorem State.calm_sprayDecision : Calm s s.sprayDecision := by
  unfold State.sprayDecision
  split
  · exact .refl s
  next r hr =>
    split
    · split
      · exact .of_putSpray hr rfl rfl rfl
      · exact .of_putSpray hr rfl rfl rfl
      · exact s.calm_startWaiting hr _
    · exact .refl s

theorem State.calm_finishSpray {f : Record → Record} (hf : ∀ r, (f r).badge = r.badge) (e : Option (Nat × Nat)) :
    Calm s (s.finishSpray f e) := by
  have hput {r q : Record} (hr : s.table.spray = some r) (hq : q.badge = r.badge) :
      Calm s (State.putRecord { s with spray := { s.spray with schedule := none, abort := none } } .spray q) :=
    .of_putSpray hr rfl rfl hq
  unfold State.finishSpray
  dsimp only
  split
  · exact .of_same rfl rfl
  next r hr =>
    have hq : Record.badge { f r with sprayEnd := some s.seconds, elapsed := 0 } = r.badge := hf r
    split
    · exact (hput hr ((Record.badge_withFilm _ _ _).trans hq)).trans (State.calm_report _ _ _)
    · exact hput hr hq

theorem State.calm_passEnd : Calm s s.passEnd := by
  unfold State.passEnd
  exact s.calm_finishSpray (by intro r; rfl) _

theorem State.calm_abortPass : Calm s s.abortPass := by
  unfold State.abortPass
  exact (s.calm_finishSpray (by intro r; rfl) _).trans (State.calm_endBoardClaim _)

theorem State.calm_startPass : Calm s s.startPass := .of_spray rfl rfl fun _ => rfl

theorem State.calm_tryPass : Calm s s.tryPass := by
  unfold State.tryPass
  split
  · split
    · exact s.calm_startPass
    · exact s.calm_startPass.trans (State.calm_passEnd _)
  · exact .refl s

theorem State.calm_passForward : Calm s s.passForward := by
  unfold State.passForward
  dsimp only
  have h (sp : Sprayer) (n : Nat) : Calm s (State.reportDots { s with spray := sp } n) :=
    .of_same (by simp) (by simp [State.beside])
  split
  · exact (h _ _).trans (State.calm_abortPass _)
  split
  · exact (h _ _).trans ((State.calm_passEnd _).trans (State.calm_endBoardClaim _))
  · exact h _ _

theorem State.calm_sprayCount (dir : Direction) : Calm s (s.sprayCount dir) := by
  unfold State.sprayCount
  split
  · have h : Calm s { s with spray := s.spray.windowed } := .of_same rfl rfl
    dsimp only
    split
    · exact h.trans (State.calm_passForward _)
    · exact h
  · split
    · unfold State.passReverse
      split
      · exact s.calm_abortPass
      · exact .of_same (by simp) (by simp [State.beside])
    · exact .refl s

/-! ## The moves that start -/

theorem State.calm_tryToTransport : Calm s s.tryToTransport := by
  unfold State.tryToTransport
  split
  · refine Calm.trans (t := { s with table := { s.table with entry := s.table.entry.map s.bindRecord } }) ?_ ?_
    · refine .of_put (p := .entry) (o := s.table.entry.map s.bindRecord) rfl rfl fun q hq => ?_
      obtain ⟨r, hr, rfl⟩ := Option.map_eq_some_iff.1 hq
      exact ⟨r, hr, .of_inside (by simp) (by simp)⟩
    · exact ⟨fun _ q h => ⟨q, h, .refl _ q⟩, .refl _, .refl _, fun p h => .inr (.inl (by cases h; rfl)), fun h => .inl h,
        fun h k => ⟨h, k⟩⟩
  · exact .refl s

theorem State.calm_tryToGate : Calm s s.tryToGate := .of_same (by simp) (by unfold State.tryToGate; split <;> rfl)

theorem State.calm_tryToSpray : Calm s s.tryToSpray := .of_same (by simp) (by unfold State.tryToSpray; split <;> rfl)

theorem State.calm_tryMove (m : ConvMove) : Calm s (s.tryMove m) := by
  cases m
  · exact s.calm_tryToTransport
  · exact s.calm_tryToSpray
  · exact s.calm_tryToGate

/-- What starts after the diversion. -/
theorem State.calm_startsBehind :
    Calm s s.tryIndex.tryPass.tryToGate.tryToSpray.tryToTransport.tryBoardClaim.tryPurgeClaim :=
  s.calm_tryIndex.trans <| (State.calm_tryPass _).trans <| (State.calm_tryToGate _).trans <| (State.calm_tryToSpray _).trans <|
    (State.calm_tryToTransport _).trans <| .of_same (by simp) (by simp [State.beside])

theorem State.calm_clearOutTest : Calm s s.clearOutTest := by
  refine .of_cell (by simp) (by simp) (by simp) (by simp) (fun h => ?_) (fun _ h => by simpa using h)
  revert h
  unfold State.clearOutTest
  split
  · dsimp only; split <;> simp
  · exact id

/-! ## The guard -/

theorem State.calm_guardOpens : Calm s s.guardOpens := by
  have h1 : Calm s s.putHold := .of_cell rfl rfl rfl rfl (by unfold State.putHold; dsimp only; split <;> simp) (fun _ => id)
  have h2 (u : State) : Calm u u.guardSpray := by
    unfold State.guardSpray
    split
    · exact u.calm_abortPass
    split
    · exact u.calm_endBoardClaim
    · exact .refl u
  have h3 (u : State) : Calm u u.guardIndex := .of_same (by simp) (by unfold State.guardIndex; split <;> rfl)
  exact h1.trans <| (h2 _).trans <| Calm.trans (.of_same (by simp) (by simp [State.beside])) (h3 _)

/-- The end of the drive hold, before what starts. -/
theorem State.calm_endHold : Calm s s.liftHold.resumeIndex.enterHeld.postDueOffer := by
  have h1 : Calm s s.liftHold := .of_cell rfl rfl rfl rfl (by unfold State.liftHold; dsimp only; split <;> simp) (fun _ => id)
  have h2 (u : State) : Calm u u.resumeIndex := .of_same (by simp) (by unfold State.resumeIndex; split <;> rfl)
  have h3 (u : State) : Calm u u.enterHeld := .of_same rfl rfl
  exact h1.trans <| (h2 _).trans <| (h3 _).trans (State.calm_postDueOffer _)

/-! ## Reset, load and the millisecond -/

theorem State.calm_cold : Calm s s.cold where
  table p q h := by cases p <;> cases h
  arrivals := List.nil_sublist _
  holds := List.nil_sublist _
  cand p h := by cases h
  cell _ := .inr rfl
  phase _ h := by cases h

theorem State.calm_load (im : List Byte) : Calm s (s.load im) := by
  unfold State.load
  split
  · exact .of_same rfl rfl
  · exact .of_cell rfl rfl rfl rfl (by simp) (by simp)

theorem State.calm_timersDown : Calm s s.timersDown := by
  refine ⟨fun p q hq => ?_, ?_, .refl _, fun _ h => .inl h, fun h => .inl h, fun h k => ⟨h, k⟩⟩
  · have hput : s.timersDown.table = s.table.put .exit
        (s.table.exit.map fun r => { r with handoff := r.handoff.map (handoffDown s.tracker.hold) }) := rfl
    rw [hput, PerPos.get_put] at hq
    split at hq
    · next hp =>
      obtain ⟨r, hr, rfl⟩ := Option.map_eq_some_iff.1 hq
      refine ⟨r, hp ▸ hr, rfl, fun e => by simp [e], rfl, fun _ n w e => ⟨?_, id⟩⟩
      obtain ⟨h, hh, hd⟩ := Option.map_eq_some_iff.1 e
      cases h with
      | offered m v => exact ⟨m, v, hh⟩
      | transferring => cases hd
    · exact ⟨q, hq, .refl _ q⟩
  · refine (?_ : s.timersDown.arrivalSerials = s.arrivalSerials) ▸ .refl _
    simp only [State.arrivalSerials, State.timersDown]
    split
    · rfl
    · simp [List.filterMap_map]

theorem State.calm_idleMs : Calm s s.idleMs := by
  have h1 : Calm s s.secondsMsDown := by
    unfold State.secondsMsDown
    split <;> exact .of_same rfl rfl
  unfold State.idleMs
  split
  · refine h1.trans ((State.calm_timersDown _).trans ?_)
    unfold State.liveMs
    dsimp only
    split <;> exact .of_same rfl rfl
  · exact h1

end

end Sys2Proof.Machine

end

section

namespace Sys2Proof.Machine

/-! ## Badges kept -/

/-- The records stand where they stood and keep their badges; nothing beside the table changes. -/
def State.KeepsBadges (s t : State) : Prop :=
  t.beside = s.beside ∧ ∀ p q, t.table.get p = some q → ∃ r, s.table.get p = some r ∧ q.badge = r.badge

theorem State.KeepsBadges.of_same {s t : State} (ht : t.table = s.table) (h : t.beside = s.beside) : s.KeepsBadges t :=
  ⟨h, fun _ q e => ⟨q, ht ▸ e, rfl⟩⟩

theorem State.KeepsBadges.trans {s t u : State} (h : s.KeepsBadges t) (k : t.KeepsBadges u) : s.KeepsBadges u := by
  refine ⟨k.1.trans h.1, fun p q e => ?_⟩
  obtain ⟨r, hr, hqr⟩ := k.2 p q e
  obtain ⟨o, ho, hro⟩ := h.2 p r hr
  exact ⟨o, ho, hqr.trans hro⟩

theorem State.KeepsBadges.of_put {s t : State} {p : Position} {f : Record → Record}
    (ht : t.table = s.table.put p ((s.table.get p).map f)) (h : t.beside = s.beside) (hf : ∀ r, (f r).badge = r.badge) :
    s.KeepsBadges t := by
  refine ⟨h, fun a q e => ?_⟩
  rw [ht, PerPos.get_put] at e
  split at e
  · next hap =>
    obtain ⟨r, hr, rfl⟩ := Option.map_eq_some_iff.1 e
    exact ⟨r, hap ▸ hr, hf r⟩
  · exact ⟨q, e, rfl⟩

/-- Kept badges make a calm event where the record at EXIT keeps its reasons as long as it is OFFERED. -/
theorem Calm.of_badges {s t : State} (h : s.KeepsBadges t)
    (he : ∀ r q, s.table.exit = some r → t.table.exit = some q → ∀ n w, r.handoff = some (.offered n w) →
      q.trav.reasons = r.trav.reasons) : Calm s t := by
  refine .of_beside h.1 fun p q hq => ?_
  obtain ⟨r, hr, hb⟩ := h.2 p q hq
  refine ⟨r, hr, .of_badge hb ?_⟩
  rintro ⟨-, rfl⟩ n w ho
  exact he r q hr hq n w ho

/-- The records of two states with the same badges, that at EXIT handed for diversion in both. -/
theorem Calm.of_badges_handed {s t : State} (h : s.KeepsBadges t) : Calm s.handForDiversion t.handForDiversion := by
  have hput (u : State) : u.handForDiversion.table = u.table.put .exit
      (u.table.exit.map fun r => { r with handoff := none, diversion := some .waitingRack }) := rfl
  refine .of_beside h.1 fun p q hq => ?_
  rw [hput, PerPos.get_put] at hq ⊢
  split at hq
  · next hp =>
    obtain ⟨q', hq', rfl⟩ := Option.map_eq_some_iff.1 hq
    obtain ⟨r, hr, hb⟩ := h.2 .exit q' hq'
    exact ⟨{ r with handoff := none, diversion := some .waitingRack },
      by rw [if_pos hp]; exact Option.map_eq_some_iff.2 ⟨r, hr, rfl⟩,
      (Record.serial_of_badge hb : q'.trav.serial = r.trav.serial), fun _ => rfl, rfl,
      fun _ n w e => by cases e⟩
  · next hp =>
    obtain ⟨r, hr, hb⟩ := h.2 p q hq
    exact ⟨r, by rw [if_neg hp]; exact hr, .of_inside (fun e => hp e.2) hb⟩

/-! ## What an event may do to the boards -/

/-- One act on the boards: a calm event, or one that makes, moves, diverts or records a board, with what holds where it is
done. -/
inductive Act : State → State → Prop where
  | calm {s t : State} : Calm s t → Act s t
  | strand {s : State} (p : Position) : (p = .exit → s.cell ≠ .start) → Act s (s.makeStranded p)
  | divert {s : State} : Act s s.tryDiversion
  | hand {s : State} : Act s s.handForDiversion
  | rack {s : State} (r : Record) (t : Fin 8) : s.table.exit = some r → s.target = some t →
      Act s ((s.leave .exit).appendHold (heldEntry t r.trav s.seconds))
  | rackStray {s : State} (t : Fin 8) : s.entryAt t = none → s.target ≠ some t → Act s (s.appendHold (strandedEntry t s.seconds))
  | arrive {s : State} (t : Telegram) :
      (∀ sn, (offerTraveller t.payload).serial = some sn →
        s.serialStands sn = false ∧ ∀ e ∈ s.tracker.arrivals, e.trav.serial ≠ some sn) → Act s (s.appendArrival t)
  | meet {s : State} (e : ArrivalEntry) (others : List ArrivalEntry) (mismatch : Option Serial) :
      (e :: others).Sublist s.tracker.arrivals → Act s (s.completeMatch e others mismatch)
  | orphan {s : State} (o : ReadOutcome) : s.tracker.arrivals = [] → Act s (s.orphanRecord o)
  | carry {s : State} (m : ConvMove) : m ≠ .toSpray → Act s (s.carryOver m)
  | carryToSpray {s : State} : Act s (s.carryOver .toSpray).candidateAtSpray

/-- A number of acts, one after the other. -/
abbrev Acts : State → State → Prop := Relation.ReflTransGen Act

theorem Calm.acts {s t : State} (h : Calm s t) : Acts s t := .single (.calm h)

/-- An event that leaves the table and what stands beside it. -/
theorem Acts.of_same {s t : State} (ht : t.table = s.table) (h : t.beside = s.beside) : Acts s t := (Calm.of_same ht h).acts

/-- Acts after an event that leaves the table and what stands beside it. -/
theorem Acts.after {s t u : State} (k : Acts t u) (ht : t.table = s.table) (h : t.beside = s.beside) : Acts s u :=
  (Acts.of_same ht h).trans k

/-- Acts before a calm event. -/
theorem Acts.calm {s t u : State} (h : Acts s t) (k : Calm t u) : Acts s u := h.tail (.calm k)

section
variable (s : State)

theorem State.acts_starts : Acts s s.starts := Acts.calm (.single .divert) (State.calm_startsBehind _)

theorem State.acts_settle : Acts s s.settle := s.calm_clearOutTest.acts.trans (State.acts_starts _)

/-! ### The match at ENTRY -/

theorem State.acts_matchEntry (outcome : ReadOutcome) : Acts s (s.matchEntry outcome) := by
  unfold State.matchEntry
  split
  · exact .refl
  next e rest h => exact .single (.meet e rest none (h ▸ .refl _))
  next e rest sn v l h =>
    have keep (m : Option Serial) : Acts s (s.completeMatch e rest m) := .single (.meet e rest m (h ▸ .refl _))
    split
    · exact keep none
    split
    next e2 rest2 =>
      split
      · exact Relation.ReflTransGen.trans (Calm.of_same (by simp) (by simp [State.beside])).acts
          (.single (.meet e2 rest2 none (by simp [h])))
      · exact keep _
    · exact keep _

theorem State.acts_endEntryRead (outcome : ReadOutcome) : Acts s (s.endEntryRead outcome) := by
  unfold State.endEntryRead
  split
  · exact (Acts.of_same rfl rfl)
  · exact s.acts_matchEntry outcome

theorem State.acts_orphanExpiry : Acts s s.orphanExpiry := by
  unfold State.orphanExpiry
  split
  next h =>
    split
    · exact .refl
    · exact .trans (.single (.orphan _ h)) (State.acts_starts _)
  · exact .refl

/-- An OFFER that is accepted and is no repeat brings a serial that stands nowhere. -/
theorem State.new_serial {t : Telegram} (h : s.offerDecline t = none)
    (hr : s.isRepeat t.src (byteAt t.payload 0) (offerTraveller t.payload).serial = false) (sn : Serial)
    (hs : (offerTraveller t.payload).serial = some sn) :
    s.serialStands sn = false ∧ ∀ e ∈ s.tracker.arrivals, e.trav.serial ≠ some sn := by
  constructor
  · by_contra hst
    rw [hs] at hr
    simp only [State.offerDecline, hs, Option.any_some] at h
    split at h
    · simp at h
    split at h
    · simp at h
    split at h <;> simp [hst, hr] at h
  · simpa [State.isRepeat, hs] using hr

theorem State.acts_takeOffer (t : Telegram) : Acts s (s.takeOffer t) := by
  unfold State.takeOffer
  split
  · exact .refl
  split
  · exact (Calm.of_same (by simp) (by simp [State.beside])).acts
  next hdec =>
    dsimp only
    cases hr : s.isRepeat t.src (byteAt t.payload 0) (offerTraveller t.payload).serial with
    | true => exact (s.calm_post _ _ _).acts
    | false =>
      have h1 : Acts s ((s.appendArrival t).post t.src kindAccept
          (answerPayload (byteAt t.payload 0) (offerTraveller t.payload).serial)) :=
        Acts.calm (.single (.arrive t (s.new_serial hdec hr))) (State.calm_post _ _ _ _)
      simp only [Bool.not_false, if_true]
      split
      · exact h1.trans (State.acts_matchEntry _ _)
      · exact h1

/-! ### The rack and the lot filters -/

theorem State.acts_completeDiversion {r : Record} {t : Fin 8} (hr : s.table.exit = some r) (ht : s.target = some t) :
    Acts s (s.completeDiversion r t) :=
  Acts.calm (.single (.rack r t hr ht)) <| (State.calm_notice _ _ _).trans <| (State.calm_report _ _ _).trans
    (State.calm_nearFullTest _)

theorem State.acts_diversionTest : Acts s s.diversionTest := by
  unfold State.diversionTest
  split
  next hr ht =>
    split
    · exact s.acts_completeDiversion hr ht
    · exact .refl
  · exact .refl

theorem State.acts_rackEdge (t : Fin 8) (b : Bool) : Acts s (s.rackEdge t b) := by
  unfold State.rackEdge
  split
  · exact s.acts_diversionTest
  next ht =>
    split
    · exact (s.calm_removeEntry _).acts
    next he => exact Acts.calm (.single (.rackStray t he ht)) (State.calm_nearFullTest _)
    all_goals exact .refl

theorem State.skipWaiting_keepsBadges : s.KeepsBadges s.skipWaiting := by
  unfold State.skipWaiting
  split
  · exact .of_put (p := .spray) (f := fun r => { r with spray := .skipped }) (by simp [State.atSpray]; rfl)
      (by simp [State.beside]) fun _ => rfl
  · exact .of_same rfl rfl

@[simp] theorem State.skipWaiting_exit : s.skipWaiting.table.exit = s.table.exit := by
  unfold State.skipWaiting
  split <;> simp [State.atSpray]

/-- A new filter either leaves an OFFERED record at EXIT as it was, or has it handed for diversion. -/
theorem State.acts_applyFilter (f : LotFilter) : Acts s (s.applyFilter f) := by
  have h1 : s.KeepsBadges (s.mapRecords fun _ r => f.mark r) := by
    refine ⟨rfl, fun p q e => ?_⟩
    simp only [State.mapRecords, PerPos.get_mapPos, Option.map_eq_some_iff] at e
    obtain ⟨r, hr, rfl⟩ := e
    exact ⟨r, hr, LotFilter.badge_mark _ _⟩
  unfold State.applyFilter
  dsimp only
  generalize hu : (if s.filterHits f .spray then (s.mapRecords fun _ r => f.mark r).skipWaiting
    else s.mapRecords fun _ r => f.mark r) = u
  have hk : s.KeepsBadges u := by
    rw [← hu]
    split
    · exact h1.trans (State.skipWaiting_keepsBadges _)
    · exact h1
  have hx : u.table.exit = s.table.exit.map f.mark := by
    rw [← hu]
    split
    · rw [State.skipWaiting_exit]; rfl
    · rfl
  split
  · unfold State.divertOffered
    split
    · exact Acts.calm (.single .hand)
        (.of_badges_handed (hk.trans (.of_same (by simp) (by simp [State.beside]))))
    next hno =>
      refine (Calm.of_badges hk fun r q hr hq n w ho => ?_).acts
      obtain ⟨r', hr', hb⟩ := hk.2 .exit q hq
      rw [show r' = r from Option.some.inj (hr'.symm.trans hr)] at hb
      exact absurd (by simp [State.exitHandoff, hq, Record.handoff_of_badge hb, ho]) (hno n w)
  next hmiss =>
    refine (Calm.of_badges hk fun r q hr hq n w ho => ?_).acts
    rw [hx, hr, Option.map_some, Option.some.injEq] at hq
    have : f.hits r.trav.variant r.trav.lot = false := by simpa [State.filterHits, PerPos.get, hr] using hmiss
    simp [← hq, LotFilter.mark, this, Record.addReasonIf]

theorem State.acts_takeLotHold (t : Telegram) : Acts s (s.takeLotHold t) := by
  unfold State.takeLotHold
  dsimp only
  split
  · exact .refl
  split
  next k _ => exact .trans (Calm.of_same (by simp) (by simp [State.beside, State.setFilter])).acts (State.acts_applyFilter _ _)
  · exact (s.calm_notice _ _).acts

/-! ### Moves and edges -/

theorem State.acts_completeMove (m : ConvMove) : Acts s (s.completeMove m) := by
  cases m with
  | toTransport => exact .single (.carry _ (by decide))
  | toSpray => exact Acts.calm (.single .carryToSpray) (State.calm_sprayDecision _)
  | toGate =>
    unfold State.completeMove
    dsimp only
    refine .tail (Calm.acts ?_) (.carry _ (by decide))
    split
    · exact s.calm_abortPass
    · exact .refl s

theorem State.acts_strayOccupied {p : Position} (hp : p = .exit → s.cell ≠ .start) : Acts s (s.strayOccupied p) := by
  unfold State.strayOccupied
  split
  · split
    · split
      · exact (Acts.of_same rfl rfl)
      · exact .refl
    · exact .single (.strand p hp)
  · exact .refl

theorem State.acts_moveTest (m : ConvMove) : Acts s (s.moveTest m) := by
  unfold State.moveTest
  dsimp only
  split
  · split
    · exact (s.acts_completeMove m).trans (State.acts_strayOccupied _ (by cases m <;> simp [moveSource]))
    · exact s.acts_completeMove m
  · exact .refl

theorem State.acts_moveTests (p : Position) : Acts s (s.moveTests p) := by
  unfold State.moveTests
  split
  · exact s.acts_moveTest _
  · exact (s.acts_moveTest _).trans (State.acts_moveTest _ _)
  · exact (s.acts_moveTest _).trans (State.acts_moveTest _ _)
  · exact s.acts_moveTest _
  all_goals exact .refl

theorem State.acts_exitEdge {r : Record} (hr : s.table.exit = some r) (b : Bool) : Acts s (s.exitEdge r b) := by
  have hx {h : Handoff} (e : r.handoff = some h) : s.exitHandoff = some h := by simp [State.exitHandoff, hr, e]
  unfold State.exitEdge
  split
  · exact s.acts_diversionTest
  · exact .refl
  next h => exact (s.calm_exitReturned (hx h) _).acts
  · exact .refl
  next h => exact (s.calm_exitCleared (hx h) _ _).acts
  · exact .refl
  · exact (s.calm_removeLifted _).acts

theorem State.acts_occupiedEdge (p : Position) (hp : s.cell ≠ .start) : Acts s (s.occupiedEdge p) := by
  unfold State.occupiedEdge
  split
  · exact s.acts_moveTests p
  split
  · exact .refl
  split
  · exact s.acts_exitEdge ‹s.table.exit = some _› true
  · exact s.acts_strayOccupied fun _ => hp

theorem State.calm_raiseStop (p : Position) : Calm s (s.raiseStop p) :=
  .of_same (by simp) (by unfold State.raiseStop; split <;> rfl)

theorem State.calm_lifted (p : Position) : Calm s (s.lifted p) := by
  unfold State.lifted
  split
  · exact .of_same (by split <;> rfl) (by split <;> rfl)
  · exact s.calm_removeLifted p

theorem State.acts_emptyEdge (p : Position) : Acts s (s.emptyEdge p) := by
  have h := (s.calm_raiseStop p).acts
  unfold State.emptyEdge
  dsimp only
  split
  · exact h.trans (State.acts_moveTests _ _)
  split
  · exact h
  split
  · exact h.trans (State.acts_exitEdge _ (by assumption) false)
  · exact h.calm (State.calm_lifted _ _)

theorem State.acts_transferExpiry : Acts s s.transferExpiry := by
  unfold State.transferExpiry
  split
  · exact .refl
  split
  · split
    · exact .refl
    · exact (s.calm_dropUnconfirmed _ _).acts.trans (State.acts_settle _)
  · exact .refl

/-- The cell state in which the board tracker takes edges is not START. -/
theorem State.cell_ne_start_of_tracking (h : s.tracking = true) : s.cell ≠ .start := by
  intro e
  simp [State.tracking, e] at h

theorem State.acts_rackChange (r : Fin 8) (b : Bool) : Acts s (s.rackChange r b) := by
  have h : Calm s (s.setRackLevel r b) := .of_same (by simp) (by simp [State.beside])
  unfold State.rackChange
  dsimp only
  split
  · split
    · exact h.acts.trans ((State.acts_rackEdge _ _ _).trans (State.acts_settle _))
    · exact h.acts
  · exact .refl

/-! ### The supply view and the link -/

theorem State.acts_afterView : Acts s s.afterView :=
  .trans (Calm.of_same (t := s.tryGrant) (by simp) (by simp [State.beside])).acts (State.acts_starts _)

theorem State.acts_takeSupplyClaim (b : Byte) (p : List Byte) : Acts s (s.takeSupplyClaim b p) := by
  unfold State.takeSupplyClaim
  split
  · exact (State.acts_afterView _).after rfl rfl
  · exact .refl

theorem State.acts_takeSupplyDone (b : Byte) (p : List Byte) : Acts s (s.takeSupplyDone b p) := by
  unfold State.takeSupplyDone
  split
  · exact (State.acts_afterView _).after rfl rfl
  · exact .refl

theorem State.acts_viewAged (v : List ClaimEntry) : Acts s (s.viewAged v) := by
  unfold State.viewAged
  dsimp only
  refine .trans (Calm.acts ?_) (State.acts_afterView _)
  split
  · exact .of_same (by simp) (by simp [State.beside])
  · exact .of_same rfl rfl

theorem State.acts_clash : Acts s s.clash := by
  unfold State.clash
  split
  · split
    · exact (State.acts_starts _).after rfl rfl
    · exact (Acts.of_same rfl rfl)
  · exact .refl

theorem State.acts_sendReport (e : OutEntry) (b : Bool) : Acts s (s.sendReport e b) := by
  have hc : Calm s (s.claimReadback b) := .of_same (by simp) (by simp [State.beside])
  have hd : Calm s s.doneReadback := .of_same (by simp) (by simp [State.beside])
  unfold State.sendReport
  split
  · exact (s.calm_offerReport _ _).acts
  split
  · exact (Calm.of_same (by simp) (by simp only [State.beside, State.receivedReport]; split <;> rfl)).acts
  split
  · exact hc.acts.trans (State.acts_starts _)
  split
  · exact hd.acts.trans (State.acts_starts _)
  · exact .refl

theorem State.acts_endSendOf (o : Option OutEntry) (b : Bool) : Acts s (s.endSendOf o b) := by
  unfold State.endSendOf
  split
  next e _ _ => exact (State.acts_sendReport _ _ _).after rfl rfl
  · exact .refl

theorem State.acts_takeGood (t : Telegram) : Acts s (s.takeGood t) := by
  unfold State.takeGood
  split
  · exact .refl
  split
  · unfold State.toView State.when
    split
    · split
      · exact s.acts_takeSupplyClaim _ _
      · exact s.acts_takeSupplyDone _ _
    · exact .refl
  · exact (Acts.of_same rfl rfl)

theorem State.acts_goodTelegram (e : HeardEvent) : Acts s (s.goodTelegram e) := by
  unfold State.goodTelegram
  split
  · exact (Calm.of_same (by simp) (by simp [State.beside])).acts
  · split
    · exact (Acts.of_same rfl rfl)
    · exact .refl
  · split
    · have h : Calm s s.closeSlot := .of_same rfl rfl
      split
      · exact h.acts
      · exact h.acts.trans (State.acts_takeGood _ _)
    · exact .refl

end

/-! ### The wrappers of the commands -/

theorem Acts.of_when {s : State} {c : Bool} {f : State → State} (h : c = true → Acts s (f s)) : Acts s (s.when c f) := by
  unfold State.when
  split
  · exact h ‹_›
  · exact .refl

theorem Acts.of_live {s : State} {f : State → State} (h : Acts s (f s)) : Acts s (s.live f) := by
  unfold State.live
  split
  · exact h
  · exact .refl

theorem Acts.of_hand {s : State} {kind : Byte} {f : State → Telegram → State} (h : ∀ u t, Acts u (f u t)) :
    Acts s (s.hand kind f) := by
  unfold State.hand
  split
  · exact (h _ _).after rfl rfl
  · exact .refl

/-! ## What a step may do to the boards -/

/-- A step: a number of acts, the clear-out scan, or the end of an index. -/
inductive BoardEvent (s : State) : State → Prop where
  | acts {t : State} : Acts s t → BoardEvent s t
  | scan (ps : BitVec 11) (rs : BitVec 8) : s.cell = .start → BoardEvent s (s.scanLevels ps rs).scan
  | index : s.tunnel.phase = .indexing → BoardEvent s s.indexDoneRise.endIndex.settle

theorem BoardEvent.same {s t : State} (ht : t.table = s.table) (h : t.beside = s.beside) : BoardEvent s t :=
  .acts (Calm.of_same ht h).acts

/-- What each command may do to the boards. -/
theorem exec_boardEvent (c : Instr) (s : State) : ∃ t, exec c s = .next t ∧ BoardEvent s t := by
  have live {f : State → State} (h : ∀ u, Acts u (f u)) : BoardEvent s (s.live f) := .acts (.of_live (h s))
  have liveCalm {f : State → State} (h : ∀ u, Calm u (f u)) : BoardEvent s (s.live f) := live fun u => (h u).acts
  have whenDo {b : Bool} {f : State → State} (h : ∀ u, Acts u (f u)) : BoardEvent s (s.when b f) := .acts (.of_when fun _ => h s)
  have whenCalm {b : Bool} {f : State → State} (h : ∀ u, Calm u (f u)) : BoardEvent s (s.when b f) := whenDo fun u => (h u).acts
  have hand {k : Byte} {f : State → Telegram → State} (h : ∀ u t, Acts u (f u t)) : BoardEvent s (s.hand k f) :=
    .acts (.of_hand h)
  have same {f : State → State} (ht : ∀ u, (f u).table = u.table) (hb : ∀ u, (f u).beside = u.beside) (u : State) :
      Calm u (f u) := .of_same (ht u) (hb u)
  cases c with
  | coldReset => exact ⟨_, rfl, .acts s.calm_cold.acts⟩
  | configurationLoad im => exact ⟨_, rfl, whenCalm fun u => u.calm_load im⟩
  | clearOutScan ps rs =>
    refine ⟨_, rfl, ?_⟩
    unfold State.when
    split
    next h => exact .scan ps rs (by simpa using (Bool.and_eq_true_iff.1 h).1)
    · exact .acts .refl
  | occupiedEdge p =>
    refine ⟨_, rfl, whenDo fun u => ?_⟩
    have h : Acts u (u.setLevel p true) := (Calm.of_same (by simp) (by simp [State.beside])).acts
    dsimp only
    split
    next ht => exact h.trans ((State.acts_occupiedEdge _ p (State.cell_ne_start_of_tracking _ ht)).trans (State.acts_settle _))
    · exact h
  | emptyEdge p =>
    refine ⟨_, rfl, whenDo fun u => ?_⟩
    have h : Acts u (u.setLevel p false) := (Calm.of_same (by simp) (by simp [State.beside])).acts
    dsimp only
    split
    · exact h.trans ((State.acts_emptyEdge _ p).trans (State.acts_settle _))
    · exact h
  | moveStart m => exact ⟨_, rfl, liveCalm fun u => u.calm_tryMove m⟩
  | idReadAnswer k a => exact ⟨_, rfl, whenDo fun u => (u.acts_endEntryRead _).trans (State.acts_starts _)⟩
  | entryReadTimeout => exact ⟨_, rfl, whenDo fun u => (u.acts_endEntryRead _).trans (State.acts_starts _)⟩
  | orphanWaitExpiry => exact ⟨_, rfl, live State.acts_orphanExpiry⟩
  | offer => exact ⟨_, rfl, hand fun u t => (u.acts_takeOffer t).trans (State.acts_starts _)⟩
  | accept => exact ⟨_, rfl, hand fun u t => (u.calm_takeAccept t).acts⟩
  | decline => exact ⟨_, rfl, hand fun u t => (u.calm_takeDecline t).acts⟩
  | received => exact ⟨_, rfl, hand fun u t => (u.calm_takeReceived t).acts.trans (State.acts_settle _)⟩
  | answerWaitExpiry => exact ⟨_, rfl, liveCalm State.calm_answerExpiry⟩
  | reOfferWaitExpiry => exact ⟨_, rfl, liveCalm State.calm_reOfferExpiry⟩
  | upstreamTransferTimeout => exact ⟨_, rfl, live State.acts_transferExpiry⟩
  | downstreamTransferTimeout i => exact ⟨_, rfl, whenCalm fun u => u.calm_expireArrival i⟩
  | receivedRepost =>
    exact ⟨_, rfl, liveCalm (same (by simp) fun u => by simp only [State.beside, State.repost]; split <;> rfl)⟩
  | recipePart => exact ⟨_, rfl, hand fun u t => (Calm.of_same (by simp) (by simp [State.beside])).acts⟩
  | recipeActivate => exact ⟨_, rfl, hand fun u t => (Calm.of_same (by simp) (by simp [State.beside])).acts⟩
  | recipeDrop => exact ⟨_, rfl, hand fun u t => (Calm.of_same (by simp) (by simp [State.beside])).acts⟩
  | transportEncoderCount dir datum => exact ⟨_, rfl, whenCalm fun u => u.calm_transportCount dir datum⟩
  | claimRequest => exact ⟨_, rfl, liveCalm (same (by simp) (by simp [State.beside]))⟩
  | passStart => exact ⟨_, rfl, liveCalm State.calm_tryPass⟩
  | sprayEncoderCount dir rising n =>
    refine ⟨_, rfl, liveCalm fun u => ?_⟩
    have h : Calm u { u with spray := { u.spray with tenths := u.spray.tenths + n } } := .of_same rfl rfl
    dsimp only
    split
    · exact h.trans (State.calm_sprayCount _ dir)
    · exact h
  | passStallTimeout => exact ⟨_, rfl, whenCalm State.calm_abortPass⟩
  | speedWindowEnd => exact ⟨_, rfl, liveCalm (same (fun _ => rfl) fun _ => rfl)⟩
  | purgeClaimRequest => exact ⟨_, rfl, liveCalm (same (by simp) (by simp [State.beside]))⟩
  | purgeTimerExpiry =>
    exact ⟨_, rfl, whenDo fun u =>
      (same (f := State.purgeEnd) (by simp) (by simp [State.beside]) u).acts.trans (State.acts_starts _)⟩
  | supplyClaim b p => exact ⟨_, rfl, whenDo fun u => u.acts_takeSupplyClaim b p⟩
  | supplyDone b p => exact ⟨_, rfl, whenDo fun u => u.acts_takeSupplyDone b p⟩
  | ownClaimReadback b => exact ⟨_, rfl, .acts (s.acts_endSendOf _ b)⟩
  | ownDoneReadback b => exact ⟨_, rfl, .acts (s.acts_endSendOf _ b)⟩
  | supplyTick => exact ⟨_, rfl, live fun u => u.acts_viewAged _⟩
  | claimEntryExpiry b => exact ⟨_, rfl, live fun u => u.acts_viewAged _⟩
  | claimGranted => exact ⟨_, rfl, live State.acts_afterView⟩
  | learningTimeEnd => exact ⟨_, rfl, whenDo fun u => (State.acts_afterView _).after rfl rfl⟩
  | reClaimTimerExpiry => exact ⟨_, rfl, whenCalm (same (fun _ => rfl) fun _ => rfl)⟩
  | cureTick => exact ⟨_, rfl, liveCalm State.calm_cureTick⟩
  | potLifeExpiry => exact ⟨_, rfl, liveCalm State.calm_potStep⟩
  | dwellExpiry => exact ⟨_, rfl, whenCalm State.calm_expiry⟩
  | indexStart => exact ⟨_, rfl, liveCalm State.calm_tryIndex⟩
  | indexDone =>
    refine ⟨_, rfl, ?_⟩
    unfold State.when
    split
    · dsimp only
      split
      next h => exact .index (by simpa using h.1)
      · exact .same (by simp) (by simp [State.beside])
    · exact .acts .refl
  | indexTimeout => exact ⟨_, rfl, whenCalm State.calm_indexTimeout⟩
  | probeReadDone z k a => exact ⟨_, rfl, whenCalm fun u => u.calm_endRead _⟩
  | probeReadTimeout => exact ⟨_, rfl, liveCalm fun u => u.calm_endRead _⟩
  | diversionStart => exact ⟨_, rfl, live fun u => .single .divert⟩
  | rackOccupiedEdge r => exact ⟨_, rfl, live fun u => u.acts_rackChange r true⟩
  | rackEmptyEdge r => exact ⟨_, rfl, live fun u => u.acts_rackChange r false⟩
  | release => exact ⟨_, rfl, hand fun u t => (u.calm_takeRelease t).acts⟩
  | lotHold => exact ⟨_, rfl, hand fun u t => (u.acts_takeLotHold t).trans (State.acts_starts _)⟩
  | lotLift => exact ⟨_, rfl, hand fun u t => (u.calm_takeLotLift t).acts⟩
  | watchClear => exact ⟨_, rfl, hand fun u t => (Calm.of_same (by simp) (by simp [State.beside])).acts⟩
  | statusQuery => exact ⟨_, rfl, hand fun u t => (Calm.of_same (by simp) (by simp [State.beside])).acts⟩
  | guardOpening =>
    exact ⟨_, rfl, liveCalm fun u => (same (f := fun v => v.setGuard true) (by simp) (by simp [State.beside]) u).trans
      (State.calm_guardOpens _)⟩
  | guardClosing =>
    exact ⟨_, rfl, liveCalm (same (fun u => by dsimp only; split <;> rfl) fun u => by dsimp only; split <;> rfl)⟩
  | settleTimeExpiry => exact ⟨_, rfl, whenDo fun u => u.calm_endHold.acts.trans (State.acts_starts _)⟩
  | guardFirstLevel b =>
    refine ⟨_, rfl, whenCalm fun u => ?_⟩
    have h : Calm u (u.setGuard b) := .of_same (by simp) (by simp [State.beside])
    dsimp only
    split
    · exact h.trans (State.calm_guardOpens _)
    · exact h
  | linkIdle => exact ⟨_, rfl, liveCalm (same (by simp) (by simp [State.beside]))⟩
  | sendStart n => exact ⟨_, rfl, liveCalm (same (f := fun v => v.accessBoundary n) (by simp) (by simp [State.beside]))⟩
  | clash => exact ⟨_, rfl, live State.acts_clash⟩
  | sendEnd b => exact ⟨_, rfl, .acts (s.acts_endSendOf _ b)⟩
  | telegramTaken e => exact ⟨_, rfl, live fun u => u.acts_goodTelegram e⟩
  | faultyTelegram e => exact ⟨_, rfl, liveCalm (same (f := fun v => v.faultyTelegram e) (by simp) (by simp [State.beside]))⟩
  | telegramAbandoned => exact ⟨_, rfl, whenCalm (same (fun _ => rfl) fun _ => rfl)⟩
  | heldTelegramEntered => exact ⟨_, rfl, liveCalm (same (fun _ => rfl) fun _ => rfl)⟩
  | cellSecondsTick => exact ⟨_, rfl, .same rfl rfl⟩
  | maskChannelEdge k b => exact ⟨_, rfl, liveCalm (same (fun _ => rfl) fun _ => rfl)⟩
  | startBitHeard => exact ⟨_, rfl, liveCalm (same (by simp) (by simp [State.beside]))⟩

/-- What a step may do to the boards: what its command may do, or a calm millisecond. -/
theorem step_boardEvent {s t : State} (h : step s = .next t) :
    ∃ u : State, u.table = s.table ∧ u.beside = s.beside ∧ BoardEvent u t := by
  unfold step at h
  split at h
  · cases h
    exact ⟨s, rfl, rfl, .acts s.calm_idleMs.acts⟩
  next c rest _ =>
    obtain ⟨u, hu, hev⟩ := exec_boardEvent c { s with pending := rest }
    cases hu.symm.trans h
    exact ⟨{ s with pending := rest }, rfl, rfl, hev⟩

end Sys2Proof.Machine

end

section

namespace Sys2Proof.Machine

/-! ## How often a serial is recorded (R5) -/

/-- Whether a place holds a serial, as a number. -/
def recordedAt (o : Option Record) (sn : Serial) : Nat := if o.bind (·.trav.serial) = some sn then 1 else 0

@[simp] theorem recordedAt_none (sn : Serial) : recordedAt none sn = 0 := rfl

theorem recordedAt_le_of_serial {o u : Option Record} (sn : Serial)
    (h : ∀ r, o = some r → r.trav.serial = none ∨ ∃ q, u = some q ∧ r.trav.serial = q.trav.serial) :
    recordedAt o sn ≤ recordedAt u sn := by
  cases o with
  | none => simp
  | some r =>
    rcases h r rfl with hn | ⟨q, rfl, he⟩
    · simp [recordedAt, hn]
    · simp [recordedAt, he]

/-- How often a table holds a serial. -/
def tableCount (t : PerPos (Option Record)) (sn : Serial) : Nat := (positions.map fun p => recordedAt (t.get p) sn).sum

/-- One place of the table changed: what stood there is no longer counted, and what stands there is. -/
theorem tableCount_put (t : PerPos (Option Record)) (p : Position) (o : Option Record) (sn : Serial) :
    tableCount (t.put p o) sn + recordedAt (t.get p) sn = tableCount t sn + recordedAt o sn := by
  cases p <;> simp [tableCount, positions, PerPos.put, PerPos.get] <;> omega

theorem tableCount_mono {t u : PerPos (Option Record)} {sn : Serial}
    (h : ∀ p, recordedAt (u.get p) sn ≤ recordedAt (t.get p) sn) : tableCount u sn ≤ tableCount t sn :=
  List.sum_le_sum fun p _ => h p

/-- How often a serial is recorded in the board table, the arrival list and the hold list together. -/
def State.recorded (s : State) (sn : Serial) : Nat :=
  tableCount s.table sn + s.arrivalSerials.count sn + s.heldSerials.count sn

theorem State.count_tableSerials (s : State) (sn : Serial) : s.tableSerials.count sn = tableCount s.table sn := by
  have h (o : Option Record) (l : List (Option Record)) :
      ((o :: l).filterMap fun o => o.bind fun r => r.trav.serial).count sn =
        recordedAt o sn + (l.filterMap fun o => o.bind fun r => r.trav.serial).count sn := by
    unfold recordedAt
    cases hs : o.bind fun r => r.trav.serial with
    | none => simp [hs]
    | some x => simp [hs, List.count_cons, Nat.add_comm]
  simp only [tableSerials, PerPos.toList, positions, List.map_cons, List.map_nil, h, tableCount, List.sum_cons,
    List.filterMap_nil, List.count_nil, List.sum_nil]

/-- The law of R5: no serial is recorded more than once. -/
theorem State.serialLaw_iff (s : State) : s.serialLaw ↔ ∀ sn, s.recorded sn ≤ 1 := by
  simp [serialLaw, List.nodup_iff_count_le_one, recorded, State.count_tableSerials, Nat.add_assoc]

/-- A serial that stands nowhere in the table or on the hold list. -/
theorem State.recorded_of_not_serialStands {s : State} {sn : Serial} (h : s.serialStands sn = false) :
    tableCount s.table sn = 0 ∧ s.heldSerials.count sn = 0 := by
  simp only [serialStands, Bool.or_eq_false_iff, List.any_eq_false] at h
  obtain ⟨ht, hh⟩ := h
  refine ⟨?_, List.count_eq_zero.2 fun hm => ?_⟩
  · rw [← State.count_tableSerials, List.count_eq_zero]
    intro hm
    obtain ⟨o, ho, hs⟩ := List.mem_filterMap.1 hm
    obtain ⟨r, rfl, hr⟩ := Option.bind_eq_some_iff.1 hs
    exact ht _ ho (by simp [hr])
  · obtain ⟨e, he, hs⟩ := List.mem_filterMap.1 hm
    exact hh e he (by simp [hs])

theorem State.heldSerials_eq (s : State) :
    s.heldSerials = (s.holds.list.map fun e => (e.rack, e.serial)).filterMap Prod.snd := by
  simp [heldSerials, List.filterMap_map]

/-! ## The acts -/

theorem Calm.recorded_le {s t : State} (h : Calm s t) (sn : Serial) : t.recorded sn ≤ s.recorded sn := by
  have htable : tableCount t.table sn ≤ tableCount s.table sn := tableCount_mono fun p =>
    recordedAt_le_of_serial sn fun q hq => by
      obtain ⟨r, hr, hb⟩ := h.table p q hq
      exact .inr ⟨r, hr, hb.serial⟩
  have harr := h.arrivals.count_le sn
  have hheld : t.heldSerials.count sn ≤ s.heldSerials.count sn := by
    rw [State.heldSerials_eq, State.heldSerials_eq]
    exact (h.holds.filterMap _).count_le sn
  unfold State.recorded
  omega

/-- An event that leaves the arrival list and the hold list, and records no more at any place. -/
theorem State.recorded_le_of_table {s t : State} (ha : t.tracker.arrivals = s.tracker.arrivals) (hh : t.holds.list = s.holds.list)
    (sn : Serial) (ht : tableCount t.table sn ≤ tableCount s.table sn) : t.recorded sn ≤ s.recorded sn := by
  simp only [recorded, arrivalSerials, heldSerials, ha, hh]
  omega

theorem State.makeStranded_table (s : State) (p : Position) :
    ∃ r, (s.makeStranded p).table = s.table.put p (some r) ∧ r.trav.serial = none ∧ r.handoff = none ∧
      r.diversion = (if p = .exit then some .waitingRack else none) := by
  unfold State.makeStranded
  dsimp only
  refine ⟨if p = .exit then { Record.strandedRecord with diversion := some .waitingRack } else Record.strandedRecord, ?_⟩
  refine ⟨by split <;> rfl, ?_⟩
  split <;> exact ⟨rfl, rfl, rfl⟩

theorem State.recorded_makeStranded_le (s : State) (p : Position) (sn : Serial) :
    (s.makeStranded p).recorded sn ≤ s.recorded sn := by
  obtain ⟨r, ht, hr, -⟩ := s.makeStranded_table p
  refine State.recorded_le_of_table (by simp) (by simp) sn ?_
  have := tableCount_put s.table p (some r) sn
  rw [ht]
  simp only [recordedAt, Option.bind_some, hr] at this
  simp at this
  omega

/-- A function that keeps the serial of the record at EXIT. -/
theorem State.recorded_atExit_le {s t : State} {f : Record → Record} (ht : t.table = s.table.put .exit (s.table.exit.map f))
    (ha : t.tracker.arrivals = s.tracker.arrivals) (hh : t.holds.list = s.holds.list)
    (hf : ∀ r, (f r).trav.serial = r.trav.serial) (sn : Serial) : t.recorded sn ≤ s.recorded sn := by
  refine State.recorded_le_of_table ha hh sn ?_
  have hput := tableCount_put s.table .exit (s.table.exit.map f) sn
  have hle : recordedAt (s.table.exit.map f) sn ≤ recordedAt (s.table.get .exit) sn := by
    refine recordedAt_le_of_serial sn fun r hr => ?_
    obtain ⟨q, hq, rfl⟩ := Option.map_eq_some_iff.1 hr
    exact .inr ⟨q, hq, hf q⟩
  rw [ht]
  omega

theorem State.recorded_tryDiversion_le (s : State) (sn : Serial) : s.tryDiversion.recorded sn ≤ s.recorded sn := by
  unfold State.tryDiversion
  split
  · split
    next t _ =>
      exact State.recorded_atExit_le (f := fun r => { r with diversion := some (.diverting t) }) (by rfl) (by rfl) (by rfl)
        (fun _ => rfl) sn
    · exact le_rfl
  · exact le_rfl

theorem State.recorded_handForDiversion_le (s : State) (sn : Serial) : s.handForDiversion.recorded sn ≤ s.recorded sn :=
  State.recorded_atExit_le (f := fun r => { r with handoff := none, diversion := some .waitingRack }) (by rfl) (by rfl)
    (by rfl) (fun _ => rfl) sn

/-- A diverted board's serial goes from the table to the hold list. -/
theorem State.recorded_rack_le (s : State) {r : Record} (hr : s.table.exit = some r) (t : Fin 8) (sn : Serial) :
    ((s.leave .exit).appendHold (heldEntry t r.trav s.seconds)).recorded sn ≤ s.recorded sn := by
  have hheld : ((s.leave .exit).appendHold (heldEntry t r.trav s.seconds)).heldSerials.count sn =
      s.heldSerials.count sn + recordedAt (some r) sn := by
    unfold recordedAt
    cases hs : r.trav.serial with
    | none => simp [State.heldSerials, State.appendHold, heldEntry, hs]
    | some x => simp [State.heldSerials, State.appendHold, heldEntry, hs, List.count_cons]
  have hput := tableCount_put s.table .exit none sn
  have htab : (s.leave .exit).table = s.table.put .exit none := by
    rw [s.leave_eq (p := .exit) hr (by decide)]
  have harr : ((s.leave .exit).appendHold (heldEntry t r.trav s.seconds)).arrivalSerials = s.arrivalSerials := by
    simp [State.arrivalSerials, State.appendHold]
  have hget : s.table.get .exit = some r := hr
  rw [hget] at hput
  simp only [State.recorded, hheld, harr]
  show tableCount (s.leave .exit).table sn + _ + _ ≤ _
  rw [htab]
  simp at hput
  omega

theorem State.recorded_rackStray (s : State) (t : Fin 8) (sn : Serial) :
    (s.appendHold (strandedEntry t s.seconds)).recorded sn = s.recorded sn := by
  simp [State.recorded, State.arrivalSerials, State.heldSerials, State.appendHold, strandedEntry]

/-- A new arrival entry records its serial once more. -/
theorem State.recorded_appendArrival (s : State) (t : Telegram) (sn : Serial) :
    (s.appendArrival t).recorded sn = s.recorded sn + if (offerTraveller t.payload).serial = some sn then 1 else 0 := by
  have harr : (s.appendArrival t).arrivalSerials.count sn =
      s.arrivalSerials.count sn + if (offerTraveller t.payload).serial = some sn then 1 else 0 := by
    cases hs : (offerTraveller t.payload).serial with
    | none => simp [State.arrivalSerials, State.appendArrival, hs]
    | some x => simp [State.arrivalSerials, State.appendArrival, hs, List.count_cons]
  have htable : (s.appendArrival t).table = s.table := rfl
  have hheld : (s.appendArrival t).heldSerials = s.heldSerials := rfl
  simp only [State.recorded, harr, htable, hheld]
  omega

theorem State.applyFilters_serial (s : State) (r : Record) : (s.applyFilters r).trav.serial = r.trav.serial := by
  simp only [State.applyFilters, Record.addReasonIf]
  split <;> rfl

/-- The duplicate check leaves a record's serial, or takes it away where it is recorded already (R40). -/
theorem State.duplicateCheck_serial (s : State) (others : List ArrivalEntry) (r : Record) :
    (s.duplicateCheck others r).trav.serial = none ∨
      (s.duplicateCheck others r).trav.serial = r.trav.serial ∧ ∀ sn, r.trav.serial = some sn → s.serialStands sn = false := by
  unfold State.duplicateCheck
  split
  next h => exact .inr ⟨rfl, fun sn e => by simp [h] at e⟩
  next sn h =>
    split
    · exact .inl rfl
    next hn =>
      refine .inr ⟨rfl, fun x e => ?_⟩
      cases h.symm.trans e
      simp only [Bool.or_eq_true, not_or, Bool.not_eq_true] at hn
      exact hn.1

theorem matchedRecord_serial (e : ArrivalEntry) (m : Option Serial) : (matchedRecord e m).trav.serial = e.trav.serial := by
  cases m <;> rfl

/-- A record put at ENTRY records no more than its own serial besides what stood in the state. -/
theorem State.recorded_putRecord_le (s : State) (p : Position) (r : Record) (sn : Serial) :
    (s.putRecord p r).recorded sn ≤ s.recorded sn + recordedAt (some r) sn := by
  have := tableCount_put s.table p (some r) sn
  simp only [State.recorded, State.putRecord, State.arrivalSerials, State.heldSerials]
  omega

/-- A match takes the serial of its arrival entry to the record at ENTRY. -/
theorem State.recorded_completeMatch_le (s : State) {e : ArrivalEntry} {others : List ArrivalEntry} (m : Option Serial)
    (h : (e :: others).Sublist s.tracker.arrivals) (sn : Serial) : (s.completeMatch e others m).recorded sn ≤ s.recorded sn := by
  let r := s.applyFilters (s.duplicateCheck others (matchedRecord e m))
  let s0 : State := { s with tracker := { s.tracker with arrivals := others, arrival := none } }
  have hpost : (s.completeMatch e others m).recorded sn ≤ (s0.putRecord .entry r).recorded sn :=
    (State.calm_post _ _ _ _).recorded_le sn
  have hput := State.recorded_putRecord_le s0 .entry r sn
  have hr : recordedAt (some r) sn ≤ if e.trav.serial = some sn then 1 else 0 := by
    have hs : r.trav.serial = (s.duplicateCheck others (matchedRecord e m)).trav.serial := s.applyFilters_serial _
    rcases s.duplicateCheck_serial others (matchedRecord e m) with hn | ⟨he, -⟩
    · simp [recordedAt, hs, hn]
    · simp [recordedAt, hs, he, matchedRecord_serial]
  have harr : (others.filterMap (·.trav.serial)).count sn + (if e.trav.serial = some sn then 1 else 0) ≤
      s.arrivalSerials.count sn := by
    have hsub := (h.filterMap fun e : ArrivalEntry => e.trav.serial).count_le sn
    unfold State.arrivalSerials
    cases hs : e.trav.serial with
    | none => simpa [List.filterMap_cons, hs] using hsub
    | some x => simpa [List.filterMap_cons, hs, List.count_cons] using hsub
  have h0 : s0.recorded sn = tableCount s.table sn + (others.filterMap (·.trav.serial)).count sn + s.heldSerials.count sn := rfl
  unfold State.recorded at *
  omega

/-- The record of a board without a traveller records a serial that stood nowhere. -/
theorem State.recorded_orphanRecord (s : State) {o : ReadOutcome} (ha : s.tracker.arrivals = []) (sn : Serial) :
    (s.orphanRecord o).recorded sn ≤ s.recorded sn ∨ (s.orphanRecord o).recorded sn ≤ 1 := by
  let r0 := (Record.fresh (orphanTraveller o) .notDue).addReasonIf (s.cfg.upstream != 0) .noTraveller
  let r := s.applyFilters (s.duplicateCheck s.tracker.arrivals r0)
  have hput : (s.orphanRecord o).recorded sn ≤ s.recorded sn + recordedAt (some r) sn :=
    State.recorded_putRecord_le { s with tracker := { s.tracker with arrival := none } } .entry r sn
  have hs : r.trav.serial = (s.duplicateCheck s.tracker.arrivals r0).trav.serial := s.applyFilters_serial _
  by_cases hsn : r.trav.serial = some sn
  · right
    rcases s.duplicateCheck_serial s.tracker.arrivals r0 with hn | ⟨he, hfree⟩
    · simp [hs, hn] at hsn
    · obtain ⟨ht, hh⟩ := State.recorded_of_not_serialStands (hfree sn (by rw [← he, ← hs]; exact hsn))
      have hone : recordedAt (some r) sn ≤ 1 := by unfold recordedAt; split <;> omega
      have h0 : s.recorded sn = 0 := by simp [State.recorded, State.arrivalSerials, ha, ht, hh]
      omega
  · left
    simpa [recordedAt, hsn] using hput

/-- A carried record takes its serial along. -/
theorem State.recorded_carryOver_le (s : State) (m : ConvMove) (sn : Serial) : (s.carryOver m).recorded sn ≤ s.recorded sn := by
  refine State.recorded_le_of_table (by rfl) (by rfl) sn ?_
  have h1 := tableCount_put s.table (moveDest m) (s.table.get (moveSource m)) sn
  have h2 := tableCount_put (s.table.put (moveDest m) (s.table.get (moveSource m))) (moveSource m) none sn
  rw [PerPos.get_put_of_ne _ (by cases m <;> decide)] at h2
  simp at h2
  show tableCount ((s.table.put (moveDest m) (s.table.get (moveSource m))).put (moveSource m) none) sn ≤ _
  omega

/-- Each act keeps the law of R5. -/
theorem Act.serialLaw {s t : State} (h : Act s t) (hs : s.serialLaw) : t.serialLaw := by
  rw [State.serialLaw_iff] at hs ⊢
  intro sn
  have hle : t.recorded sn ≤ s.recorded sn ∨ t.recorded sn ≤ 1 := by
    cases h with
    | calm h => exact .inl (h.recorded_le sn)
    | strand p _ => exact .inl (s.recorded_makeStranded_le p sn)
    | divert => exact .inl (s.recorded_tryDiversion_le sn)
    | hand => exact .inl (s.recorded_handForDiversion_le sn)
    | rack r t hr _ => exact .inl (s.recorded_rack_le hr t sn)
    | rackStray t _ _ => exact .inl (s.recorded_rackStray t sn).le
    | arrive t hfree =>
      rw [s.recorded_appendArrival]
      split
      next e =>
        obtain ⟨hst, harr⟩ := hfree sn e
        obtain ⟨ht, hh⟩ := State.recorded_of_not_serialStands hst
        have ha : s.arrivalSerials.count sn = 0 := List.count_eq_zero.2 fun hm => by
          obtain ⟨x, hx, hxs⟩ := List.mem_filterMap.1 hm
          exact harr x hx hxs
        right
        simp [State.recorded, ht, hh, ha]
      · exact .inl le_rfl
    | meet e others m hsub => exact .inl (s.recorded_completeMatch_le m hsub sn)
    | orphan o ha => exact s.recorded_orphanRecord ha sn
    | carry m _ => exact .inl (s.recorded_carryOver_le m sn)
    | carryToSpray => exact .inl (((State.calm_candidateAtSpray _).recorded_le sn).trans (s.recorded_carryOver_le _ sn))
  have := hs sn
  omega

theorem Acts.serialLaw {s t : State} (h : Acts s t) (hs : s.serialLaw) : t.serialLaw := by
  induction h with
  | refl => exact hs
  | tail _ ha ih => exact ha.serialLaw ih

end Sys2Proof.Machine

end

section

namespace Sys2Proof.Machine

/-! ## The laws about EXIT under each act (R7, R29, R68, R165, R168) -/

/-- The target is the one that the record at EXIT is diverted to. -/
theorem State.target_eq_some {s : State} {t : Fin 8} :
    s.target = some t ↔ ∃ r, s.table.exit = some r ∧ r.diversion = some (.diverting t) := by
  unfold State.target
  cases s.table.exit with
  | none => simp
  | some r => rcases hd : r.diversion with _ | _ | _ <;> simp [hd]

theorem State.target_of_exit {s t : State} (h : t.table.exit = s.table.exit) : t.target = s.target := by
  unfold State.target
  rw [h]

section
variable {s : State} (hs : s.exitLaw)
include hs

theorem State.exitLaw.unoffered (p : Position) (r : Record) (hp : p ≠ .exit) (hr : s.table.get p = some r) :
    r.handoff = none ∧ r.diversion = none := by
  obtain ⟨-, ⟨hplace, -⟩, -, -⟩ := hs
  exact hplace p r hp hr

theorem State.exitLaw.candLaw : s.candLaw := by
  obtain ⟨-, ⟨-, hcand⟩, -, -⟩ := hs
  exact hcand

theorem State.exitLaw.racks_nodup : (s.holds.list.map (·.rack)).Nodup := by
  obtain ⟨-, -, ⟨hnd, -⟩, -⟩ := hs
  exact hnd

theorem State.exitLaw.target_free (t : Fin 8) (ht : s.target = some t) : ∀ e ∈ s.holds.list, e.rack ≠ t := by
  obtain ⟨-, -, ⟨-, hfree⟩, -⟩ := hs
  exact hfree t ht

end

/-- An event that leaves EXIT, the hold list, the cell state and the tunnel's phase. -/
theorem State.exitLaw.inside {s t : State} (hs : s.exitLaw) (hx : t.table.exit = s.table.exit) (hh : t.holds.list = s.holds.list)
    (hc : t.cell = s.cell) (hp : t.tunnel.phase = s.tunnel.phase)
    (hq : ∀ p r, p ≠ .exit → t.table.get p = some r → r.handoff = none ∧ r.diversion = none) (hm : t.candLaw) : t.exitLaw := by
  obtain ⟨hstart, -, ⟨hnd, htgt⟩, hoff⟩ := hs
  refine ⟨fun h => ?_, ⟨hq, hm⟩, ⟨by rwa [hh], ?_⟩, fun r n w hr => hoff r n w (hx ▸ hr)⟩
  · rw [hx, hp]
    exact hstart (hc ▸ h)
  · rw [State.target_of_exit hx, hh]
    exact htgt

/-- An event that changes what stands at EXIT. -/
theorem State.exitLaw.at_exit {s t : State} {o : Option Record} (hs : s.exitLaw) (ht : t.table = s.table.put .exit o)
    (hm : t.candLaw) (hstart : t.startLaw) (hrack : t.rackLaw)
    (hoff : ∀ r n w, o = some r → r.handoff = some (.offered n w) → r.clean = true ∧ r.diversion = none) : t.exitLaw := by
  obtain ⟨-, ⟨hplace, -⟩, -, -⟩ := hs
  refine ⟨hstart, ⟨fun p r hp hr => ?_, hm⟩, hrack, fun r n w hr => hoff r n w ?_⟩
  · rw [ht, PerPos.get_put_of_ne _ hp] at hr
    exact hplace p r hp hr
  · rw [← hr, ht]; rfl

theorem State.startLaw.of_map {s t : State} {f : Record → Record} (hs : s.startLaw)
    (ht : t.table = s.table.put .exit (s.table.exit.map f)) (hc : t.cell = s.cell) (hp : t.tunnel.phase = s.tunnel.phase) :
    t.startLaw := fun h => by
  obtain ⟨he, hph⟩ := hs (hc ▸ h)
  rw [hp, ht, he]
  exact ⟨rfl, hph⟩

theorem Calm.exitLaw {s t : State} (h : Calm s t) (hs : s.exitLaw) : t.exitLaw := by
  obtain ⟨hstart, ⟨hplace, hcand⟩, ⟨hnd, htgt⟩, hoff⟩ := hs
  refine ⟨fun hc => ⟨?_, fun hp => ?_⟩, ⟨fun p q hp hq => ?_, h.candLaw hcand⟩, ⟨?_, fun x hx e he => ?_⟩, fun q n w hq ho => ?_⟩
  · exact (h.cell hc).elim (fun e => h.free (p := .exit) (hstart e).1) id
  · obtain ⟨he, hi⟩ := h.phase hc hp
    exact (hstart he).2 hi
  · obtain ⟨r, hr, hb⟩ := h.table p q hq
    obtain ⟨hh, hd⟩ := hplace p r hp hr
    exact ⟨hb.handoff hh, hb.diversion.trans hd⟩
  · have hrack (u : State) : u.holds.list.map (·.rack) = (u.holds.list.map fun e => (e.rack, e.serial)).map Prod.fst := by
      rw [List.map_map]; rfl
    rw [hrack] at hnd ⊢
    exact (h.holds.map Prod.fst).nodup hnd
  · obtain ⟨q, hq, hd⟩ := State.target_eq_some.1 hx
    obtain ⟨r, hr, hb⟩ := h.table .exit q hq
    obtain ⟨e', he', heq⟩ := List.mem_map.1 (h.holds.subset (List.mem_map_of_mem (f := fun e => (e.rack, e.serial)) he))
    have := htgt x (State.target_eq_some.2 ⟨r, hr, hb.diversion.symm.trans hd⟩) e' he'
    simp only [Prod.mk.injEq] at heq
    rwa [← heq.1]
  · obtain ⟨r, hr, hb⟩ := h.table .exit q hq
    obtain ⟨⟨m, v, hrh⟩, hcl⟩ := hb.offered ⟨hcand, rfl⟩ n w ho
    obtain ⟨hc, hd⟩ := hoff r m v hr hrh
    exact ⟨hcl hc, hb.diversion.trans hd⟩

theorem State.candLaw_makeStranded {s : State} (h : s.candLaw) (p : Position) : (s.makeStranded p).candLaw := by
  intro a ha
  unfold State.makeStranded at ha
  dsimp only at ha
  split at ha
  · cases ha; exact .inr rfl
  · exact h a ha

theorem State.exitLaw_makeStranded {s : State} (hs : s.exitLaw) {p : Position} (hp : p = .exit → s.cell ≠ .start) :
    (s.makeStranded p).exitLaw := by
  obtain ⟨r, ht, -, hh, hd⟩ := s.makeStranded_table p
  have hcand := State.candLaw_makeStranded hs.candLaw p
  by_cases he : p = .exit
  · subst he
    rw [if_pos rfl] at hd
    refine State.exitLaw.at_exit hs ht hcand (fun h => absurd (by simpa using h) (hp rfl)) ⟨?_, fun x hx => ?_⟩
      fun q n w hq ho => ?_
    · simpa using hs.racks_nodup
    · obtain ⟨q, hq, hqd⟩ := State.target_eq_some.1 hx
      rw [ht] at hq
      cases hq
      rw [hd] at hqd
      cases hqd
    · cases hq
      rw [hh] at ho
      cases ho
  · rw [if_neg he] at hd
    refine State.exitLaw.inside hs ?_ (by simp) (by simp) (by simp) (fun a q ha hq => ?_) hcand
    · rw [ht]
      exact PerPos.get_put_of_ne _ (Ne.symm he) _
    · rw [ht, PerPos.get_put] at hq
      split at hq
      · cases hq
        exact ⟨hh, hd⟩
      · exact hs.unoffered a q ha hq

theorem State.exitLaw_tryDiversion {s : State} (hs : s.exitLaw) : s.tryDiversion.exitLaw := by
  obtain ⟨hstart, hplace, ⟨hnd, -⟩, hoff⟩ := id hs
  unfold State.tryDiversion
  split
  next hw =>
    split
    next t ht =>
      refine State.exitLaw.at_exit (o := s.table.exit.map fun r => { r with diversion := some (.diverting t) }) hs rfl hplace.2
        (hstart.of_map rfl rfl rfl) ⟨hnd, fun x hx e he => ?_⟩ fun q n w hq ho => ?_
      · obtain ⟨q, hq, hqd⟩ := State.target_eq_some.1 hx
        obtain ⟨r, hr, rfl⟩ := Option.map_eq_some_iff.1 hq
        cases hqd
        have hfree : s.rackFree t = true := List.find?_some ht
        simp only [State.rackFree, Bool.and_eq_true, List.all_eq_true, bne_iff_ne] at hfree
        exact hfree.1 e he
      · obtain ⟨r, hr, rfl⟩ := Option.map_eq_some_iff.1 hq
        obtain ⟨-, hd⟩ := hoff r n w hr ho
        simp [State.waitsForRack, hr, hd] at hw
    · exact hs
  · exact hs

theorem State.exitLaw_handForDiversion {s : State} (hs : s.exitLaw) : s.handForDiversion.exitLaw := by
  obtain ⟨hstart, hplace, ⟨hnd, -⟩, -⟩ := id hs
  refine State.exitLaw.at_exit (o := s.table.exit.map fun r => { r with handoff := none, diversion := some .waitingRack }) hs rfl
    hplace.2 (hstart.of_map rfl rfl rfl) ⟨hnd, fun x hx => ?_⟩ fun q n w hq ho => ?_
  · obtain ⟨q, hq, hqd⟩ := State.target_eq_some.1 hx
    obtain ⟨r, -, rfl⟩ := Option.map_eq_some_iff.1 hq
    cases hqd
  · obtain ⟨r, -, rfl⟩ := Option.map_eq_some_iff.1 hq
    cases ho

theorem State.exitLaw_appendHold {s : State} (hs : s.exitLaw) {e : HoldEntry} (hnew : ∀ h ∈ s.holds.list, h.rack ≠ e.rack)
    (ht : s.target ≠ some e.rack) : (s.appendHold e).exitLaw := by
  obtain ⟨hstart, hplace, ⟨hnd, htgt⟩, hoff⟩ := hs
  refine ⟨hstart, hplace, ⟨?_, fun x hx h hh => ?_⟩, hoff⟩
  · show ((s.holds.list ++ [e]).map (·.rack)).Nodup
    rw [List.map_append, List.nodup_append]
    refine ⟨hnd, by simp, fun a ha b hb => ?_⟩
    obtain ⟨h, hh, rfl⟩ := List.mem_map.1 ha
    simp only [List.map_cons, List.map_nil, List.mem_singleton] at hb
    exact hb ▸ hnew h hh
  · have hx' : s.target = some x := hx
    rcases List.mem_append.1 hh with hm | hm
    · exact htgt x hx' h hm
    · rw [List.mem_singleton.1 hm]
      rintro rfl
      exact ht hx'

/-- A diverted board leaves EXIT for the rack position it was for. -/
theorem State.exitLaw_rack {s : State} (hs : s.exitLaw) {r : Record} {t : Fin 8} (hr : s.table.exit = some r)
    (ht : s.target = some t) : ((s.leave .exit).appendHold (heldEntry t r.trav s.seconds)).exitLaw := by
  have hfree : (s.leave .exit).table.exit = none := by rw [s.leave_eq (p := .exit) hr (by decide)]; rfl
  refine State.exitLaw_appendHold ((s.calm_leave .exit).exitLaw hs) ?_ ?_
  · rw [show (s.leave .exit).holds = s.holds by simp]
    exact hs.target_free t ht
  · intro h
    obtain ⟨q, hq, -⟩ := State.target_eq_some.1 h
    rw [hfree] at hq
    cases hq

/-- A record without handoff and diversion state put inside the cell. -/
theorem State.exitLaw_putRecord {s : State} (hs : s.exitLaw) {p : Position} {r : Record} (hp : p ≠ .exit)
    (hh : r.handoff = none) (hd : r.diversion = none) : (s.putRecord p r).exitLaw := by
  refine State.exitLaw.inside hs (PerPos.get_put_of_ne _ (Ne.symm hp) _) rfl rfl rfl (fun a q ha hq => ?_) hs.candLaw
  change (s.table.put p (some r)).get a = some q at hq
  rw [PerPos.get_put] at hq
  split at hq
  · cases hq
    exact ⟨hh, hd⟩
  · exact hs.unoffered a q ha hq

theorem State.applyFilters_badge (s : State) (r : Record) : (s.applyFilters r).badge = r.badge := Record.badge_addReasonIf _ _ _

/-- The checks of a record made at ENTRY give it no handoff or diversion state. -/
theorem State.checked_unoffered (s u : State) (others : List ArrivalEntry) {r : Record} (hh : r.handoff = none)
    (hd : r.diversion = none) :
    (s.applyFilters (u.duplicateCheck others r)).handoff = none ∧
      (s.applyFilters (u.duplicateCheck others r)).diversion = none := by
  have h := s.applyFilters_badge (u.duplicateCheck others r)
  rw [Record.handoff_of_badge h, Record.diversion_of_badge h]
  unfold State.duplicateCheck
  split
  · exact ⟨hh, hd⟩
  · split <;> exact ⟨hh, hd⟩

theorem State.exitLaw_completeMatch {s : State} (hs : s.exitLaw) (e : ArrivalEntry) (others : List ArrivalEntry)
    (m : Option Serial) : (s.completeMatch e others m).exitLaw := by
  have hfresh : (matchedRecord e m).handoff = none ∧ (matchedRecord e m).diversion = none := by cases m <;> exact ⟨rfl, rfl⟩
  obtain ⟨hh, hd⟩ := s.checked_unoffered s others hfresh.1 hfresh.2
  refine (State.calm_post _ _ _ _).exitLaw (State.exitLaw_putRecord ?_ (by decide) hh hd)
  exact hs

theorem State.exitLaw_orphanRecord {s : State} (hs : s.exitLaw) (o : ReadOutcome) : (s.orphanRecord o).exitLaw := by
  obtain ⟨hh, hd⟩ := s.checked_unoffered s s.tracker.arrivals
    (r := (Record.fresh (orphanTraveller o) .notDue).addReasonIf (s.cfg.upstream != 0) .noTraveller)
    (by unfold Record.addReasonIf; split <;> rfl) (by unfold Record.addReasonIf; split <;> rfl)
  refine State.exitLaw_putRecord ?_ (by decide) hh hd
  exact hs

/-- The records inside the cell after a carried move. -/
theorem State.carryOver_unoffered {s : State} (hs : s.exitLaw) (m : ConvMove) (p : Position) (r : Record) (hp : p ≠ .exit)
    (hr : (s.carryOver m).table.get p = some r) : r.handoff = none ∧ r.diversion = none := by
  change ((s.table.put (moveDest m) (s.table.get (moveSource m))).put (moveSource m) none).get p = some r at hr
  rw [PerPos.get_put] at hr
  split at hr
  · cases hr
  rw [PerPos.get_put] at hr
  split at hr
  · exact hs.unoffered _ r (by cases m <;> decide) hr
  · exact hs.unoffered p r hp hr

theorem State.carryOver_exit (s : State) (m : ConvMove) : (s.carryOver m).table.exit = s.table.exit := by
  show ((s.table.put (moveDest m) (s.table.get (moveSource m))).put (moveSource m) none).get .exit = s.table.get .exit
  rw [PerPos.get_put_of_ne _ (by cases m <;> decide), PerPos.get_put_of_ne _ (by cases m <;> decide)]

theorem State.exitLaw_carryOver {s : State} (hs : s.exitLaw) {m : ConvMove} (hm : m ≠ .toSpray) : (s.carryOver m).exitLaw := by
  refine State.exitLaw.inside hs (s.carryOver_exit m) rfl rfl rfl (fun p r => State.carryOver_unoffered hs m p r) fun p hp => ?_
  simp only [State.carryOver] at hp
  split at hp
  next hc =>
    cases hp
    cases m with
    | toTransport => exact .inr rfl
    | toSpray => exact absurd rfl hm
    | toGate => simpa [moveSource] using hs.candLaw _ hc
  · exact hs.candLaw p hp

/-- The candidate that reaches SPRAY is one no longer. -/
theorem State.exitLaw_carryToSpray {s : State} (hs : s.exitLaw) : (s.carryOver .toSpray).candidateAtSpray.exitLaw := by
  have hx := s.carryOver_exit .toSpray
  have hin := State.carryOver_unoffered hs .toSpray
  unfold State.candidateAtSpray
  split
  · refine State.exitLaw.inside hs hx rfl rfl rfl (fun p r hp hr => ?_) fun p hp => by cases hp
    by_cases h : p = .spray
    · subst h
      obtain ⟨q, hq, rfl⟩ := Option.map_eq_some_iff.1 hr
      have hb := State.badge_closeAtSpray q (s.carryOver .toSpray)
      rw [Record.handoff_of_badge hb, Record.diversion_of_badge hb]
      exact hin .spray q hp hq
    · refine hin p r hp ?_
      rw [← hr]
      exact (PerPos.get_put_of_ne (s.carryOver .toSpray).table h _).symm
  next hn =>
    refine State.exitLaw.inside hs hx rfl rfl rfl hin fun p hp => ?_
    simp only [State.carryOver] at hp hn
    split at hp
    next hc => exact absurd (by rw [if_pos hc]; rfl) hn
    · exact hs.candLaw p hp

/-- Each act keeps the laws about EXIT. -/
theorem Act.exitLaw {s t : State} (h : Act s t) (hs : s.exitLaw) : t.exitLaw := by
  cases h with
  | calm h => exact h.exitLaw hs
  | strand p hp => exact State.exitLaw_makeStranded hs hp
  | divert => exact State.exitLaw_tryDiversion hs
  | hand => exact State.exitLaw_handForDiversion hs
  | rack r t hr ht => exact State.exitLaw_rack hs hr ht
  | rackStray t he ht =>
    refine State.exitLaw_appendHold hs (fun e hm hrack => ?_) ht
    have := List.find?_eq_none.1 he e hm
    simp [strandedEntry] at hrack
    simp [hrack] at this
  | arrive t _ => exact hs
  | meet e others m _ => exact State.exitLaw_completeMatch hs e others m
  | orphan o _ => exact State.exitLaw_orphanRecord hs o
  | carry m hm => exact State.exitLaw_carryOver hs hm
  | carryToSpray => exact State.exitLaw_carryToSpray hs

theorem Acts.exitLaw {s t : State} (h : Acts s t) (hs : s.exitLaw) : t.exitLaw := by
  induction h with
  | refl => exact hs
  | tail _ ha ih => exact ha.exitLaw ih

end Sys2Proof.Machine

end

section

namespace Sys2Proof.Machine

/-! ## The clear-out scan (R21, R187) -/

section
variable {s : State}

theorem State.acts_strandFold (ps : List Position) (hs : s.cell ≠ .start) :
    Acts s (ps.foldl (fun t p => if t.occupied p then t.makeStranded p else t) s) := by
  induction ps generalizing s with
  | nil => exact .refl
  | cons p ps ih =>
    rw [List.foldl_cons]
    split
    · exact .head (.strand p fun _ => hs) (ih (by simpa using hs))
    · exact ih hs

/-- The scan up to the rebuilding of the hold list. -/
theorem State.acts_scanTable (s : State) : Acts s { s with cell := .clearOut }.scanTable :=
  .head (.calm (t := { s with cell := .clearOut }) (.of_cell rfl rfl rfl rfl (by simp) (by simp)))
    (State.acts_strandFold _ (by simp))

theorem State.calm_scanTunnel (s : State) : Calm s s.scanTunnel := .of_cell rfl rfl rfl rfl id (by simp [State.scanTunnel])

/-- The scan's hold list: one STRANDED entry for each occupied rack position. -/
@[simp] theorem State.scanRack_list (s : State) :
    s.scanRack.holds.list = (rackPositions.filter s.rackOccupied).map fun k => strandedEntry k s.seconds := by
  simp [State.scanRack]

theorem State.serialLaw_scanRack (hs : s.serialLaw) : s.scanRack.serialLaw := by
  rw [State.serialLaw_iff] at hs ⊢
  intro sn
  have hheld : s.scanRack.heldSerials = [] := by simp [State.heldSerials, strandedEntry]
  have ht : s.scanRack.table = s.table := by simp
  have ha : s.scanRack.arrivalSerials = s.arrivalSerials := by simp [State.arrivalSerials]
  have := hs sn
  simp only [State.recorded, hheld, ht, ha, List.count_nil] at this ⊢
  omega

theorem State.exitLaw_scanRack (hs : s.exitLaw) (ht : s.target = none) : s.scanRack.exitLaw := by
  obtain ⟨hstart, hplace, -, hoff⟩ := hs
  have hx : s.scanRack.table = s.table := by simp
  refine ⟨?_, ?_, ⟨?_, fun x hx' => ?_⟩, ?_⟩
  · simpa [State.startLaw] using hstart
  · simpa [State.placeLaw] using hplace
  · rw [State.scanRack_list, List.map_map]
    have : (rackPositions.filter s.rackOccupied).Nodup := List.Nodup.filter _ (by decide)
    simpa [Function.comp_def, strandedEntry] using this
  · rw [State.target_of_exit (congrArg PerPos.exit hx), ht] at hx'
    cases hx'
  · simpa [State.offerLaw] using hoff

/-- A board that the scan finds at EXIT has no target yet. -/
theorem State.target_makeStranded (p : Position) (h : s.target = none) : (s.makeStranded p).target = none := by
  obtain ⟨r, ht, -, -, hd⟩ := s.makeStranded_table p
  unfold State.target
  by_cases hp : p = .exit
  · subst hp
    rw [if_pos rfl] at hd
    simp [ht, PerPos.put, hd]
  · rwa [show (s.makeStranded p).table.exit = s.table.exit by rw [ht]; exact PerPos.get_put_of_ne _ (Ne.symm hp) _]

theorem State.target_scanTable (h : s.target = none) : s.scanTable.target = none := by
  unfold State.scanTable
  generalize positions = ps
  induction ps generalizing s with
  | nil => exact h
  | cons p ps ih =>
    rw [List.foldl_cons]
    split
    · exact ih (State.target_makeStranded p h)
    · exact ih h

theorem State.serialLaw_scan (hs : s.serialLaw) : s.scan.serialLaw :=
  (State.acts_settle _).serialLaw <| (State.calm_scanTunnel _).acts.serialLaw <| State.serialLaw_scanRack <|
    s.acts_scanTable.serialLaw hs

theorem State.exitLaw_scan (hs : s.exitLaw) (hc : s.cell = .start) : s.scan.exitLaw := by
  have ht : State.target { s with cell := .clearOut } = none := by
    simp [State.target, (hs.1 hc).1]
  exact (State.acts_settle _).exitLaw <| (State.calm_scanTunnel _).acts.exitLaw <|
    State.exitLaw_scanRack (s.acts_scanTable.exitLaw hs) (State.target_scanTable ht)

/-! ## The end of an index (R16, R138) -/

/-- The records of the tunnel move on: no serial is recorded more often. -/
theorem State.recorded_shiftTunnel_le (s : State) (sn : Serial) : s.shiftTunnel.recorded sn ≤ s.recorded sn := by
  refine State.recorded_le_of_table (by rfl) (by rfl) sn ?_
  simp only [State.shiftTunnel, tableCount, positions, List.map_cons, List.map_nil, List.sum_cons, List.sum_nil, PerPos.get]
  cases s.tunnel.carriesGate <;> cases s.table.tunnel5 <;> simp

/-- A place put to what stands there. -/
theorem PerPos.put_get {α : Type} (t : PerPos α) (p : Position) : t.put p (t.get p) = t := by cases p <;> rfl

/-- A place that a record leaves is free. -/
theorem State.leave_table (s : State) (p : Position) : (s.leave p).table = s.table.put p none := by
  unfold State.leave
  split
  next h => rw [← h, PerPos.put_get]
  · dsimp only
    repeat' split
    all_goals simp

theorem State.removeLifted_table (s : State) (p : Position) : (s.removeLifted p).table = s.table.put p none := by
  rw [← s.leave_table p]
  unfold State.removeLifted
  split
  next h => simp [State.leave, h]
  · dsimp only
    split <;> simp

/-- A comparison touches the compared place alone. -/
theorem State.comparePosition_get (s : State) {p a : Position} (h : a ≠ p) :
    (s.comparePosition p).table.get a = s.table.get a := by
  unfold State.comparePosition
  repeat' split
  · obtain ⟨r, ht, -⟩ := s.makeStranded_table p
    rw [ht, PerPos.get_put_of_ne _ h]
  · rfl
  · rw [State.removeLifted_table, PerPos.get_put_of_ne _ h]
  · rfl

theorem State.compareFold_get {a : Position} (ps : List Position) (h : a ∉ ps) :
    (ps.foldl State.comparePosition s).table.get a = s.table.get a := by
  induction ps generalizing s with
  | nil => rfl
  | cons p ps ih =>
    rw [List.mem_cons, not_or] at h
    rw [List.foldl_cons, ih h.2, State.comparePosition_get _ h.1]

/-- The comparison of the covered positions before EXIT. -/
def State.comparedInside (s : State) : State :=
  ((if s.tunnel.carriesGate then [Position.gate] else []) ++ slotPositions).foldl State.comparePosition s

theorem State.compareCovered_eq (s : State) : s.compareCovered = s.comparedInside.comparePosition .exit := by
  simp [State.compareCovered, State.comparedInside, coveredPositions, List.foldl_append]

theorem State.comparedInside_exit (s : State) : s.comparedInside.table.exit = s.table.exit :=
  State.compareFold_get (a := .exit) _ (by split <;> decide)

/-- The comparison leaves the record at EXIT, or takes it away. -/
theorem State.compareCovered_exit {r : Record} (h : s.table.exit = some r) :
    s.compareCovered.table.exit = none ∨ s.compareCovered.table.exit = some r := by
  have hx : s.comparedInside.table.exit = some r := s.comparedInside_exit.trans h
  rw [State.compareCovered_eq]
  unfold State.comparePosition
  split
  next hf => simp [State.isFree, PerPos.get, hx] at hf
  split
  · left; rw [State.removeLifted_table]; rfl
  · right; exact hx

theorem State.acts_comparePosition (p : Position) (h : s.cell ≠ .start) : Acts s (s.comparePosition p) := by
  unfold State.comparePosition
  repeat' split
  · exact .single (.strand p fun _ => h)
  · exact .refl
  · exact (s.calm_removeLifted p).acts
  · exact .refl

theorem State.acts_compareCovered (h : s.cell ≠ .start) : Acts s s.compareCovered := by
  unfold State.compareCovered
  generalize coveredPositions s.tunnel.carriesGate = ps
  induction ps generalizing s with
  | nil => exact .refl
  | cons p ps ih =>
    rw [List.foldl_cons]
    exact (State.acts_comparePosition p h).trans (ih (by simpa using h))

theorem State.recorded_compareCovered_le (s : State) (sn : Serial) : s.compareCovered.recorded sn ≤ s.recorded sn := by
  unfold State.compareCovered
  generalize coveredPositions s.tunnel.carriesGate = ps
  induction ps generalizing s with
  | nil => exact le_rfl
  | cons p ps ih =>
    rw [List.foldl_cons]
    refine (ih _).trans ?_
    unfold State.comparePosition
    repeat' split
    · exact s.recorded_makeStranded_le p sn
    · exact le_rfl
    · exact (s.calm_removeLifted p).recorded_le sn
    · exact le_rfl

theorem State.calm_reloadDwell (s : State) : Calm s s.reloadDwell := .of_cell rfl rfl rfl rfl id (by simp [State.reloadDwell])

/-! ### The judgements of a record placed at EXIT -/

theorem State.keepsBadges_atExit (s : State) {f : Record → Record} (hf : ∀ r, (f r).badge = r.badge) :
    s.KeepsBadges (s.atExit f) :=
  .of_put (p := .exit) (f := f) rfl rfl hf

theorem State.keepsBadges_judgeCure (s : State) : s.KeepsBadges s.judgeCure := by
  unfold State.judgeCure
  split
  · exact .of_same rfl rfl
  · split
    next r rc _ _ =>
      exact (s.keepsBadges_atExit (f := fun x => x.addReasonIf (doseShort x.dose rc) .cureShort) fun r => by simp).trans
        (.of_same (by simp) (by simp [State.beside]))
    · exact .of_same rfl rfl

theorem State.keepsBadges_appendCoat (s : State) : s.KeepsBadges s.appendCoat := by
  unfold State.appendCoat
  split
  · exact .of_same rfl rfl
  · split
    · exact s.keepsBadges_atExit fun r => by simp
    · exact .of_same rfl rfl

theorem State.keepsBadges_auditTest (s : State) : s.KeepsBadges s.auditTest := by
  unfold State.auditTest
  split
  · exact .of_same rfl rfl
  · split
    · exact (s.keepsBadges_atExit (f := fun x =>
        { x with trav := { x.trav with snapshot := some s.snapshot } }.addReason .auditSample) fun r => rfl).trans
        (.of_same (by simp) (by simp [State.beside]))
    · exact .of_same rfl rfl

theorem State.keepsBadges_judged (s : State) : s.KeepsBadges s.judgeCure.appendCoat.auditTest :=
  s.keepsBadges_judgeCure.trans ((State.keepsBadges_appendCoat _).trans (State.keepsBadges_auditTest _))

theorem State.KeepsBadges.recorded_le {t : State} (h : s.KeepsBadges t) (sn : Serial) : t.recorded sn ≤ s.recorded sn := by
  obtain ⟨ha, hh, -⟩ := State.beside_eq.1 h.1
  refine State.recorded_le_of_table ha hh sn (tableCount_mono fun p => recordedAt_le_of_serial sn fun q hq => ?_)
  obtain ⟨r, hr, hb⟩ := h.2 p q hq
  exact .inr ⟨r, hr, Record.serial_of_badge hb⟩

/-- The exit decision hands an unclean record for diversion, and gives a clean one a handoff state (R29). -/
theorem State.exitDecision_cases (s : State) : s.exitDecision = s ∨ s.exitDecision = s.handForDiversion ∨
    ∃ h, (∀ r, s.table.exit = some r → r.clean = true) ∧ Calm (s.setHandoff (some h)) s.exitDecision := by
  unfold State.exitDecision
  split
  · exact .inl rfl
  next r hr =>
    by_cases hc : r.clean = true
    · have hclean : ∀ q, some r = some q → q.clean = true := fun q hq => by
        cases hq
        exact hc
      rw [if_neg (by simp [hc])]
      split
      · exact .inr (.inr ⟨_, fun q hq => hclean q (hr.symm.trans hq), .refl _⟩)
      · refine .inr (.inr ?_)
        simp only [State.becomeOffered, State.postOffer, hr]
        split
        · exact ⟨_, hclean, .of_same rfl rfl⟩
        · refine ⟨.offered (s.tracker.handoffCounter + 1) .posting, hclean, Calm.trans ?_ (State.calm_post _ _ _ _)⟩
          exact .of_same rfl rfl
    · rw [if_pos (by simpa using hc)]
      exact .inr (.inl rfl)

theorem State.recorded_placed_le (s : State) (sn : Serial) : s.placed.recorded sn ≤ s.recorded sn := by
  refine le_trans ?_ (s.keepsBadges_judged.recorded_le sn)
  unfold State.placed
  generalize s.judgeCure.appendCoat.auditTest = u
  rcases u.exitDecision_cases with h | h | ⟨h, -, hc⟩
  · rw [h]
  · rw [h]
    exact u.recorded_handForDiversion_le sn
  · exact (hc.recorded_le sn).trans
      (State.recorded_atExit_le (f := fun r => { r with handoff := some h }) (by rfl) (by rfl) (by rfl) (fun _ => rfl) sn)

/-- The record at EXIT, if one stands there, has no handoff and no diversion state. -/
def State.exitPlain (s : State) : Prop := ∀ r, s.table.exit = some r → r.handoff = none ∧ r.diversion = none

theorem State.exitPlain.of_badges {t : State} (hs : s.exitPlain) (h : s.KeepsBadges t) : t.exitPlain := fun q hq => by
  obtain ⟨r, hr, hb⟩ := h.2 .exit q hq
  rw [Record.handoff_of_badge hb, Record.diversion_of_badge hb]
  exact hs r hr

theorem State.exitLaw_exitDecision (hs : s.exitLaw) (hp : s.exitPlain) : s.exitDecision.exitLaw := by
  rcases s.exitDecision_cases with h | h | ⟨h, hclean, hc⟩
  · rwa [h]
  · rw [h]
    exact State.exitLaw_handForDiversion hs
  · refine hc.exitLaw ?_
    obtain ⟨hstart, hplace, ⟨hnd, -⟩, -⟩ := id hs
    refine State.exitLaw.at_exit (o := s.table.exit.map fun r => { r with handoff := some h }) hs rfl hplace.2
      (hstart.of_map rfl rfl rfl) ⟨hnd, fun x hx => ?_⟩ fun q n w hq ho => ?_
    · obtain ⟨q, hq, hqd⟩ := State.target_eq_some.1 hx
      obtain ⟨r, hr, rfl⟩ := Option.map_eq_some_iff.1 hq
      cases (hp r hr).2.symm.trans hqd
    · obtain ⟨r, hr, rfl⟩ := Option.map_eq_some_iff.1 hq
      exact ⟨hclean r hr, (hp r hr).2⟩

theorem State.exitLaw_placed (hs : s.exitLaw) (hp : s.exitPlain) : s.placed.exitLaw := by
  have hk := s.keepsBadges_judged
  refine State.exitLaw_exitDecision (Calm.exitLaw (.of_badges hk fun r q hr _ n w ho => ?_) hs) (hp.of_badges hk)
  rw [(hp r hr).1] at ho
  cases ho

theorem State.exitLaw_shiftTunnel (hs : s.exitLaw) (hc : s.cell ≠ .start) : s.shiftTunnel.exitLaw := by
  obtain ⟨-, ⟨hin, hcand⟩, ⟨hnd, htgt⟩, hoff⟩ := hs
  have hexit : s.shiftTunnel.table.exit = (match s.table.tunnel5 with | some r => some r | none => s.table.exit) := rfl
  refine ⟨fun h => absurd h hc, ⟨fun p r hp hr => ?_, hcand⟩, ⟨hnd, fun x hx => ?_⟩, fun q n w hq ho => ?_⟩
  · cases p with
    | entry => exact hin .entry r hp hr
    | transport => exact hin .transport r hp hr
    | spray => exact hin .spray r hp hr
    | gate =>
      change (if s.tunnel.carriesGate then none else s.table.gate) = some r at hr
      split at hr
      · cases hr
      · exact hin .gate r hp hr
    | tunnel0 =>
      change (if s.tunnel.carriesGate then s.table.gate else none) = some r at hr
      split at hr
      · exact hin .gate r (by decide) hr
      · cases hr
    | tunnel1 => exact hin .tunnel0 r (by decide) hr
    | tunnel2 => exact hin .tunnel1 r (by decide) hr
    | tunnel3 => exact hin .tunnel2 r (by decide) hr
    | tunnel4 => exact hin .tunnel3 r (by decide) hr
    | tunnel5 => exact hin .tunnel4 r (by decide) hr
    | exit => exact absurd rfl hp
  · obtain ⟨q, hq, hd⟩ := State.target_eq_some.1 hx
    rw [hexit] at hq
    split at hq
    next r h5 =>
      cases hq
      cases (hin .tunnel5 q (by decide) h5).2.symm.trans hd
    · exact htgt x (State.target_eq_some.2 ⟨q, hq, hd⟩)
  · rw [hexit] at hq
    split at hq
    next r h5 =>
      cases hq
      cases (hin .tunnel5 q (by decide) h5).1.symm.trans ho
    · exact hoff q n w hq ho

theorem State.serialLaw_endIndex (hs : s.serialLaw) : s.endIndex.serialLaw := by
  rw [State.serialLaw_iff] at hs ⊢
  intro sn
  have h1 : s.shiftTunnel.compareCovered.reloadDwell.recorded sn ≤ s.recorded sn :=
    ((State.calm_reloadDwell _).recorded_le sn).trans
      ((State.recorded_compareCovered_le _ sn).trans (s.recorded_shiftTunnel_le sn))
  refine le_trans ?_ (hs sn)
  unfold State.endIndex
  dsimp only
  split
  · exact (State.recorded_placed_le _ sn).trans h1
  · exact h1

theorem State.exitLaw_endIndex (hs : s.exitLaw) (hp : s.tunnel.phase = .indexing) : s.endIndex.exitLaw := by
  have hc : s.cell ≠ .start := fun h => (hs.1 h).2 hp
  have h1 : s.shiftTunnel.compareCovered.reloadDwell.exitLaw :=
    (State.calm_reloadDwell _).exitLaw <|
      (State.acts_compareCovered (s := s.shiftTunnel) hc).exitLaw (State.exitLaw_shiftTunnel hs hc)
  unfold State.endIndex
  dsimp only
  split
  next h =>
    obtain ⟨r, h5⟩ := Option.isSome_iff_exists.1 (Bool.and_eq_true_iff.1 h).1
    refine State.exitLaw_placed h1 fun q hq => ?_
    have hx : s.shiftTunnel.table.exit = some r := by simp [State.shiftTunnel, h5]
    rcases State.compareCovered_exit hx with hn | hr
    · cases hn.symm.trans hq
    · cases hr.symm.trans hq
      exact hs.unoffered .tunnel5 r (by decide) h5
  · exact h1

/-! ## The laws after every step -/

theorem State.exitLaw.of_same {t : State} (hs : s.exitLaw) (ht : t.table = s.table) (h : t.beside = s.beside) : t.exitLaw :=
  (Acts.of_same ht h).exitLaw hs

theorem State.serialLaw.of_same {t : State} (hs : s.serialLaw) (ht : t.table = s.table) (h : t.beside = s.beside) : t.serialLaw :=
  (Acts.of_same ht h).serialLaw hs

end

theorem BoardEvent.serialLaw {s t : State} (h : BoardEvent s t) (hs : s.serialLaw) : t.serialLaw := by
  cases h with
  | acts h => exact h.serialLaw hs
  | scan ps rs _ => exact State.serialLaw_scan (hs.of_same (t := s.scanLevels ps rs) rfl rfl)
  | index _ => exact (State.acts_settle _).serialLaw (State.serialLaw_endIndex (hs.of_same (t := s.indexDoneRise) rfl rfl))

theorem BoardEvent.exitLaw {s t : State} (h : BoardEvent s t) (hs : s.exitLaw) : t.exitLaw := by
  cases h with
  | acts h => exact h.exitLaw hs
  | scan ps rs hc => exact State.exitLaw_scan (hs.of_same (t := s.scanLevels ps rs) rfl rfl) hc
  | index hp => exact (State.acts_settle _).exitLaw (State.exitLaw_endIndex (hs.of_same (t := s.indexDoneRise) rfl rfl) hp)

/-- Settles O56: each act of a step keeps how often a serial is recorded, or records one that stood nowhere. -/
theorem noSerialRecordedTwice : Obligations.NoSerialRecordedTwice := fun _ _ hs h => by
  obtain ⟨u, ht, hb, hev⟩ := step_boardEvent h
  exact hev.serialLaw (hs.of_same ht hb)

/-- Settles O59, by the acts of a step, each of which keeps the four laws about EXIT together. -/
theorem exitAndRackLaws : Obligations.ExitAndRackLaws := fun _ _ hs h => by
  obtain ⟨u, ht, hb, hev⟩ := step_boardEvent h
  exact hev.exitLaw (hs.of_same ht hb)

end Sys2Proof.Machine

end

section

namespace Sys2Proof.Machine

/-! ## The cold reset (R23) -/

/-- The filters of the reset state hold nothing that a cold reset would drop. -/
theorem State.cold_reset : State.reset.cold = State.reset := by
  have h : Inputs.reset.cold = Inputs.reset := by
    unfold Inputs.cold Inputs.reset
    congr
  unfold State.cold
  rw [show State.reset.inputs = Inputs.reset from rfl, h]
  rfl

/-- A cold reset leaves the values that the rules give. -/
theorem State.afterReset_cold (s : State) : s.cold.afterReset := by
  have hpos (p : Position) : (s.cold.inputs.pos.get p).level = none := by
    simp [State.cold, Inputs.cold, Filter.cold]
  have htable (p : Position) : s.cold.table.get p = none := PerPos.get_all _ p
  have hzone (z : Zone) : s.cold.tunnel.zones.get z = { value := none, miss := 0 } := by cases z <;> rfl
  refine ⟨rfl, rfl, rfl, htable, hpos, ?_, ?_, rfl, rfl, rfl, rfl, rfl, rfl, rfl, rfl, rfl, rfl, ?_, ?_, rfl, rfl, rfl, rfl, rfl,
    rfl, rfl, rfl, rfl, rfl, rfl, rfl, rfl, rfl, rfl, rfl, rfl, rfl, rfl, rfl, rfl, rfl, rfl, rfl, hzone, rfl, rfl, ?_, rfl, ?_,
    rfl, rfl, rfl, rfl, rfl, rfl, rfl, rfl, rfl⟩
  · simp [State.cold, Inputs.cold, Filter.cold]
  · simp [State.cold, Inputs.cold, Filter.cold]
  · simp [State.cold, State.reset, Store.reset]
  · simp [State.cold, State.reset, Store.reset]
  · simp [State.cold, State.reset, Holds.reset]
  · simp [State.cold, State.reset, WatchCounter.reset]

theorem State.table_reset (p : Position) : State.reset.table.get p = none := PerPos.get_all _ p

/-- The reset state meets every law. -/
theorem State.laws_reset : State.reset.serialLaw ∧ State.reset.queueLaw ∧ State.reset.supplyLaw ∧ State.reset.sprayLaw ∧
    State.reset.exitLaw ∧ State.reset.storeLaw ∧ State.reset.blankLaw := by
  have hno {p : Position} {r : Record} (h : State.reset.table.get p = some r) : False := by
    rw [State.table_reset] at h; cases h
  refine ⟨?_, ?_, ?_, ?_, ?_, ?_, ?_⟩
  · exact List.nodup_nil
  · exact ⟨by decide, by decide, by decide, List.Pairwise.nil, fun _ => rfl, fun t h => by cases h⟩
  · exact ⟨List.nodup_nil, fun _ => rfl, fun h => by cases h⟩
  · exact ⟨fun p r h _ => (hno h).elim, fun h => absurd h (by decide), by decide, fun h => absurd h (by decide)⟩
  · exact ⟨fun _ => ⟨rfl, by decide⟩, ⟨fun p r _ h => (hno h).elim, fun p h => by cases h⟩,
      ⟨List.nodup_nil, fun t h => by cases h⟩, fun r n w h => by cases h⟩
  · have hslot (k : Fin 8) : State.reset.store.slots[k] = { active := none, staged := none } := by simp [State.reset, Store.reset]
    refine ⟨fun k i h => ?_, fun k i h => ?_, fun k l i h => ?_, fun k l i h => ?_, fun p r i h => (hno h).elim⟩
    all_goals rw [hslot] at h; cases h
  · exact fun _ => ⟨.inl rfl, by rw [State.cold_reset]⟩

/-- Settles O4: the reset state is its own cold reset, and a cold reset writes every block. -/
theorem coldResetLeavesResetValues : Obligations.ColdResetLeavesResetValues := by
  refine ⟨⟨?_, rfl, State.laws_reset⟩, fun s => ⟨s.cold, rfl, s.afterReset_cold, rfl, rfl, rfl, rfl, fun p => ?_, rfl⟩⟩
  · rw [← State.cold_reset]
    exact State.afterReset_cold _
  · simp [State.cold, Inputs.cold, Filter.cold]

/-! ## The moves that start (R12, R60, R61) -/

/-- A recipe matches where the variants agree at every bit that its mask leaves, and its side is the board's or EITHER (R60). -/
theorem Recipe.hits_iff (rc : Recipe) (variant : Half) (side : Side) : rc.hits variant side = true ↔
    (∀ i, i < 16 → rc.mask.getLsbD i = false → variant.getLsbD i = rc.base.getLsbD i) ∧
      (rc.side = .either ∨ rc.side = .top ∧ side = .top ∨ rc.side = .bottom ∧ side = .bottom) := by
  have hbits : (variant &&& ~~~rc.mask) = (rc.base &&& ~~~rc.mask) ↔
      ∀ i, i < 16 → rc.mask.getLsbD i = false → variant.getLsbD i = rc.base.getLsbD i := by
    constructor
    · intro h i hi hm
      have := congrArg (BitVec.getLsbD · i) h
      simpa only [BitVec.getLsbD_and, BitVec.getLsbD_not, hi, hm, decide_true, Bool.not_false, Bool.and_true] using this
    · intro h
      refine BitVec.eq_of_getLsbD_eq fun i hi => ?_
      cases hm : rc.mask.getLsbD i with
      | true => simp [hm]
      | false => simp [hm, h i hi hm]
  unfold Recipe.hits
  rw [Bool.and_eq_true, beq_iff_eq, hbits]
  refine and_congr_right fun _ => ?_
  cases rc.side <;> cases side <;> simp

/-- What a slot offers a board: the record and recipe of its active recipe where that matches. -/
def Store.offered (st : Store) (variant : Half) (side : Side) (k : Fin 8) : Option (Fin 12 × Recipe) :=
  match st.slots[k].active with
  | none => none
  | some i =>
    match st.records[i].recipe with
    | some r => if r.hits variant side then some (i, r) else none
    | none => none

theorem Store.matching_eq (st : Store) (variant : Half) (side : Side) :
    st.matching variant side = slotNumbers.findSome? (st.offered variant side) := rfl

theorem Store.offered_eq_some {st : Store} {variant : Half} {side : Side} {k : Fin 8} {i : Fin 12} {rc : Recipe} :
    st.offered variant side k = some (i, rc) ↔
      st.slots[k].active = some i ∧ st.records[i].recipe = some rc ∧ rc.hits variant side = true := by
  unfold Store.offered
  constructor
  · intro h
    split at h
    · cases h
    next j hj =>
      split at h
      next r hr =>
        split at h
        · next hh => cases h; exact ⟨hj, hr, hh⟩
        · cases h
      · cases h
  · rintro ⟨hk, hr, hh⟩
    simp only [hk, hr, hh, if_true]

/-- A slot whose active recipe does not match offers nothing. -/
theorem Store.offered_eq_none {st : Store} {variant : Half} {side : Side} {k : Fin 8}
    (h : ∀ i rc, st.slots[k].active = some i → st.records[i].recipe = some rc → rc.hits variant side = false) :
    st.offered variant side k = none := by
  cases ho : st.offered variant side k with
  | none => rfl
  | some x =>
    obtain ⟨hk, hr, hh⟩ := Store.offered_eq_some.1 (show st.offered variant side k = some (x.1, x.2) from ho)
    rw [h x.1 x.2 hk hr] at hh
    cases hh

/-- In a list in ascending order, the first that a function answers is the lowest. -/
theorem findSome?_of_lowest {α : Type} {f : Fin 8 → Option α} {k : Fin 8} {a : α} (hk : f k = some a)
    (hlow : ∀ j, j < k → f j = none) {l : List (Fin 8)} (hl : l.Pairwise (· < ·)) (hmem : k ∈ l) : l.findSome? f = some a := by
  induction l with
  | nil => cases hmem
  | cons x l ih =>
    rw [List.pairwise_cons] at hl
    rcases List.mem_cons.1 hmem with rfl | hm
    · simp [hk]
    · rw [List.findSome?_cons, hlow x (hl.1 k hm)]
      exact ih hl.2 hm

theorem mem_slotNumbers (k : Fin 8) : k ∈ slotNumbers := by revert k; decide

/-- The lowest slot that matches is taken (R61). -/
theorem Store.matching_of_lowest {st : Store} {variant : Half} {side : Side} {k : Fin 8} {i : Fin 12} {rc : Recipe}
    (hk : st.slots[k].active = some i) (hr : st.records[i].recipe = some rc) (hh : rc.hits variant side = true)
    (hlow : ∀ (j : Fin 8) l rd, j < k → st.slots[j].active = some l → st.records[l].recipe = some rd →
      rd.hits variant side = false) : st.matching variant side = some (i, rc) := by
  rw [Store.matching_eq]
  exact findSome?_of_lowest (Store.offered_eq_some.2 ⟨hk, hr, hh⟩)
    (fun j hj => Store.offered_eq_none fun l rd => hlow j l rd hj) (by decide) (mem_slotNumbers k)

theorem Store.matching_of_no_hit {st : Store} {variant : Half} {side : Side}
    (h : ∀ (k : Fin 8) i rc, st.slots[k].active = some i → st.records[i].recipe = some rc → rc.hits variant side = false) :
    st.matching variant side = none := by
  rw [Store.matching_eq, List.findSome?_eq_none_iff]
  exact fun k _ => Store.offered_eq_none (h k)

/-- A record made STRANDED, or any in CLEAR_OUT, is bound to no recipe (R61). -/
theorem State.bindRecord_unbound {s : State} {r : Record} (h : r.madeStranded = true ∨ s.cell = .clearOut) : s.bindRecord r = r :=
  if_pos h

theorem State.bindRecord_bound {s : State} {r : Record} (h : r.madeStranded = false) (hc : s.cell ≠ .clearOut) :
    s.bindRecord r = r.bind (s.store.matching r.trav.variant r.trav.sideUp) :=
  if_neg (by simp [h, hc])

section
variable {s : State}

theorem State.exec_moveStart (hl : s.loaded = true) (m : ConvMove) : exec (.moveStart m) s = .next (s.tryMove m) := by
  show Host.Outcome.next (s.live fun t => t.tryMove m) = _
  rw [State.live_of_loaded hl]

/-- No move starts under the drive hold (R24). -/
theorem State.tryMove_of_hold (h : s.tracker.hold = true) (m : ConvMove) : s.tryMove m = s := by
  cases m with
  | toTransport => simp [State.tryMove, State.tryToTransport, State.toTransportDue, h]
  | toSpray => simp [State.tryMove, State.tryToSpray, State.toSprayDue, h]
  | toGate => simp [State.tryMove, State.tryToGate, State.toGateDue, h]

theorem State.exec_moveStart_of_hold (h : s.tracker.hold = true) (m : ConvMove) : exec (.moveStart m) s = .next s := by
  show Host.Outcome.next (s.live fun t => t.tryMove m) = _
  simp only [State.live, State.tryMove_of_hold h, ite_self]

theorem State.tryToTransport_due {r : Record} (he : s.table.entry = some r) (hm : s.tracker.moves.toTransport = false)
    (ht : s.table.transport = none) (hh : s.tracker.hold = false) : s.tryToTransport = { s with
      table := { s.table with entry := some (s.bindRecord r) }
      tracker := { s.tracker with moves := { s.tracker.moves with toTransport := true }, stopLowered := true }
      mask := { s.mask with phase := .armed, cand := some .entry, sampled := [] } } := by
  unfold State.tryToTransport
  rw [if_pos (by simp [State.toTransportDue, State.isFree, PerPos.get, he, hm, ht, hh]), he]
  rfl

theorem State.tryToSpray_due {r : Record} (he : s.table.transport = some r) (hm : s.tracker.moves.toSpray = false)
    (ht : s.table.spray = none) (hh : s.tracker.hold = false) : s.tryToSpray = { s with
      tracker := { s.tracker with moves := { s.tracker.moves with toSpray := true } } } :=
  if_pos (by simp [State.toSprayDue, State.isFree, PerPos.get, he, hm, ht, hh])

theorem State.tryToGate_due {r : Record} (he : s.table.spray = some r) (hs : r.spray = .skipped)
    (hm : s.tracker.moves.toGate = false) (ht : s.table.gate = none) (hh : s.tracker.hold = false) : s.tryToGate = { s with
      tracker := { s.tracker with moves := { s.tracker.moves with toGate := true } } } :=
  if_pos (by simp [State.toGateDue, State.sprayIs, State.isFree, PerPos.get, he, hs, hm, ht, hh])

end

/-- Settles O8: each move's start condition, evaluated; the binding by the lowest slot that matches. -/
theorem moveStartsUnderItsConditions : Obligations.MoveStartsUnderItsConditions := by
  refine ⟨fun s r hl he hm ht hh => ⟨s.bindRecord r, ?_, State.bindRecord_unbound, fun hstr hc => ⟨?_, ?_⟩⟩,
    fun s r hl he hm ht hh => ?_, fun s r hl he hs hm ht hh => ?_, fun s m h => State.exec_moveStart_of_hold h m,
    Recipe.hits_iff, fun r => ?_⟩
  · rw [State.exec_moveStart hl]
    exact congrArg _ (State.tryToTransport_due he hm ht hh)
  · intro k i rc hk hr hhit hlow
    rw [State.bindRecord_bound hstr hc, Store.matching_of_lowest hk hr hhit hlow]
    rfl
  · intro hno
    rw [State.bindRecord_bound hstr hc, Store.matching_of_no_hit hno]
    rfl
  · rw [State.exec_moveStart hl]
    exact congrArg _ (State.tryToSpray_due he hm ht hh)
  · rw [State.exec_moveStart hl]
    exact congrArg _ (State.tryToGate_due he hs hm ht hh)
  · simp [Record.madeStranded]

end Sys2Proof.Machine

end

section

namespace Sys2Proof.Machine

/-! ## The edges of the position sensors (R11, R13) -/

section
variable (s : State)

theorem State.loaded_of_tracking {s : State} (h : s.tracking = true) : s.loaded = true := by
  simp only [State.tracking, Bool.and_eq_true] at h
  exact h.1

/-- An occupied edge that the board tracker takes. -/
theorem State.exec_occupiedEdge {s : State} {p : Position} (ht : s.tracking = true) (hp : s.sensorEmpty p = true) :
    exec (.occupiedEdge p) s = .next ((s.setLevel p true).occupiedEdge p).settle := by
  show Host.Outcome.next (s.when (s.loaded && s.sensorEmpty p) _) = _
  rw [State.loaded_of_tracking ht, hp]
  exact congrArg _ (if_pos ht)

/-- An empty edge that the board tracker takes. -/
theorem State.exec_emptyEdge {s : State} {p : Position} (ht : s.tracking = true) (hp : s.occupied p = true) :
    exec (.emptyEdge p) s = .next ((s.setLevel p false).emptyEdge p).settle := by
  show Host.Outcome.next (s.when (s.loaded && s.occupied p) _) = _
  rw [State.loaded_of_tracking ht, hp]
  exact congrArg _ (if_pos ht)

theorem State.occupied_setLevel (p q : Position) (b : Bool) :
    (s.setLevel p b).occupied q = if q = p then b else s.occupied q := by
  simp only [State.occupied, State.setLevel, PerPos.get_put]
  split <;> simp [Filter.forced]

theorem State.sensorEmpty_setLevel (p q : Position) (b : Bool) :
    (s.setLevel p b).sensorEmpty q = if q = p then !b else s.sensorEmpty q := by
  simp only [State.sensorEmpty, State.setLevel, PerPos.get_put]
  split <;> cases b <;> simp [Filter.forced]

/-- A sensor that stands empty does not stand occupied. -/
theorem State.occupied_of_sensorEmpty {s : State} {p : Position} (h : s.sensorEmpty p = true) : s.occupied p = false := by
  simp only [State.sensorEmpty, beq_iff_eq] at h
  simp [State.occupied, h]

/-- The move that a test finds made completes; no board is then left at its from-position. -/
theorem State.moveTest_made {s : State} {m : ConvMove} (h : s.moveMade m = true)
    (hi : (s.completeMove m).inputs = s.inputs) : s.moveTest m = s.completeMove m := by
  have he : s.sensorEmpty (moveSource m) = true := (Bool.and_eq_true_iff.1 h).2
  have ho : (s.completeMove m).occupied (moveSource m) = false := by
    rw [State.occupied, hi]
    exact State.occupied_of_sensorEmpty he
  unfold State.moveTest
  rw [if_pos h]
  dsimp only
  rw [ho]
  rfl

/-- A test changes nothing where the to-sensor does not stand occupied, or the from-sensor does not stand empty. -/
theorem State.moveTest_of_not_made {s : State} {m : ConvMove} (h : s.moveMade m = false) : s.moveTest m = s := by
  unfold State.moveTest
  rw [if_neg (by simp [h])]

/-- The move out of ENTRY made. -/
theorem State.moveTest_toTransport {s : State} (hm : s.tracker.moves.toTransport = true) (ho : s.occupied .transport = true)
    (he : s.sensorEmpty .entry = true) : s.moveTest .toTransport = s.carryOver .toTransport :=
  State.moveTest_made (by simp [State.moveMade, State.underWay, moveDest, moveSource, hm, ho, he]) rfl

theorem State.completeMove_toGate {s : State} (hs : s.sprayIs .spraying = false) :
    s.completeMove .toGate = s.carryOver .toGate := by
  simp [State.completeMove, hs]

/-- The move out of SPRAY made. -/
theorem State.moveTest_toGate {s : State} (hm : s.tracker.moves.toGate = true) (hs : s.sprayIs .spraying = false)
    (ho : s.occupied .gate = true) (he : s.sensorEmpty .spray = true) : s.moveTest .toGate = s.carryOver .toGate := by
  rw [← State.completeMove_toGate hs]
  refine State.moveTest_made (by simp [State.moveMade, State.underWay, moveDest, moveSource, hm, ho, he]) ?_
  rw [State.completeMove_toGate hs]
  rfl

end

/-! ### The four edges at which these moves complete -/

section
variable {s : State}

/-- At TRANSPORT's occupied edge the move into SPRAY does not complete as well: its from-sensor stands occupied. -/
theorem State.occupiedEdge_transport (hm : s.tracker.moves.toTransport = true) (ho : s.occupied .transport = true)
    (he : s.sensorEmpty .entry = true) : s.occupiedEdge .transport = s.carryOver .toTransport := by
  have hother : (s.carryOver .toTransport).sensorEmpty .transport = false := by
    by_contra hc
    have hfree := State.occupied_of_sensorEmpty (s := s) (p := .transport) ((Bool.not_eq_false _).mp hc)
    rw [ho] at hfree
    cases hfree
  unfold State.occupiedEdge
  rw [if_pos (by simp [State.conveyed, hm])]
  show (s.moveTest .toTransport).moveTest .toSpray = _
  rw [State.moveTest_toTransport hm ho he, State.moveTest_of_not_made (by simp [State.moveMade, moveSource, hother])]

theorem State.emptyEdge_entry (hm : s.tracker.moves.toTransport = true) (ho : s.occupied .transport = true)
    (he : s.sensorEmpty .entry = true) : s.emptyEdge .entry = (s.raiseStop .entry).carryOver .toTransport := by
  unfold State.emptyEdge
  dsimp only
  rw [if_pos (by simpa [State.conveyed, State.raiseStop] using hm)]
  exact State.moveTest_toTransport hm ho he

theorem State.occupiedEdge_gate (hm : s.tracker.moves.toGate = true) (hs : s.sprayIs .spraying = false)
    (ho : s.occupied .gate = true) (he : s.sensorEmpty .spray = true) : s.occupiedEdge .gate = s.carryOver .toGate := by
  unfold State.occupiedEdge
  rw [if_pos (by simpa [State.conveyed] using hm)]
  exact State.moveTest_toGate hm hs ho he

/-- At SPRAY's empty edge the move into SPRAY does not complete as well: its to-sensor stands empty. -/
theorem State.emptyEdge_spray (hm : s.tracker.moves.toGate = true) (hs : s.sprayIs .spraying = false)
    (ho : s.occupied .gate = true) (he : s.sensorEmpty .spray = true) : s.emptyEdge .spray = s.carryOver .toGate := by
  unfold State.emptyEdge
  dsimp only
  rw [if_pos (by simp [State.conveyed, State.raiseStop, hm])]
  show (s.moveTest .toSpray).moveTest .toGate = _
  rw [State.moveTest_of_not_made (m := .toSpray) (by simp [State.moveMade, moveDest, State.occupied_of_sensorEmpty he]),
    State.moveTest_toGate hm hs ho he]

/-- A record that is not the candidate is carried to GATE. -/
theorem State.carryOver_toGate (hc : s.mask.cand ≠ some .spray) : s.carryOver .toGate = { s with
    table := { s.table with gate := s.table.spray, spray := none }
    tracker := { s.tracker with moves := { s.tracker.moves with toGate := false } } } := by
  unfold State.carryOver
  rw [if_neg (show ¬ s.mask.cand = some (moveSource .toGate) from hc)]
  rfl

end

/-- Settles O10: at the edge the move's completion test passes, and the tests of the other moves at that sensor do not. -/
theorem moveCompletesAtEitherEdge : Obligations.MoveCompletesAtEitherEdge := by
  refine ⟨fun s p b ht hl hm hp => ?_, fun s p b ht hl hm hs hc hp => ?_⟩
  · rcases hp with ⟨rfl, rfl, he⟩ | ⟨rfl, rfl, ho⟩
    · have hedge : (s.setLevel .transport true).occupiedEdge .transport = _ :=
        State.occupiedEdge_transport hm (by simp [State.occupied_setLevel]) (by simpa [State.sensorEmpty_setLevel] using he)
      show exec (.occupiedEdge .transport) s = _
      rw [State.exec_occupiedEdge ht (by simpa [State.sensorEmpty] using hl), hedge]
      rfl
    · have hedge : (s.setLevel .entry false).emptyEdge .entry = _ :=
        State.emptyEdge_entry hm (by simpa [State.occupied_setLevel] using ho) (by simp [State.sensorEmpty_setLevel])
      show exec (.emptyEdge .entry) s = _
      rw [State.exec_emptyEdge ht (by simpa [State.occupied] using hl), hedge]
      rfl
  · rcases hp with ⟨rfl, rfl, he⟩ | ⟨rfl, rfl, ho⟩
    · have hedge : (s.setLevel .gate true).occupiedEdge .gate = _ :=
        State.occupiedEdge_gate hm hs (by simp [State.occupied_setLevel]) (by simpa [State.sensorEmpty_setLevel] using he)
      show exec (.occupiedEdge .gate) s = _
      rw [State.exec_occupiedEdge ht (by simpa [State.sensorEmpty] using hl), hedge,
        State.carryOver_toGate (s := s.setLevel .gate true) hc]
      rfl
    · have hedge : (s.setLevel .spray false).emptyEdge .spray = _ :=
        State.emptyEdge_spray hm hs (by simpa [State.occupied_setLevel] using ho) (by simp [State.sensorEmpty_setLevel])
      show exec (.emptyEdge .spray) s = _
      rw [State.exec_emptyEdge ht (by simpa [State.occupied] using hl), hedge,
        State.carryOver_toGate (s := s.setLevel .spray false) hc]
      rfl

end Sys2Proof.Machine

end

section

namespace Sys2Proof.Machine

/-! ## The queue of the link (R213, R214) -/

theorem mem_insertYoungest {x e : OutEntry} {q : List OutEntry} : x ∈ insertYoungest e q ↔ x = e ∨ x ∈ q := by
  induction q with
  | nil => simp [insertYoungest]
  | cons h t ih =>
    unfold insertYoungest
    split
    · simp only [List.mem_cons, ih]
      tauto
    · simp

section
variable {l : Link} {x e : OutEntry} {q : List OutEntry}

/-- What waits after a replacement comes from it; all of it does, where nothing is in its send. -/
theorem Link.mem_waitingOut_withWaitingOut (h : x ∈ (l.withWaitingOut q).waitingOut) : x ∈ q := by
  unfold Link.withWaitingOut Link.waitingOut Link.inSend at h
  cases hl : l.line with
  | sending =>
    rw [hl] at h
    cases ho : l.out with
    | nil =>
      rw [ho] at h
      exact List.mem_of_mem_tail h
    | cons a t =>
      rw [ho] at h
      exact h
  | busy => rw [hl] at h; exact h
  | idle => rw [hl] at h; exact h
  | receiving _ _ => rw [hl] at h; exact h
  | slot _ _ => rw [hl] at h; exact h

theorem Link.mem_waitingOut_enter (h : x ∈ (l.enter e).waitingOut) : x = e ∨ x ∈ l.waitingOut :=
  mem_insertYoungest.1 (Link.mem_waitingOut_withWaitingOut h)

theorem Link.mem_out_enter : e ∈ (l.enter e).out :=
  List.mem_append_right _ (mem_insertYoungest.2 (.inl rfl))

/-- The telegram in its send stays in it. -/
theorem Link.inSend_withWaitingOut (h : l.inSend = some e) (q : List OutEntry) : (l.withWaitingOut q).inSend = some e := by
  have hs : l.line = .sending := by
    unfold Link.inSend at h
    split at h
    · assumption
    all_goals cases h
  have ho : l.out.head? = some e := by simpa [Link.inSend, hs] using h
  simp [Link.withWaitingOut, Link.inSend, hs, ho]

theorem Link.inSend_post (h : l.inSend = some e) (x : OutEntry) : (l.post x).inSend = some e := by
  unfold Link.post
  repeat' split
  · exact Link.inSend_withWaitingOut h _
  · exact h
  next q _ => exact Link.inSend_withWaitingOut (l := l.withWaitingOut q) (Link.inSend_withWaitingOut h q) _
  · exact h

/-- A posted telegram of class 0 or 1 stands in the queue or is held for it. -/
theorem Link.mem_post (h : e.cls ≠ 2) : e ∈ (l.post e).out ++ (l.post e).held := by
  unfold Link.post
  repeat' split
  · exact List.mem_append_left _ Link.mem_out_enter
  · exact List.mem_append_left _ (Link.mem_out_enter (l := l.withWaitingOut _))
  · exact List.mem_append_right _ (List.mem_append_right _ (List.mem_singleton.2 rfl))

theorem takeHeld_subset {stopped : Bool} {held rest : List OutEntry} (h : takeHeld stopped held = some (e, rest)) :
    e ∈ held ∧ ∀ x ∈ rest, x ∈ held := by
  unfold takeHeld at h
  dsimp only at h
  split at h
  next f hf =>
    cases h
    exact ⟨List.mem_of_find?_eq_some hf, fun x hx => List.mem_of_mem_erase hx⟩
  · cases h

/-- A freed place is filled from what was held. -/
theorem Link.mem_fillPlace {stopped : Bool} (h : x ∈ (l.fillPlace stopped).waitingOut ++ (l.fillPlace stopped).held) :
    x ∈ l.waitingOut ++ l.held := by
  rcases l.fillPlace_cases stopped with ⟨-, he⟩ | ⟨f, rest, ht, ⟨-, he⟩ | ⟨-, he⟩⟩
  · rw [he] at h
    exact h
  · obtain ⟨hf, hrest⟩ := takeHeld_subset ht
    rw [he] at h
    rcases List.mem_append.1 h with hw | hh
    · rcases Link.mem_waitingOut_enter hw with rfl | hw
      · exact List.mem_append_right _ hf
      · exact List.mem_append_left _ hw
    · exact List.mem_append_right _ (hrest x hh)
  · rwa [he] at h

@[simp] theorem Link.fillPlace_withdrawAsked (l : Link) (stopped : Bool) :
    (l.fillPlace stopped).withdrawAsked = l.withdrawAsked := by
  rcases l.fillPlace_cases stopped with ⟨-, he⟩ | ⟨f, rest, -, ⟨-, he⟩ | ⟨-, he⟩⟩
  · rw [he]
  · rw [he]; rfl
  · rw [he]

/-- A withdrawn telegram waits no longer and is held no longer (R214). -/
theorem Link.not_mem_withdraw {stopped : Bool} {mine : OutEntry → Bool}
    (h : x ∈ (l.withdraw stopped mine).waitingOut ++ (l.withdraw stopped mine).held) : mine x = false := by
  have hkept (owed asked : Bool) (h : x ∈ Link.waitingOut { l.withWaitingOut (l.waitingOut.filter fun e => !mine e) with
      held := l.held.filter fun e => !mine e, owed := owed, withdrawAsked := asked } ++ l.held.filter fun e => !mine e) :
      mine x = false := by
    rcases List.mem_append.1 h with hw | hh
    · have := Link.mem_waitingOut_withWaitingOut (l := l) hw
      simpa using (List.mem_filter.1 this).2
    · simpa using (List.mem_filter.1 hh).2
  unfold Link.withdraw at h
  dsimp only at h
  split at h
  · exact hkept _ _ (Link.mem_fillPlace h)
  · exact hkept _ _ h

/-- A telegram in its send is marked as withdrawn (R214). -/
theorem Link.withdrawAsked_withdraw {stopped : Bool} {mine : OutEntry → Bool} (h : l.inSend = some e) (hm : mine e = true) :
    (l.withdraw stopped mine).withdrawAsked = true := by
  unfold Link.withdraw
  dsimp only
  split <;> simp [h, hm]

end

/-! ## The end of the own claim (R125) -/

section
variable {s : State}

/-- The end of a claim touches the supply block and the link alone. -/
theorem State.endClaim_eq (s : State) : s.endClaim = { s with supply := s.endClaim.supply, link := s.endClaim.link } := by
  unfold State.endClaim
  split
  · rfl
  · rfl
  · rfl
  · rfl
  · rfl
  · split <;> rfl
  · rfl

theorem State.endClaim_of_none (h : s.supply.own = .none ∨ s.supply.own = .ending) : s.endClaim = s := by
  unfold State.endClaim
  rcases h with h | h <;> rw [h]

theorem State.endClaim_of_active (h : s.supply.own = .waiting ∨ s.supply.own = .granted) :
    s.endClaim = { s with supply := { s.supply with own := .ending }, link := s.link.post s.doneTelegram } := by
  have hdone : s.doneTelegram = s.telegram 0 kindSupplyDone (donePayload s.cfg.group s.supply.claimSerial) := by
    unfold State.doneTelegram State.telegram donePayload
    cases s.supply.claimSerial <;> rfl
  rw [hdone]
  unfold State.endClaim
  rcases h with h | h <;> rw [h] <;> rfl

theorem State.endClaim_of_queued (h : s.supply.own = .queued) : s.endClaim = { s with
    supply := { s.supply with own := .none, holder := none, reClaim := none }
    link := s.link.withdraw s.isStopped fun e => e.tg.kind == kindSupplyClaim } := by
  unfold State.endClaim
  rw [h]
  rfl

theorem State.endClaim_of_sending (h : s.supply.own = .sending) : s.endClaim = { s with
    supply := { s.supply with own := .ending }
    link := s.link.withdraw s.isStopped fun e => e.tg.kind == kindSupplyClaim } := by
  unfold State.endClaim
  rw [h]
  rfl

theorem State.endClaim_of_refusedWait (h : s.supply.own = .refusedWait) : s.endClaim = { s with
    supply := if s.supply.doneRead then { s.supply with own := .none, holder := none, reClaim := none }
      else { s.supply with own := .ending, reClaim := none } } := by
  unfold State.endClaim
  rw [h]
  dsimp only
  split <;> rfl

end

/-! ## Boards that appear and are lifted off (R14, R15) -/

section
variable {s : State}

/-- The notice of a board lifted off. -/
theorem State.notice_removed (s : State) (p : Position) (r : Record) :
    s.notice 3 (byteOf (positionBit p) :: flagByte [r.trav.serial.isSome] ::
      (optWord r.trav.serial ++ be16 r.trav.variant ++ be16 r.trav.lot ++ be24 r.trav.reasons)) =
      { s with link := s.removedNotice s.link p r } := by
  have hflag : flagByte [r.trav.serial.isSome] = if r.trav.serial.isSome then 1 else 0 := by
    cases r.trav.serial <;> rfl
  unfold State.notice State.removedNotice
  rw [hflag]
  split
  · rfl
  · rfl

/-- A board without an OFFER is lifted off: its record leaves, with the notice. -/
theorem State.removeLifted_unoffered {p : Position} {r : Record} (h : s.table.get p = some r) (hh : r.handoff = none) :
    s.removeLifted p = { s.leave p with link := (s.leave p).removedNotice (s.leave p).link p r } := by
  unfold State.removeLifted
  rw [h]
  simp only [hh]
  exact State.notice_removed _ _ _

/-- An OFFERED board lifted off: its OFFER is withdrawn before the notice (log 46). -/
theorem State.removeLifted_offered {p : Position} {r : Record} {n : Byte} {w : OfferWait} (h : s.table.get p = some r)
    (hh : r.handoff = some (.offered n w)) : s.removeLifted p = { (s.leave p).withdrawKind kindOffer with
      link := (s.leave p).removedNotice ((s.leave p).withdrawKind kindOffer).link p r } := by
  unfold State.removeLifted
  rw [h]
  simp only [hh]
  exact State.notice_removed _ _ _

/-- An occupied edge at a free place that nothing covers. -/
theorem State.occupiedEdge_stray {p : Position} (hv : s.conveyed p = false) (hc : s.covered p = false)
    (hf : s.table.get p = none) : s.occupiedEdge p = s.strayOccupied p := by
  unfold State.occupiedEdge
  rw [if_neg (by simp [hv]), if_neg (by simp [hc])]
  split
  next h => cases hf.symm.trans h
  · rfl

/-- An empty edge at a place that nothing covers, other than EXIT. -/
theorem State.emptyEdge_lifted {p : Position} (hv : s.conveyed p = false) (hc : s.covered p = false) (hp : p ≠ .exit) :
    s.emptyEdge p = (s.raiseStop p).lifted p := by
  have hv' : (s.raiseStop p).conveyed p = false := by rw [← hv]; unfold State.raiseStop; split <;> rfl
  have hc' : (s.raiseStop p).covered p = false := by rw [← hc]; unfold State.raiseStop; split <;> rfl
  unfold State.emptyEdge
  dsimp only
  rw [if_neg (by simp [hv']), if_neg (by simp [hc'])]
  split
  · exact absurd rfl hp
  · rfl

/-- The record that R14 makes. -/
def strandedAt (p : Position) : Record :=
  { Record.strandedRecord with diversion := if p = .exit then some .waitingRack else none }

theorem State.makeStranded_eq (s : State) (p : Position) : s.makeStranded p = { s with
    table := s.table.put p (some (strandedAt p))
    mask := if p = .transport then { s.mask with phase := .armed, cand := some p, sampled := [] } else s.mask } := by
  cases p <;> rfl

end

end Sys2Proof.Machine

end

section

namespace Sys2Proof.Machine

section
variable {s : State}

theorem State.emptyEdge_exit {r : Record} (hx : s.table.exit = some r) (hc : s.covered .exit = false) :
    s.emptyEdge .exit = s.exitEdge r false := by
  unfold State.emptyEdge
  rw [show s.raiseStop .exit = s from if_neg (by decide)]
  dsimp only
  rw [if_neg (by simp [State.conveyed]), if_neg (by simp [hc]), hx]

/-- The spray sequencer and the supply block lose the board at SPRAY (R88, R94). -/
theorem State.dropSpray_eq (s : State) : s.dropSpray = { s with
    spray := { s.spray with schedule := none, abort := none }
    supply := s.dropSpray.supply
    link := s.dropSpray.link } := by
  unfold State.dropSpray
  dsimp only
  split
  · exact State.endClaim_eq _
  · rfl

/-- The record at SPRAY leaves; it is not the candidate. -/
theorem State.leave_spray {r : Record} (h : s.table.spray = some r) (hc : s.mask.cand ≠ some .spray) : s.leave .spray =
    State.dropSpray { s with table := { s.table with spray := none }, store := s.storeWithout r } := by
  have hb : State.handBack { s with table := s.table.put .spray none } r.recipe =
      { s with table := s.table.put .spray none, store := s.storeWithout r } := by
    rw [← s.handBack_store (p := .spray) h]
    unfold State.handBack
    split
    · rfl
    · split <;> rfl
  unfold State.leave
  rw [show s.table.get .spray = some r from h]
  dsimp only
  rw [hb, if_pos rfl, if_neg hc]
  rfl

/-- What the supply block and the link become when the board at SPRAY is lost, by the own claim's state (R125). -/
theorem State.dropSpray_claim (s : State) :
    (s.supply.holder ≠ some .board ∨ s.supply.own = .none ∨ s.supply.own = .ending →
      s.dropSpray.supply = s.supply ∧ s.dropSpray.link = s.link) ∧
    (s.supply.holder = some .board →
      (s.supply.own = .waiting ∨ s.supply.own = .granted →
        s.dropSpray.supply = { s.supply with own := .ending } ∧ s.dropSpray.link = s.link.post s.doneTelegram) ∧
      (s.supply.own = .queued → s.dropSpray.supply = { s.supply with own := .none, holder := none, reClaim := none } ∧
        s.dropSpray.link = s.link.withdraw s.isStopped fun e => e.tg.kind == kindSupplyClaim) ∧
      (s.supply.own = .sending → s.dropSpray.supply = { s.supply with own := .ending } ∧
        s.dropSpray.link = s.link.withdraw s.isStopped fun e => e.tg.kind == kindSupplyClaim) ∧
      (s.supply.own = .refusedWait → s.dropSpray.link = s.link ∧ s.dropSpray.supply = if s.supply.doneRead then
          { s.supply with own := .none, holder := none, reClaim := none }
        else { s.supply with own := .ending, reClaim := none })) := by
  let u : State := { s with spray := { s.spray with schedule := none, abort := none } }
  have hu : s.dropSpray = if s.supply.holder = some .board then u.endClaim else u := rfl
  rw [hu]
  constructor
  · rintro h
    split
    next hb =>
      rw [State.endClaim_of_none (s := u) (h.resolve_left (not_not_intro hb))]
      exact ⟨rfl, rfl⟩
    · exact ⟨rfl, rfl⟩
  · intro hb
    rw [if_pos hb]
    refine ⟨fun h => ?_, fun h => ?_, fun h => ?_, fun h => ?_⟩
    · rw [State.endClaim_of_active (s := u) h]; exact ⟨rfl, rfl⟩
    · rw [State.endClaim_of_queued (s := u) h]; exact ⟨rfl, rfl⟩
    · rw [State.endClaim_of_sending (s := u) h]; exact ⟨rfl, rfl⟩
    · rw [State.endClaim_of_refusedWait (s := u) h]; exact ⟨rfl, rfl⟩

/-- An occupied edge where nothing stood: an arrival at ENTRY in RUN or STOPPED (R18), else a STRANDED record (R14). -/
theorem State.exec_occupiedEdge_stray {p : Position} (ht : s.tracking = true) (hp : s.sensorEmpty p = true)
    (hf : s.table.get p = none) (hv : s.conveyed p = false) (hc : s.covered p = false) :
    exec (.occupiedEdge p) s = .next ((s.setLevel p true).strayOccupied p).settle := by
  rw [State.exec_occupiedEdge ht hp, State.occupiedEdge_stray (s := s.setLevel p true) hv hc hf]

theorem State.strayOccupied_arrival (hf : s.table.entry = none) (ht : s.tracking = true) (hc : s.cell ≠ .clearOut)
    (ha : s.tracker.arrival = none) : s.strayOccupied .entry = s.beginArrival := by
  have hcell : s.cell = .run ∨ s.cell = .stopped := by
    simp only [State.tracking, Bool.and_eq_true, Bool.or_eq_true, beq_iff_eq] at ht
    rcases ht.2 with (h | h) | h
    · exact absurd h hc
    · exact .inl h
    · exact .inr h
  unfold State.strayOccupied
  rw [if_pos (by simp [State.isFree, PerPos.get, hf]), if_pos ⟨rfl, hcell⟩, if_pos ha]

theorem State.strayOccupied_stranded {p : Position} (hf : s.table.get p = none) (h : p ≠ .entry ∨ s.cell = .clearOut) :
    s.strayOccupied p = s.makeStranded p := by
  unfold State.strayOccupied
  rw [if_pos (by simp [State.isFree, hf]), if_neg]
  rintro ⟨he, hcell⟩
  rcases h with h | h
  · exact h he
  · rw [h] at hcell
    simp at hcell

/-- The empty edge of a board without an OFFER, at a place other than EXIT. -/
theorem State.exec_emptyEdge_lifted {p : Position} {r : Record} (ht : s.tracking = true) (hp : s.occupied p = true)
    (hv : s.conveyed p = false) (hc : s.covered p = false) (hx : p ≠ .exit) (hr : s.table.get p = some r)
    (hh : r.handoff = none) : exec (.emptyEdge p) s = .next (State.settle { ((s.setLevel p false).raiseStop p).leave p with
      link := s.removedNotice (((s.setLevel p false).raiseStop p).leave p).link p r }) := by
  have htab : ((s.setLevel p false).raiseStop p).table.get p = some r := by simpa [State.setLevel] using hr
  have hcfg : (((s.setLevel p false).raiseStop p).leave p).cfg = s.cfg := by simp [State.setLevel]
  rw [State.exec_emptyEdge ht hp, State.emptyEdge_lifted (s := s.setLevel p false) hv hc hx]
  unfold State.lifted
  rw [if_neg (by rw [State.isFree, htab]; simp), State.removeLifted_unoffered htab hh]
  simp only [State.removedNotice, hcfg]

theorem State.raiseStop_eq (s : State) (p : Position) : s.raiseStop p = { s with
    tracker := { s.tracker with stopLowered := if p = .entry then false else s.tracker.stopLowered } } := by
  cases p <;> rfl

end

/-- Settles O9: an edge that no move and no index takes makes an arrival or a STRANDED record, or takes the record away. -/
theorem boardsAppearAndAreLifted : Obligations.BoardsAppearAndAreLifted := by
  refine ⟨fun s p ht hp hf hv hc => ⟨?_, fun h => ⟨strandedAt p, ?_, ?_⟩⟩, fun s p r ht hp hv hc hx hs hr hh => ?_,
    fun s r ht hp hv hr hh hm => ?_, fun s r n w ht hp hi hr hd hh hm => ?_,
    fun l stopped e he => by simpa using Link.not_mem_withdraw he, fun s ht hp hv hf => ?_⟩
  · rintro rfl hcell ha
    rw [State.exec_occupiedEdge_stray ht hp hf hv hc,
      State.strayOccupied_arrival (s := s.setLevel .entry true) hf ht hcell ha]
    rfl
  · rw [State.exec_occupiedEdge_stray ht hp hf hv hc, State.strayOccupied_stranded (s := s.setLevel p true) hf h,
      State.makeStranded_eq]
    rfl
  · exact ⟨rfl, rfl, rfl, rfl, rfl, rfl, rfl, rfl, rfl, rfl⟩
  · have htab : ((s.setLevel p false).raiseStop p).table.get p = some r := by simpa [State.setLevel] using hr
    rw [State.exec_emptyEdge_lifted ht hp hv hc hx hr hh, State.leave_eq _ htab hs, State.raiseStop_eq]
    rfl
  · have hc : s.covered .spray = false := by simp [State.covered]
    let u : State := { s.setLevel .spray false with table := { s.table with spray := none }, store := s.storeWithout r }
    have hleave : ((s.setLevel .spray false).raiseStop .spray).leave .spray = u.dropSpray :=
      State.leave_spray (s := s.setLevel .spray false) hr hm
    refine ⟨u.dropSpray.supply, u.dropSpray.link, ?_, u.dropSpray_claim⟩
    rw [State.exec_emptyEdge_lifted ht hp hv hc (by decide) hr hh, hleave]
    conv_lhs => rw [State.dropSpray_eq]
    rfl
  · have hc : (s.setLevel .exit false).covered .exit = false := by simp [State.covered, State.setLevel, hi]
    have hleave := State.leave_eq (s.setLevel .exit false) (p := .exit) hr (by decide)
    have hcand : (if (s.setLevel .exit false).mask.cand = some .exit then (s.setLevel .exit false).mask.drop
      else (s.setLevel .exit false).mask) = s.mask := if_neg hm
    rw [State.exec_emptyEdge ht hp, State.emptyEdge_exit (s := s.setLevel .exit false) hr hc]
    have hedge : (s.setLevel .exit false).exitEdge r false = (s.setLevel .exit false).removeLifted .exit := by
      unfold State.exitEdge
      rw [hd, hh]
    rw [hedge, State.removeLifted_offered (s := s.setLevel .exit false) (p := .exit) hr hh, hleave, hcand]
    rfl
  · rw [State.exec_emptyEdge ht hp, State.emptyEdge_lifted (s := s.setLevel .entry false) (p := .entry)
      hv (by simp [State.covered]) (by decide)]
    unfold State.lifted
    rw [if_pos (by simp [State.isFree, State.raiseStop, State.setLevel, PerPos.get, hf]), if_pos rfl]
    rfl

end Sys2Proof.Machine

end

section

namespace Sys2Proof.Machine

/-! ## What an event reported to the watch counters leaves (R192, R201) -/

section
variable {s : State} {src : Source} {margin : Int}

/-- What each counter keeps, the report keeps. -/
theorem State.report_induction {P : State → Prop} (h : ∀ u i, P u → P (State.reportTo src margin u i)) (hs : P s) :
    P (s.report src margin) := by
  unfold State.report
  generalize ([0, 1, 2, 3] : List (Fin 4)) = l
  induction l generalizing s with
  | nil => exact hs
  | cons i l ih => exact ih (h s i hs)

theorem Sprayer.requestPurge_idem (sp : Sprayer) : sp.requestPurge.requestPurge = sp.requestPurge := by
  unfold Sprayer.requestPurge
  cases sp.purge <;> rfl

/-- A report leaves the spray sequencer but for a purge that is requested. -/
theorem State.report_spray (s : State) (src : Source) (margin : Int) :
    (s.report src margin).spray = s.spray ∨ (s.report src margin).spray = s.spray.requestPurge := by
  refine State.report_induction (P := fun u => u.spray = s.spray ∨ u.spray = s.spray.requestPurge) (fun u i h => ?_) (.inl rfl)
  unfold State.reportTo
  dsimp only
  split
  · split
    · unfold State.beginAction
      dsimp only
      split
      · exact h
      · exact h
      · right
        rcases h with h | h
        · exact congrArg Sprayer.requestPurge h
        · exact (congrArg Sprayer.requestPurge h).trans s.spray.requestPurge_idem
      · simpa using h
    · exact h
  · exact h

/-- A telegram in its send stays in it when an event is reported. -/
theorem State.report_inSend {e : OutEntry} (h : s.link.inSend = some e) : (s.report src margin).link.inSend = some e := by
  refine State.report_induction (P := fun u => u.link.inSend = some e) (fun u i hu => ?_) h
  unfold State.reportTo
  dsimp only
  split
  · split
    · unfold State.beginAction
      dsimp only
      split
      · exact hu
      · exact hu
      · exact hu
      · unfold State.notice
        dsimp only
        split
        · exact hu
        · exact Link.inSend_post hu _
    · exact hu
  · exact hu

end

/-! ## The abort of a pass (R103) -/

/-- The record of an aborted pass before its film is judged. -/
def Record.cutOff (r : Record) (now : Seconds) : Record :=
  { { r with spray := .aborted }.addReason .sprayAborted with sprayEnd := some now, elapsed := 0 }

/-- The record of an aborted pass, judged over the intervals closed normally. -/
def State.abortedRecord (s : State) (r : Record) : Record :=
  match extremes (filmsOf s.cfg.swath s.intervals), r.bound s.store with
  | some x, some rc => (r.cutOff s.seconds).withFilm rc x
  | _, _ => r.cutOff s.seconds

section
variable {s : State} {r : Record}

/-- The spray sequencer after an abort, but for the film's event: no schedule and no abort pending. -/
def State.passCut (s : State) (r : Record) : State :=
  { s with spray := { s.spray with schedule := none, abort := none }, table := s.table.put .spray (some (s.abortedRecord r)) }

/-- A pass is cut off, and where its film is judged the event is reported. -/
theorem State.finishSpray_abort (hr : s.table.spray = some r) :
    s.finishSpray (fun r => { r with spray := .aborted }.addReason .sprayAborted) (extremes (filmsOf s.cfg.swath s.intervals)) =
      match extremes (filmsOf s.cfg.swath s.intervals), r.bound s.store with
      | some x, some rc => (s.passCut r).report .filmMargin (filmResult rc x).margin
      | _, _ => s.passCut r := by
  unfold State.finishSpray State.passCut State.abortedRecord
  rw [hr]
  dsimp only
  cases extremes (filmsOf s.cfg.swath s.intervals) with
  | none => rfl
  | some x =>
    cases r.bound s.store with
    | none => rfl
    | some rc => rfl

/-- The state after the cut and its report: that of the cut, but for the counters, the notices and a purge that they request. -/
theorem State.finishSpray_abort_cases (hr : s.table.spray = some r) :
    ∃ u, u = s.finishSpray (fun r => { r with spray := .aborted }.addReason .sprayAborted)
        (extremes (filmsOf s.cfg.swath s.intervals)) ∧
      u.table = (s.passCut r).table ∧ (u.spray = (s.passCut r).spray ∨ u.spray = (s.passCut r).spray.requestPurge) ∧
      ∀ e, s.link.inSend = some e → u.link.inSend = some e := by
  refine ⟨_, rfl, ?_⟩
  rw [State.finishSpray_abort hr]
  split
  · exact ⟨by simp, State.report_spray _ _ _, fun e h => State.report_inSend (s := s.passCut r) h⟩
  · exact ⟨rfl, .inl rfl, fun e h => h⟩

theorem Record.withFilm_eq (r : Record) (rc : Recipe) (e : Nat × Nat) : r.withFilm rc e = { r with
    film := some (filmResult rc e)
    trav := { r.trav with reasons :=
      let thin := if e.1 < rc.hMin then Machine.addReason r.trav.reasons .filmThin else r.trav.reasons
      if rc.hMax < e.2 then Machine.addReason thin .filmThick else thin } } := by
  unfold Record.withFilm Record.addReasonIf
  by_cases h1 : e.1 < rc.hMin <;> by_cases h2 : rc.hMax < e.2 <;> simp [h1, h2] <;> rfl

/-- What an abort changes of the record. -/
theorem State.abortedRecord_eq (s : State) (r : Record) : s.abortedRecord r = { r with
    spray := .aborted, sprayEnd := some s.seconds, elapsed := 0, film := (s.abortedRecord r).film
    trav := { r.trav with reasons := (s.abortedRecord r).trav.reasons } } := by
  unfold State.abortedRecord
  split
  · rw [Record.withFilm_eq]; rfl
  · rfl

end

/-! ## The end of a claim in an event (R125) -/

/-- How the claim of a state stands after an event that ends it. -/
theorem State.endClaim_ended {s u t : State} (hs : u.supply = s.supply) (hc : u.cfg = s.cfg)
    (hin : ∀ e, s.link.inSend = some e → u.link.inSend = some e) (ht : t.supply = u.endClaim.supply)
    (hl : t.link = u.endClaim.link) (htc : t.cfg = s.cfg) :
    (s.supply.own = .waiting ∨ s.supply.own = .granted → t.supply = { s.supply with own := .ending } ∧
      t.posted 0 kindSupplyDone
        (s.cfg.group :: (if s.supply.claimSerial.isSome then 1 else 0) :: optWord s.supply.claimSerial)) ∧
    (s.supply.own = .queued → t.supply = { s.supply with own := .none, holder := none, reClaim := none } ∧
      ∀ e ∈ t.link.waitingOut ++ t.link.held, e.tg.kind ≠ kindSupplyClaim) ∧
    (s.supply.own = .sending → t.supply = { s.supply with own := .ending } ∧
      (∀ e, s.link.inSend = some e → e.tg.kind = kindSupplyClaim → t.link.withdrawAsked = true)) ∧
    (s.supply.own = .refusedWait → t.supply =
      if s.supply.doneRead then { s.supply with own := .none, holder := none, reClaim := none }
      else { s.supply with own := .ending, reClaim := none }) ∧
    (s.supply.own = .ending ∨ s.supply.own = .none → t.supply = s.supply) := by
  refine ⟨fun h => ?_, fun h => ?_, fun h => ?_, fun h => ?_, fun h => ?_⟩
  · have he := State.endClaim_of_active (s := u) (by rwa [hs])
    refine ⟨by rw [ht, he, hs], u.doneTelegram, ?_, ?_⟩
    · rw [hl, he]
      exact Link.mem_post (show classOf kindSupplyDone ≠ 2 by decide)
    · unfold State.doneTelegram
      rw [hs, hc, htc]
  · have he := State.endClaim_of_queued (s := u) (by rwa [hs])
    refine ⟨by rw [ht, he, hs], fun e hm => ?_⟩
    rw [hl, he] at hm
    simpa using Link.not_mem_withdraw hm
  · have he := State.endClaim_of_sending (s := u) (by rwa [hs])
    refine ⟨by rw [ht, he, hs], fun e hsend hk => ?_⟩
    rw [hl, he]
    exact Link.withdrawAsked_withdraw (hin e hsend) (by simp [hk])
  · have he := State.endClaim_of_refusedWait (s := u) (by rwa [hs])
    rw [ht, he, hs]
  · rw [ht, State.endClaim_of_none (s := u) (by rw [hs]; exact h.symm), hs]

end Sys2Proof.Machine

end

section

namespace Sys2Proof.Machine

/-! ## The guard opening (R24, R101, R111, R139, R222) -/

section
variable {s : State}

theorem State.guardOpens_cell (s : State) : s.guardOpens.cell = if s.cell = .run then .stopped else s.cell := by
  simp [State.guardOpens, State.putHold]

theorem State.guardOpens_tracker (s : State) : s.guardOpens.tracker = { s.tracker with hold := true, settle := none } := by
  simp [State.guardOpens, State.putHold]

theorem State.guardOpens_tunnel (s : State) : s.guardOpens.tunnel =
    if s.tunnel.phase = .indexing then { s.tunnel with drive := false, timeout := none } else s.tunnel := by
  have h : s.putHold.guardSpray.purgeInterrupt.tunnel = s.tunnel := by simp
  unfold State.guardOpens State.guardIndex
  rw [h]
  split <;> simp

theorem State.guardOpens_table (s : State) : s.guardOpens.table = s.putHold.guardSpray.table := by simp [State.guardOpens]

theorem State.guardOpens_watch (s : State) : s.guardOpens.watch = s.putHold.guardSpray.watch := by simp [State.guardOpens]

/-- With no pass under way the guard ends at most the board's claim. -/
theorem State.guardSpray_of_not_spraying (h : s.sprayIs .spraying = false) :
    s.guardSpray = if s.sprayIs .waitingSupply then s.endBoardClaim else s := by
  unfold State.guardSpray
  rw [if_neg (by simp [h])]

theorem State.guardSpray_quiet (h : s.sprayIs .spraying = false) : s.guardSpray.table = s.table ∧
    s.guardSpray.watch = s.watch ∧ s.guardSpray.spray = s.spray := by
  rw [State.guardSpray_of_not_spraying h]
  split <;> simp

/-- The spray block after the guard's opening, but for a purge that the film's event requests. -/
theorem State.guardSpray_spray {r : Record} (hr : s.table.spray = some r) (hs : r.spray = .spraying) :
    s.guardSpray.table = (s.passCut r).table ∧
      (s.guardSpray.spray = (s.passCut r).spray ∨ s.guardSpray.spray = (s.passCut r).spray.requestPurge) := by
  obtain ⟨u, hu, ht, hsp, -⟩ := State.finishSpray_abort_cases hr
  have hg : s.guardSpray = u.endBoardClaim := by
    unfold State.guardSpray State.abortPass
    rw [if_pos (by simp [State.sprayIs, hr, hs]), ← hu]
  rw [hg]
  simpa using ⟨ht, hsp⟩

theorem State.guardSpray_watch {r : Record} (hr : s.table.spray = some r) (hs : r.spray = .spraying) :
    s.guardSpray.watch = match extremes (filmsOf s.cfg.swath s.intervals), r.bound s.store with
      | some x, some rc => (s.report .filmMargin (filmResult rc x).margin).watch
      | _, _ => s.watch := by
  unfold State.guardSpray State.abortPass
  rw [if_pos (by simp [State.sprayIs, hr, hs]), State.finishSpray_abort hr]
  cases extremes (filmsOf s.cfg.swath s.intervals) with
  | none => simp [State.passCut]
  | some x =>
    cases r.bound s.store with
    | none => simp [State.passCut]
    | some rc =>
      simp only [State.endBoardClaim_frame]
      exact State.report_watch s (s.passCut r) rfl rfl _ _

/-- The guard's end of a pass does not touch whether a purge holds the bar. -/
theorem State.guardSpray_holdsBar (s : State) : s.guardSpray.purgeHoldsBar = s.purgeHoldsBar := by
  have hrequest (u : State) (h : u.spray.purge = s.spray.purge ∨ u.spray.purge = s.spray.requestPurge.purge) :
      u.purgeHoldsBar = s.purgeHoldsBar := by
    unfold State.purgeHoldsBar
    rcases h with h | h
    · rw [h]
    · rw [h]
      unfold Sprayer.requestPurge
      cases s.spray.purge <;> rfl
  by_cases hs : s.sprayIs .spraying = true
  · unfold State.sprayIs at hs
    split at hs
    next r hr =>
      obtain ⟨-, hsp⟩ := State.guardSpray_spray hr (by simpa using hs)
      rcases hsp with h | h
      · exact hrequest _ (.inl (by rw [h]; rfl))
      · exact hrequest _ (.inr (by rw [h]; rfl))
    · cases hs
  · obtain ⟨-, -, hsp⟩ := State.guardSpray_quiet (s := s) (by simpa using hs)
    exact hrequest _ (.inl (congrArg _ hsp))

/-- The opening's way with a purge that holds the bar: its claim is ended, and it is requested again (R111). -/
theorem State.guardOpens_of_bar (h : s.purgeHoldsBar = true) : s.guardOpens.supply = s.putHold.guardSpray.endPurgeClaim.supply ∧
    s.guardOpens.link = s.putHold.guardSpray.endPurgeClaim.link ∧
    s.guardOpens.spray = s.putHold.guardSpray.endPurgeClaim.spray.purgeBack := by
  have hb : s.putHold.guardSpray.purgeHoldsBar = true := by rw [State.guardSpray_holdsBar]; exact h
  have hi : s.putHold.guardSpray.purgeInterrupt =
      { s.putHold.guardSpray.endPurgeClaim with spray := s.putHold.guardSpray.endPurgeClaim.spray.purgeBack } := if_pos hb
  unfold State.guardOpens
  simp [hi]

theorem State.guardOpens_of_no_bar (h : s.purgeHoldsBar = false) : s.guardOpens.supply = s.putHold.guardSpray.supply ∧
    s.guardOpens.link = s.putHold.guardSpray.link ∧ s.guardOpens.spray = s.putHold.guardSpray.spray := by
  have hb : s.putHold.guardSpray.purgeHoldsBar = false := by rw [State.guardSpray_holdsBar]; exact h
  have hi : s.putHold.guardSpray.purgeInterrupt = s.putHold.guardSpray := if_neg (by simp [hb])
  unfold State.guardOpens
  simp [hi]

/-- The spray block loses the schedule and the abort of the pass that the opening ends. -/
theorem State.guardOpens_cut {r : Record} (hr : s.table.spray = some r) (hs : r.spray = .spraying) :
    s.guardOpens.table = s.table.put .spray (some (s.abortedRecord r)) ∧ s.guardOpens.spray.schedule = none ∧
      s.guardOpens.spray.abort = none := by
  obtain ⟨ht, hsp⟩ := State.guardSpray_spray (s := s.putHold) hr hs
  have hcut : s.putHold.guardSpray.spray.schedule = none ∧ s.putHold.guardSpray.spray.abort = none := by
    rcases hsp with h | h <;> rw [h] <;> exact ⟨rfl, rfl⟩
  refine ⟨(State.guardOpens_table s).trans ht, ?_⟩
  cases hb : s.purgeHoldsBar with
  | true =>
    obtain ⟨-, -, hspray⟩ := State.guardOpens_of_bar hb
    rw [hspray]
    simpa [Sprayer.purgeBack] using hcut
  | false =>
    obtain ⟨-, -, hspray⟩ := State.guardOpens_of_no_bar hb
    rw [hspray]
    exact hcut

/-- With no interval closed normally the abort judges no film. -/
theorem State.guardOpens_unjudged {r : Record} (hr : s.table.spray = some r) (hs : r.spray = .spraying)
    (hf : filmsOf s.cfg.swath s.intervals = []) : (s.abortedRecord r).film = r.film ∧
      (s.abortedRecord r).trav.reasons = addReason r.trav.reasons .sprayAborted ∧ s.guardOpens.watch = s.watch := by
  have he : extremes (filmsOf s.cfg.swath s.intervals) = none := by rw [hf]; rfl
  have hm : s.abortedRecord r = r.cutOff s.seconds := by unfold State.abortedRecord; rw [he]
  rw [State.guardOpens_watch, State.guardSpray_watch (s := s.putHold) hr hs, hm,
    show extremes (filmsOf s.putHold.cfg.swath s.putHold.intervals) = none from he]
  exact ⟨rfl, rfl, rfl⟩

/-- The film of an aborted pass, with its reasons and its event. -/
theorem State.guardOpens_judged {r : Record} {rc : Recipe} {lo hi : Nat} (hr : s.table.spray = some r) (hs : r.spray = .spraying)
    (hb : r.bound s.store = some rc) (he : extremes (filmsOf s.cfg.swath s.intervals) = some (lo, hi)) :
    let margin : Int := max (-1023) (min 1023 ((lo : Int) - rc.hMin))
    let cut := addReason r.trav.reasons .sprayAborted
    let thin := if lo < rc.hMin then addReason cut .filmThin else cut
    (s.abortedRecord r).film = some { min := lo, max := hi, margin := margin } ∧
      (s.abortedRecord r).trav.reasons = (if rc.hMax < hi then addReason thin .filmThick else thin) ∧
      s.guardOpens.watch = (s.report .filmMargin margin).watch := by
  intro margin cut thin
  have hm : s.abortedRecord r = (r.cutOff s.seconds).withFilm rc (lo, hi) := by unfold State.abortedRecord; rw [he, hb]
  have hmargin : clampInt (-1023) 1023 ((lo : Int) - rc.hMin) = margin := by
    unfold clampInt
    omega
  rw [State.guardOpens_watch, State.guardSpray_watch (s := s.putHold) hr hs, hm, Record.withFilm_eq,
    show extremes (filmsOf s.putHold.cfg.swath s.putHold.intervals) = some (lo, hi) from he,
    show r.bound s.putHold.store = some rc from hb, ← hmargin]
  exact ⟨rfl, rfl, State.report_watch s s.putHold rfl rfl _ _⟩

/-- The claim of the board at SPRAY, or of a purge, ended by the opening. -/
theorem State.guardOpens_claim
    (h : (s.sprayIs .spraying = true ∨ s.sprayIs .waitingSupply = true) ∧ s.supply.holder = some .board ∧
        s.spray.purge ≠ .claiming ∧ s.spray.purge ≠ .purging ∨
      s.sprayIs .spraying = false ∧ s.supply.holder = some .purge ∧ (s.spray.purge = .claiming ∨ s.spray.purge = .purging)) :
    ∃ u : State, u.supply = s.supply ∧ u.cfg = s.cfg ∧ (∀ e, s.link.inSend = some e → u.link.inSend = some e) ∧
      s.guardOpens.supply = u.endClaim.supply ∧ s.guardOpens.link = u.endClaim.link := by
  rcases h with ⟨hsp, hh, hc, hp⟩ | ⟨hsp, hh, hp⟩
  · obtain ⟨hsup, hlink, -⟩ := State.guardOpens_of_no_bar (s := s) (by simp [State.purgeHoldsBar, hc, hp])
    rw [hsup, hlink]
    by_cases hs : s.sprayIs .spraying = true
    · unfold State.sprayIs at hs
      split at hs
      next r hr =>
        obtain ⟨u, hu, -, -, hin⟩ := State.finishSpray_abort_cases (s := s.putHold) hr
        have hus : u.supply = s.supply := by rw [hu]; simp
        refine ⟨u, hus, by rw [hu]; simp, hin, ?_⟩
        have hg : s.putHold.guardSpray = u.endClaim := by
          unfold State.guardSpray State.abortPass
          rw [if_pos (by simpa [State.sprayIs, hr] using hs), ← hu, State.endBoardClaim, if_pos (by rw [hus]; exact hh)]
        rw [hg]
        exact ⟨rfl, rfl⟩
      · cases hs
    · have hw := hsp.resolve_left hs
      refine ⟨s.putHold, rfl, rfl, fun e he => he, ?_⟩
      have hg : s.putHold.guardSpray = s.putHold.endClaim := by
        rw [State.guardSpray_of_not_spraying (s := s.putHold) (by simpa [State.sprayIs] using hs),
          if_pos (show s.putHold.sprayIs .waitingSupply = true from hw), State.endBoardClaim,
          if_pos (show s.putHold.supply.holder = some .board from hh)]
      rw [hg]
      exact ⟨rfl, rfl⟩
  · obtain ⟨hsup, hlink, -⟩ := State.guardOpens_of_bar (s := s) (by simpa [State.purgeHoldsBar] using hp)
    refine ⟨s.putHold, rfl, rfl, fun e he => he, ?_⟩
    have hg : s.putHold.guardSpray = s.putHold := by
      rw [State.guardSpray_of_not_spraying (s := s.putHold) hsp]
      split
      · exact if_neg (by rw [show s.putHold.supply = s.supply from rfl, hh]; decide)
      · rfl
    rw [hsup, hlink, hg, State.endPurgeClaim, if_pos (show s.putHold.supply.holder = some .purge from hh)]
    exact ⟨rfl, rfl⟩

/-! ## The end of the drive hold (R25, R30, R139) -/

/-- The state at the end of the drive hold before what starts. -/
def State.holdEnded (s : State) : State := s.liftHold.resumeIndex.enterHeld.postDueOffer

theorem State.resumed_eq (s : State) : s.liftHold.resumeIndex.enterHeld = { s with
    cell := if s.cell = .stopped then .run else s.cell
    tracker := { s.tracker with hold := false, settle := none }
    tunnel := if s.tunnel.phase = .indexing ∧ s.tunnel.fault = false then
      { s.tunnel with drive := true, timeout := some 10000 } else s.tunnel
    link := s.link.offerHeld false } := by
  have hstop : s.liftHold.resumeIndex.isStopped = false := by
    simp only [State.isStopped, State.resumeIndex_frame, State.liftHold]
    split <;> simp_all
  unfold State.enterHeld
  rw [hstop]
  unfold State.resumeIndex
  simp only [State.liftHold_frame]
  split <;> rfl

/-- No OFFER fell due: only what was held is offered to the queue. -/
theorem State.holdEnded_of_not_due (h : ∀ r n, s.table.exit = some r → r.handoff ≠ some (.offered n .due)) :
    s.holdEnded = s.liftHold.resumeIndex.enterHeld := by
  have hx : s.liftHold.resumeIndex.enterHeld.exitHandoff = s.exitHandoff := by rw [State.resumed_eq]; rfl
  unfold State.holdEnded State.postDueOffer
  rw [hx]
  split
  next n hd =>
    obtain ⟨r, hr, hh⟩ := Option.bind_eq_some_iff.1 hd
    exact absurd hh (h r n hr)
  · rfl

/-- An OFFER that fell due is posted. -/
theorem State.holdEnded_of_due {r : Record} {n : Byte} (hr : s.table.exit = some r) (hd : r.handoff = some (.offered n .due)) :
    s.holdEnded = (s.liftHold.resumeIndex.enterHeld.setHandoff (some (.offered n .posting))).post s.cfg.downstream kindOffer
      (offerPayload n r.trav) := by
  have hstop : s.liftHold.resumeIndex.enterHeld.isStopped = false := by
    rw [State.resumed_eq]
    simp only [State.isStopped]
    split <;> simp_all
  have hx : s.liftHold.resumeIndex.enterHeld.table.exit = some r := by rw [State.resumed_eq]; exact hr
  have hc : s.liftHold.resumeIndex.enterHeld.cfg = s.cfg := by simp
  unfold State.holdEnded State.postDueOffer State.exitHandoff
  rw [hx]
  simp only [Option.bind_some, hd]
  unfold State.postOffer
  rw [hx]
  simp only [hstop]
  rw [if_neg (by simp), hc]

/-- The end of the hold touches the table and the link besides what it lifts. -/
theorem State.holdEnded_eq (s : State) : s.holdEnded = { s with
    cell := if s.cell = .stopped then .run else s.cell
    tracker := { s.tracker with hold := false, settle := none }
    tunnel := if s.tunnel.phase = .indexing ∧ s.tunnel.fault = false then
      { s.tunnel with drive := true, timeout := some 10000 } else s.tunnel
    table := s.holdEnded.table
    link := s.holdEnded.link } := by
  by_cases h : ∀ r n, s.table.exit = some r → r.handoff ≠ some (.offered n .due)
  · rw [State.holdEnded_of_not_due h, State.resumed_eq]
  · push Not at h
    obtain ⟨r, n, hr, hd⟩ := h
    rw [State.holdEnded_of_due hr hd, State.resumed_eq]
    rfl

/-- What the held telegrams make of the link at the end of the hold, when no OFFER is due (R214). -/
theorem Link.offerHeld_first {l : Link} {before after : List OutEntry} {e : OutEntry} (hl : l.held = before ++ e :: after)
    (hb : ∀ x ∈ before, e.cls < x.cls) (ha : ∀ x ∈ after, e.cls ≤ x.cls) :
    ((l.out.length < 8 ∨ l.owed = true ∧ ∃ x ∈ l.waitingOut, x.cls = 2) →
      l.offerHeld false = Link.post { l with held := before ++ after, owed := false } e) ∧
    (¬ (l.out.length < 8 ∨ l.owed = true ∧ ∃ x ∈ l.waitingOut, x.cls = 2) → l.offerHeld false = { l with owed := false }) := by
  have htake : takeHeld false l.held = some (e, before ++ after) := by
    rw [hl]
    exact takeHeld_eq_some false (by simp [mayEnter]) (fun x hx _ => hb x hx) fun x hx _ => ha x hx
  have hcan : l.canOffer false = true ↔ (l.out.length < 8 ∨ l.owed = true ∧ ∃ x ∈ l.waitingOut, x.cls = 2) := by
    rw [Link.canOffer_iff]; simp
  rcases l.offerHeld_cases false with ⟨hn, -⟩ | ⟨f, rest, hf, h⟩
  · cases hn.symm.trans htake
  · cases hf.symm.trans htake
    rw [Bool.and_false] at h
    rw [← hcan]
    rcases h with ⟨hc, he⟩ | ⟨hc, he⟩
    · exact ⟨fun _ => he, fun hn => absurd hc hn⟩
    · exact ⟨fun hy => absurd hy (by simp [hc]), fun _ => he⟩

theorem Link.offerHeld_of_empty {l : Link} (h : l.held = []) : l.offerHeld false = l := by
  rcases l.offerHeld_cases false with ⟨-, he⟩ | ⟨f, rest, hf, -⟩
  · exact he
  · rw [h] at hf
    cases hf

end

/-- The opening of the guard, as GUARD_OPENING and as a first level of open. -/
theorem exec_guardOpens {s : State} {c : Instr} (hl : s.loaded = true)
    (hc : c = .guardOpening ∨ c = .guardFirstLevel true ∧ s.inputs.guard.level = none) :
    exec c s = .next (s.setGuard true).guardOpens := by
  rcases hc with rfl | ⟨rfl, hg⟩
  · exact congrArg Host.Outcome.next (State.live_of_loaded hl _)
  · exact congrArg Host.Outcome.next (if_pos (by simp [hl, hg]))

/-- The settle time runs out under the drive hold. -/
theorem exec_settleTimeExpiry {s : State} {k : Nat} (hl : s.loaded = true) (hh : s.tracker.hold = true)
    (hk : s.tracker.settle = some k) : exec .settleTimeExpiry s = .next s.holdEnded.starts :=
  congrArg Host.Outcome.next (if_pos (by simp [hl, hh, hk]))

/-- Settles O55: the blocks of the opening one by one, the closing, and the end of the hold by what was held and what fell due. -/
theorem guardTakesAndEndsHold : Obligations.GuardTakesAndEndsHold := by
  refine ⟨fun s c hl hc => ⟨_, exec_guardOpens hl hc, State.guardOpens_cell _, State.guardOpens_tracker _,
    by simp [State.setGuard, Filter.forced], State.guardOpens_tunnel _, by simp [State.setGuard], by simp [State.setGuard], by simp [State.setGuard],
    by simp [State.setGuard, State.fixed], fun hs => ?_, fun r hr hs => ?_, fun hp => ?_, fun h => ?_⟩,
    fun s hl => ?_⟩
  · rw [State.guardOpens_table, State.guardOpens_watch]
    obtain ⟨ht, hw, -⟩ := State.guardSpray_quiet (s := (s.setGuard true).putHold) hs
    exact ⟨ht, hw⟩
  · obtain ⟨ht, hsch, hab⟩ := State.guardOpens_cut (s := s.setGuard true) hr hs
    refine ⟨(s.setGuard true).abortedRecord r, ht, (s.setGuard true).abortedRecord_eq r, hsch, hab, fun hf => ?_, fun rc lo hi hb he => ?_⟩
    · obtain ⟨hfilm, hreasons, hwatch⟩ := State.guardOpens_unjudged (s := s.setGuard true) hr hs hf
      exact ⟨hfilm, hreasons, hwatch⟩
    · obtain ⟨hfilm, hreasons, hwatch⟩ := State.guardOpens_judged (s := s.setGuard true) hr hs hb he
      exact ⟨hfilm, hreasons, hwatch.trans (State.report_watch s (s.setGuard true) rfl rfl _ _)⟩
  · obtain ⟨-, -, hspray⟩ := State.guardOpens_of_bar (s := s.setGuard true) (by simpa [State.purgeHoldsBar] using hp)
    rw [hspray]
    exact ⟨rfl, rfl⟩
  · obtain ⟨u, hus, huc, hin, hsup, hlink⟩ := State.guardOpens_claim (s := s.setGuard true) h
    exact State.endClaim_ended hus huc hin hsup hlink (by simp [State.setGuard])
  · intro closed
    refine ⟨fun hh => ?_, fun hh => ?_, fun hg => ?_, fun b hg => ?_, fun h => ?_, fun k hh hk => ?_⟩
    · exact congrArg Host.Outcome.next ((State.live_of_loaded hl _).trans (if_pos hh))
    · exact congrArg Host.Outcome.next ((State.live_of_loaded hl _).trans (if_neg (by simp [State.setGuard, hh])))
    · exact congrArg Host.Outcome.next (if_pos (by simp [hl, hg]))
    · exact congrArg Host.Outcome.next (if_neg (by simp [hl, hg]))
    · exact congrArg Host.Outcome.next (if_neg (by rcases h with h | h <;> simp [h]))
    · refine ⟨s.holdEnded, exec_settleTimeExpiry hl hh hk, s.holdEnded_eq, fun r n hr hd => ?_, fun hno => ?_⟩
      · rw [State.holdEnded_of_due hr hd, State.resumed_eq]
        refine ⟨?_, _, Link.mem_post (show classOf kindOffer ≠ 2 by decide), rfl⟩
        simp [State.setHandoff, State.post, hr]
      · rw [State.holdEnded_of_not_due hno, State.resumed_eq]
        exact ⟨rfl, fun h => Link.offerHeld_of_empty h, fun before e after => Link.offerHeld_first⟩

end Sys2Proof.Machine

end

section

namespace Sys2Proof.Machine

/-! ## What starts leaves (R12, R25) -/

/-- A state with the parts that a start may write taken from another. -/
def State.started (s t : State) : State := { s with
  table := t.table
  tracker := { s.tracker with moves := t.tracker.moves, stopLowered := t.tracker.stopLowered }
  mask := t.mask
  spray := t.spray
  supply := t.supply
  tunnel := { s.tunnel with
    phase := t.tunnel.phase
    drive := t.tunnel.drive
    timeout := t.tunnel.timeout
    carriesGate := t.tunnel.carriesGate }
  holds := { s.holds with rackSelect := t.holds.rackSelect }
  watch := t.watch
  link := t.link }

/-- An event that writes only what a start may write. -/
def Started (s t : State) : Prop := t = s.started t

theorem Started.refl (s : State) : Started s s := rfl

theorem Started.trans {s t u : State} (h : Started s t) (k : Started t u) : Started s u :=
  Eq.trans k (congrArg (fun x => x.started u) h)

section
variable (s : State)

theorem State.started_notice (code : Byte) (body : List Byte) : Started s (s.notice code body) := by
  unfold State.notice
  split <;> rfl

theorem State.started_beginAction (i : Fin 4) : Started s (s.beginAction i) := by
  unfold State.beginAction
  dsimp only
  split
  · rfl
  · rfl
  · rfl
  · exact (s.started_notice _ _).trans rfl

theorem State.started_report (src : Source) (margin : Int) : Started s (s.report src margin) := by
  refine State.report_induction (P := Started s) (fun u i h => h.trans ?_) (.refl s)
  unfold State.reportTo
  dsimp only
  split
  · split
    · exact Started.trans (t := { u with watch := u.watch.set i.val (u.watch[i].event u.cfg.watch[i] margin) i.isLt }) rfl
        (State.started_beginAction _ i)
    · rfl
  · rfl

theorem State.started_finishSpray (f : Record → Record) (e : Option (Nat × Nat)) : Started s (s.finishSpray f e) := by
  unfold State.finishSpray
  dsimp only
  split
  · rfl
  · split
    · refine Started.trans ?_ (State.started_report _ _ _)
      rfl
    · rfl

theorem State.started_tryDiversion : Started s s.tryDiversion := by
  unfold State.tryDiversion
  split
  · split <;> rfl
  · rfl

theorem State.started_tryIndex : Started s s.tryIndex := by unfold State.tryIndex; split <;> rfl

theorem State.started_tryPass : Started s s.tryPass := by
  unfold State.tryPass
  split
  · split
    · rfl
    · exact Started.trans (t := s.startPass) rfl (State.started_finishSpray _ _ _)
  · rfl

theorem State.started_tryToGate : Started s s.tryToGate := by unfold State.tryToGate; split <;> rfl

theorem State.started_tryToSpray : Started s s.tryToSpray := by unfold State.tryToSpray; split <;> rfl

theorem State.started_tryToTransport : Started s s.tryToTransport := by unfold State.tryToTransport; split <;> rfl

theorem State.started_tryBoardClaim : Started s s.tryBoardClaim := by unfold State.tryBoardClaim; split <;> rfl

theorem State.started_tryPurgeClaim : Started s s.tryPurgeClaim := by unfold State.tryPurgeClaim; split <;> rfl

theorem State.started_starts : Started s s.starts :=
  s.started_tryDiversion.trans <| (State.started_tryIndex _).trans <| (State.started_tryPass _).trans <|
    (State.started_tryToGate _).trans <| (State.started_tryToSpray _).trans <| (State.started_tryToTransport _).trans <|
    (State.started_tryBoardClaim _).trans (State.started_tryPurgeClaim _)

end

/-! ## The boards stay (R4, R5) -/

/-- A record that keeps its serial, variant, lot and side, and gains reasons at most. -/
def Record.Follows (r q : Record) : Prop :=
  q.identity = r.identity ∧ ∀ x, hasReason r.trav.reasons x = true → hasReason q.trav.reasons x = true

theorem Record.Follows.refl (r : Record) : r.Follows r := ⟨rfl, fun _ => id⟩

theorem Record.Follows.trans {a b c : Record} (h : a.Follows b) (k : b.Follows c) : a.Follows c :=
  ⟨k.1.trans h.1, fun x => k.2 x ∘ h.2 x⟩

theorem hasReason_addReason (m : Reasons) (x y : Reason) (h : hasReason m x = true) : hasReason (addReason m y) x = true := by
  unfold hasReason addReason at *
  simp_all

theorem Record.follows_addReason (r : Record) (y : Reason) : r.Follows (r.addReason y) :=
  ⟨rfl, fun x => hasReason_addReason _ x y⟩

theorem Record.follows_addReasonIf (r : Record) (c : Bool) (y : Reason) : r.Follows (r.addReasonIf c y) := by
  unfold Record.addReasonIf
  split
  · exact r.follows_addReason y
  · exact .refl r

theorem Record.follows_withFilm (r : Record) (rc : Recipe) (e : Nat × Nat) : r.Follows (r.withFilm rc e) :=
  Record.Follows.trans (b := { r with film := some (filmResult rc e) }) (.refl r)
    ((Record.follows_addReasonIf _ _ _).trans (Record.follows_addReasonIf _ _ _))

theorem State.follows_bindRecord (s : State) (r : Record) : r.Follows (s.bindRecord r) := by
  unfold State.bindRecord
  split
  · exact .refl r
  · cases s.store.matching r.trav.variant r.trav.sideUp with
    | none => exact Record.Follows.trans (b := { r with recipe := none, verdicts := [] }) (.refl r) (Record.follows_addReason _ _)
    | some x => exact .refl r

/-- Every board stays where it is, as the record it was. -/
def State.BoardsStay (s t : State) : Prop := ∀ p, Option.Rel Record.Follows (s.table.get p) (t.table.get p)

theorem optionRel_refl {o : Option Record} : Option.Rel Record.Follows o o := by
  cases o
  · exact .none
  · exact .some (.refl _)

theorem optionRel_map {o : Option Record} {f : Record → Record} (hf : ∀ r : Record, r.Follows (f r)) :
    Option.Rel Record.Follows o (o.map f) := by
  cases o
  · exact .none
  · exact .some (hf _)

section
variable {s t u : State}

theorem State.BoardsStay.of_table (h : t.table = s.table) : s.BoardsStay t := fun p => by rw [h]; exact optionRel_refl

theorem State.BoardsStay.trans (h : s.BoardsStay t) (k : t.BoardsStay u) : s.BoardsStay u := fun p => by
  have hp := h p
  have kp := k p
  revert hp kp
  cases s.table.get p <;> cases t.table.get p <;> cases u.table.get p <;> intro hp kp <;> cases hp <;> cases kp
  · exact .none
  · exact .some (Record.Follows.trans ‹_› ‹_›)

/-- One place alone changed, by a record that follows the one there. -/
theorem State.BoardsStay.of_put {p : Position} {o : Option Record} (ht : t.table = s.table.put p o)
    (ho : Option.Rel Record.Follows (s.table.get p) o) : s.BoardsStay t := fun q => by
  rw [ht, PerPos.get_put]
  split
  next h => rw [h]; exact ho
  · exact optionRel_refl

theorem State.boardsStay_tryDiversion (s : State) : s.BoardsStay s.tryDiversion := by
  unfold State.tryDiversion
  split
  · split
    next t _ => exact .of_put (p := .exit) rfl (optionRel_map fun r => .refl r)
    · exact .of_table rfl
  · exact .of_table rfl

theorem State.boardsStay_finishSpray (s : State) {f : Record → Record} (hf : ∀ r : Record, r.Follows (f r))
    (e : Option (Nat × Nat)) : s.BoardsStay (s.finishSpray f e) := by
  unfold State.finishSpray
  dsimp only
  split
  · exact .of_table rfl
  next r hr =>
    have hq : r.Follows { f r with sprayEnd := some s.seconds, elapsed := 0 } := hf r
    have hput {q : Record} (h : r.Follows q) : Option.Rel Record.Follows (s.table.get .spray) (some q) := by
      rw [show s.table.get .spray = some r from hr]
      exact .some h
    split
    · exact .of_put (p := .spray) (by simp; rfl)
        (hput (hq.trans (Record.follows_withFilm _ _ _)))
    · exact .of_put (p := .spray) rfl (hput hq)

theorem State.boardsStay_tryPass (s : State) : s.BoardsStay s.tryPass := by
  have h : s.BoardsStay s.startPass := .of_put (p := .spray) rfl (optionRel_map fun r => .refl r)
  unfold State.tryPass
  split
  · split
    · exact h
    · unfold State.passEnd
      exact h.trans (State.boardsStay_finishSpray _ (by intro r; exact ⟨rfl, fun _ => id⟩) _)
  · exact .of_table rfl

theorem State.boardsStay_tryToTransport (s : State) : s.BoardsStay s.tryToTransport := by
  unfold State.tryToTransport
  split
  · exact .of_put (p := .entry) rfl (optionRel_map s.follows_bindRecord)
  · exact .of_table rfl

theorem State.boardsStay_starts (s : State) : s.BoardsStay s.starts :=
  s.boardsStay_tryDiversion.trans <| State.BoardsStay.trans (.of_table (t := s.tryDiversion.tryIndex) (by simp)) <|
    (State.boardsStay_tryPass _).trans <|
    State.BoardsStay.trans (.of_table (t := s.tryDiversion.tryIndex.tryPass.tryToGate.tryToSpray) (by simp)) <|
    (State.boardsStay_tryToTransport _).trans <| .of_table (by simp [State.starts])

/-! ## Moves under way, and the drive hold -/

/-- Moves under way stay under way. -/
def Moves.Within (m n : Moves) : Prop :=
  (m.toTransport = true → n.toTransport = true) ∧ (m.toSpray = true → n.toSpray = true) ∧ (m.toGate = true → n.toGate = true)

theorem Moves.Within.refl (m : Moves) : m.Within m := ⟨id, id, id⟩

theorem Moves.Within.trans {a b c : Moves} (h : a.Within b) (k : b.Within c) : a.Within c :=
  ⟨k.1 ∘ h.1, k.2.1 ∘ h.2.1, k.2.2 ∘ h.2.2⟩

theorem Moves.Within.of_eq {m n : Moves} (h : n = m) : m.Within n := h ▸ .refl m

theorem State.moves_tryPass (s : State) : s.tracker.moves.Within s.tryPass.tracker.moves := by
  have h : s.tracker.moves.Within s.startPass.tracker.moves := ⟨id, id, fun _ => rfl⟩
  unfold State.tryPass
  split
  · split
    · exact h
    · refine h.trans (.of_eq ?_)
      simp [State.passEnd]
  · exact .refl _

theorem State.moves_tryToGate (s : State) : s.tracker.moves.Within s.tryToGate.tracker.moves := by
  unfold State.tryToGate
  split
  · exact ⟨id, id, fun _ => rfl⟩
  · exact .refl _

theorem State.moves_tryToSpray (s : State) : s.tracker.moves.Within s.tryToSpray.tracker.moves := by
  unfold State.tryToSpray
  split
  · exact ⟨id, fun _ => rfl, id⟩
  · exact .refl _

theorem State.moves_tryToTransport (s : State) : s.tracker.moves.Within s.tryToTransport.tracker.moves := by
  unfold State.tryToTransport
  split
  · exact ⟨fun _ => rfl, id, id⟩
  · exact .refl _

theorem State.moves_starts (s : State) : s.tracker.moves.Within s.starts.tracker.moves :=
  Moves.Within.trans (b := s.tryDiversion.tryIndex.tracker.moves) (.of_eq (by simp)) <|
    (State.moves_tryPass _).trans <| (State.moves_tryToGate _).trans <| (State.moves_tryToSpray _).trans <|
    (State.moves_tryToTransport _).trans <| .of_eq (by simp [State.starts])

/-- Under the drive hold the tunnel is not running. -/
theorem State.indexDue_of_hold (h : s.tracker.hold = true) : s.indexDue = false := by
  simp only [State.indexDue, State.runState, h]
  split
  · simp
  · split <;> simp

/-- Under the drive hold nothing starts (R24). -/
theorem State.starts_of_hold (h : s.tracker.hold = true) : s.starts = s := by
  have h1 : s.tryDiversion = s := by simp [State.tryDiversion, h]
  have h2 : s.tryIndex = s := by simp [State.tryIndex, State.indexDue_of_hold h]
  have h3 : s.tryPass = s := by simp [State.tryPass, State.passDue, h]
  have h4 : s.tryBoardClaim = s := by simp [State.tryBoardClaim, State.boardClaimDue, h]
  have h5 : s.tryPurgeClaim = s := by simp [State.tryPurgeClaim, State.purgeClaimDue, h]
  have hm := State.tryMove_of_hold h
  unfold State.starts
  rw [h1, h2, h3, show s.tryToGate = s from hm .toGate, show s.tryToSpray = s from hm .toSpray,
    show s.tryToTransport = s from hm .toTransport, h4, h5]

/-! ## The clear-out test (R22) and the commands of the starts -/

theorem State.tableEmpty_iff (s : State) : s.tableEmpty = true ↔ ∀ p, s.table.get p = none := by
  simp only [State.tableEmpty, List.all_eq_true, Option.isNone_iff_eq_none, PerPos.mem_toList]
  exact ⟨fun h p => h _ ⟨p, rfl⟩, fun h o ⟨p, hp⟩ => hp ▸ h p⟩

/-- A start's command, in a loaded cell. -/
theorem exec_start (hl : s.loaded = true) (f : State → State) : (Host.Outcome.next (s.live f) : Result) = .next (f s) := by
  rw [State.live_of_loaded hl]

end

/-- Settles O7: each start writes its own parts alone, keeps the boards and the moves, and is the effect of its command. -/
theorem whatStartsMovesNoBoard : Obligations.WhatStartsMovesNoBoard := by
  refine ⟨State.started_starts, fun s p => ?_, fun s p r t x hr ht hx => ?_, State.moves_starts, fun s => State.starts_of_hold,
    fun s hc hn => ?_, fun s h => ?_, fun s hl => ?_⟩
  · have h := s.boardsStay_starts p
    generalize s.table.get p = o at h
    generalize s.starts.table.get p = o' at h
    cases h with
    | none => rfl
    | some h => exact congrArg some h.1
  · have h := s.boardsStay_starts p
    rw [hr, ht] at h
    cases h with
    | some h => exact h.2 x hx
  · unfold State.settle State.clearOutTest
    rw [if_pos ⟨hc, s.tableEmpty_iff.2 hn⟩]
  · unfold State.settle State.clearOutTest
    rw [if_neg]
    rintro ⟨hc, he⟩
    rcases h with h | ⟨p, hp⟩
    · exact h hc
    · exact hp (s.tableEmpty_iff.1 he p)
  · have h1 : exec .diversionStart s = .next s.tryDiversion := exec_start hl _
    have h2 (u : State) (h : u.loaded = true) : exec .indexStart u = .next u.tryIndex := exec_start h _
    have h3 (u : State) (h : u.loaded = true) : exec .passStart u = .next u.tryPass := exec_start h _
    have h4 (u : State) (h : u.loaded = true) : exec .claimRequest u = .next u.tryBoardClaim := exec_start h _
    have h5 (u : State) (h : u.loaded = true) : exec .purgeClaimRequest u = .next u.tryPurgeClaim := exec_start h _
    simp [h1, h2, h3, h4, h5, State.exec_moveStart, hl, State.tryMove, State.starts]

end Sys2Proof.Machine

end

section

namespace Sys2Proof.Machine

/-! ## What starts among stray boards alone (R22, R61, R94) -/

/-- A record made STRANDED as it stands at a position. -/
def Record.isStray (p : Position) (r : Record) : Prop :=
  r.trav = { Traveller.blank with reasons := reasonBit .stranded } ∧ r.spray = .skipped ∧ r.recipe = none ∧ r.handoff = none ∧
    (r.diversion.isSome = true ↔ p = .exit)

/-- Every record of the table is one made STRANDED. -/
def State.strays (s : State) : Prop := ∀ p r, s.table.get p = some r → r.isStray p

theorem Record.isStray_strandedAt (p : Position) : (strandedAt p).isStray p := by
  refine ⟨rfl, rfl, rfl, rfl, ?_⟩
  unfold strandedAt
  split <;> simp [*]

section
variable {s : State}

theorem State.strays.of_table {t : State} (h : s.strays) (ht : t.table = s.table) : t.strays := fun p r hr => h p r (ht ▸ hr)

theorem State.strays_tryDiversion (h : s.strays) : s.tryDiversion.strays := by
  unfold State.tryDiversion
  split
  · split
    next t _ =>
      intro p r hr
      change (s.table.put .exit (s.table.exit.map fun r => { r with diversion := some (.diverting t) })).get p = some r at hr
      rw [PerPos.get_put] at hr
      split at hr
      next hp =>
        obtain ⟨q, hq, rfl⟩ := Option.map_eq_some_iff.1 hr
        obtain ⟨htr, hsp, hrc, hh, -⟩ := h .exit q hq
        exact ⟨htr, hsp, hrc, hh, by simp [hp]⟩
      · exact h p r hr
    · exact h
  · exact h

/-- A stray board at SPRAY is SKIPPED, so it takes no pass and no claim. -/
theorem State.not_waiting_of_strays (h : s.strays) : s.sprayIs .waitingSupply = false := by
  unfold State.sprayIs
  split
  next r hr =>
    obtain ⟨-, hsp, -⟩ := h .spray r hr
    rw [hsp]
    rfl
  · rfl

theorem State.tryPass_of_strays (h : s.strays) : s.tryPass = s := by
  simp [State.tryPass, State.passDue, State.not_waiting_of_strays h]

theorem State.tryBoardClaim_of_strays (h : s.strays) : s.tryBoardClaim = s := by
  simp [State.tryBoardClaim, State.boardClaimDue, State.not_waiting_of_strays h]

/-- In DWELL no index starts. -/
theorem State.tryIndex_of_dwell (h : s.tunnel.phase = .dwell) : s.tryIndex = s := by
  simp [State.tryIndex, State.indexDue, h]

/-- A stray board leaves ENTRY as it is: it is bound to no recipe. -/
theorem State.tryToTransport_table_of_strays (h : s.strays) : s.tryToTransport.table = s.table := by
  have hentry : s.table.entry.map s.bindRecord = s.table.entry := by
    cases he : s.table.entry with
    | none => rfl
    | some r =>
      obtain ⟨htr, hsp, -⟩ := h .entry r he
      have hm : r.madeStranded = true := by
        unfold Record.madeStranded
        rw [htr, hsp]
        rfl
      rw [Option.map_some, State.bindRecord_unbound (.inl hm)]
  unfold State.tryToTransport
  split
  · dsimp only
    rw [hentry]
  · rfl

/-- What starts at the end of the scan: a diversion and the moves, and the claim of a purge that is REQUESTED. -/
theorem State.starts_of_strays (h : s.strays) (hp : s.tunnel.phase = .dwell) : s.starts.strays ∧ s.starts.tunnel = s.tunnel ∧
    (s.spray.purge ≠ .requested → s.starts.link = s.link) := by
  have h1 := State.strays_tryDiversion h
  have hindex : s.tryDiversion.tryIndex = s.tryDiversion := State.tryIndex_of_dwell (by simpa using hp)
  have hpass := State.tryPass_of_strays h1
  let u := s.tryDiversion.tryToGate.tryToSpray
  have hu : u.strays := h1.of_table (by simp [u])
  have hv : u.tryToTransport.strays := hu.of_table (State.tryToTransport_table_of_strays hu)
  have heq : s.starts = u.tryToTransport.tryPurgeClaim := by
    unfold State.starts
    rw [hindex, hpass, State.tryBoardClaim_of_strays hv]
  rw [heq]
  refine ⟨hv.of_table (by simp), by simp [u], fun hpu => ?_⟩
  have hno : u.tryToTransport.tryPurgeClaim = u.tryToTransport := by
    have : u.tryToTransport.spray.purge ≠ .requested := by simpa [u] using hpu
    exact if_neg (by rw [State.purgeClaimDue, beq_false_of_ne this]; simp)
  rw [hno]
  simp [u]

/-! ## The clear-out scan (R21, R187) -/

theorem State.occupied_scanLevels (ps : BitVec 11) (rs : BitVec 8) (p : Position) :
    (s.scanLevels ps rs).occupied p = ps.getLsbD (positionBit p) := by
  simp only [State.occupied, State.scanLevels, PerPos.get_mapPos, Filter.forced]
  cases ps.getLsbD (positionBit p) <;> rfl

theorem State.rackOccupied_scanLevels (ps : BitVec 11) (rs : BitVec 8) (k : Fin 8) :
    (s.scanLevels ps rs).rackOccupied k = rs.getLsbD k.val := by
  simp only [State.rackOccupied, State.scanLevels, Filter.forced, Fin.getElem_fin, Vector.getElem_mapIdx]
  cases rs.getLsbD k.val <;> rfl

/-- A scan of some positions makes a STRANDED record at each that is occupied. -/
theorem State.strandFold_get (l : List Position) (a : Position) :
    (l.foldl (fun t p => if t.occupied p then t.makeStranded p else t) s).table.get a =
      if a ∈ l ∧ s.occupied a = true then some (strandedAt a) else s.table.get a := by
  induction l generalizing s with
  | nil => simp
  | cons p l ih =>
    rw [List.foldl_cons]
    by_cases hp : s.occupied p = true
    · have hocc : (s.makeStranded p).occupied a = s.occupied a := by simp [State.occupied]
      rw [if_pos hp, ih, hocc, State.makeStranded_eq]
      by_cases ha : a = p
      · subst ha
        simp [hp]
      · simp [ha, PerPos.get_put_of_ne _ ha]
    · rw [if_neg hp, ih]
      by_cases ha : a = p
      · subst ha
        simp [hp]
      · simp [ha]

theorem State.scanTable_get (hn : ∀ p, s.table.get p = none) (a : Position) :
    s.scanTable.table.get a = if s.occupied a = true then some (strandedAt a) else none := by
  have hmem : a ∈ positions := by cases a <;> decide
  unfold State.scanTable
  rw [State.strandFold_get, hn]
  simp [hmem]

/-- The near-full test after a change of the list (R174). -/
theorem State.nearFullTest_nearFull (s : State) :
    s.nearFullTest.holds.nearFull = decide (s.cfg.nearFull ≤ s.holds.list.length) := by
  unfold State.nearFullTest
  dsimp only
  by_cases h : s.cfg.nearFull ≤ s.holds.list.length
  · rw [if_pos h, decide_eq_true h]
    split
    · assumption
    · simp
  · rw [if_neg h, decide_eq_false h]

theorem State.nearFullTest_filters (s : State) : s.nearFullTest.holds.filters = s.holds.filters := by
  unfold State.nearFullTest
  dsimp only
  repeat' split
  all_goals simp

theorem State.nearFullTest_link (s : State) : s.nearFullTest.link =
    if s.cfg.nearFull ≤ s.holds.list.length ∧ s.holds.nearFull = false then
      (s.notice 5 [byteOf s.holds.list.length, byteOf s.cfg.nearFull]).link else s.link := by
  unfold State.nearFullTest
  dsimp only
  by_cases h : s.cfg.nearFull ≤ s.holds.list.length
  · cases hn : s.holds.nearFull with
    | true => simp [h]
    | false =>
      simp only [h, if_true, Bool.false_eq_true, if_false, and_self]
      unfold State.notice
      split <;> rfl
  · simp [h]

theorem map_filter_eq_filterMap {α β : Type} (l : List α) (c : α → Bool) (f : α → β) :
    (l.filter c).map f = l.filterMap fun a => if c a then some (f a) else none := by
  induction l with
  | nil => rfl
  | cons a l ih => by_cases h : c a = true <;> simp [h, ih]

end

/-- The scan before what starts: the table, the hold list and the tunnel as found. -/
def State.scanned (s : State) (ps : BitVec 11) (rs : BitVec 8) : State :=
  { s.scanLevels ps rs with cell := .clearOut }.scanTable.scanRack.scanTunnel

section
variable {s : State} (ps : BitVec 11) (rs : BitVec 8)

theorem State.exec_clearOutScan (hc : s.cell = .start) (hl : s.loaded = true) :
    exec (.clearOutScan ps rs) s = .next (s.scanned ps rs).settle :=
  congrArg Host.Outcome.next (if_pos (by simp [hc, hl]))

theorem State.scanned_get (hn : ∀ p, s.table.get p = none) (p : Position) :
    (s.scanned ps rs).table.get p = if ps.getLsbD (positionBit p) = true then some (strandedAt p) else none := by
  have ht : (s.scanned ps rs).table = (State.scanTable { s.scanLevels ps rs with cell := .clearOut }).table := by
    simp [State.scanned]
  rw [ht, State.scanTable_get (s := { s.scanLevels ps rs with cell := .clearOut }) hn,
    ← State.occupied_scanLevels (s := s) ps rs p]
  rfl

theorem State.scanned_strays (hn : ∀ p, s.table.get p = none) : (s.scanned ps rs).strays := fun p r hr => by
  rw [State.scanned_get ps rs hn] at hr
  split at hr
  · cases hr
    exact Record.isStray_strandedAt p
  · cases hr

/-- Every bit of STATUS's positions is a position's. -/
theorem exists_positionBit {i : Nat} (hi : i < 11) : ∃ p, positionBit p = i := by
  interval_cases i
  exacts [⟨.entry, rfl⟩, ⟨.transport, rfl⟩, ⟨.spray, rfl⟩, ⟨.gate, rfl⟩, ⟨.tunnel0, rfl⟩, ⟨.tunnel1, rfl⟩, ⟨.tunnel2, rfl⟩,
    ⟨.tunnel3, rfl⟩, ⟨.tunnel4, rfl⟩, ⟨.tunnel5, rfl⟩, ⟨.exit, rfl⟩]

/-- The scan finds no board exactly where no position sensor is occupied. -/
theorem State.scanned_tableEmpty (hn : ∀ p, s.table.get p = none) : (s.scanned ps rs).tableEmpty = true ↔ ps = 0 := by
  rw [State.tableEmpty_iff]
  constructor
  · intro h
    refine BitVec.eq_of_getLsbD_eq fun i hi => ?_
    obtain ⟨p, rfl⟩ := exists_positionBit hi
    have hp := h p
    rw [State.scanned_get ps rs hn] at hp
    split at hp
    · cases hp
    next hb => simpa using hb
  · rintro rfl p
    rw [State.scanned_get 0 rs hn]
    simp

theorem State.scanned_list (s : State) : (s.scanned ps rs).holds.list =
    (List.finRange 8).filterMap fun k => if rs.getLsbD k.val then some (strandedEntry k s.seconds) else none := by
  have hrack (k : Fin 8) : (State.scanTable { s.scanLevels ps rs with cell := .clearOut }).rackOccupied k = rs.getLsbD k.val := by
    rw [← State.rackOccupied_scanLevels (s := s) ps rs k]
    simp [State.rackOccupied]
  have hsec : (State.scanTable { s.scanLevels ps rs with cell := .clearOut }).seconds = s.seconds := by simp
  unfold State.scanned
  rw [show ∀ u : State, u.scanTunnel.holds = u.holds from fun _ => rfl, State.scanRack_list, map_filter_eq_filterMap, hsec]
  simp only [hrack]
  rfl

/-- The hold manager and the link after the near-full test of the scan. -/
theorem State.scanned_nearFull (s : State) :
    (s.scanned ps rs).holds.nearFull = decide (s.cfg.nearFull ≤ (s.scanned ps rs).holds.list.length) ∧
      (s.scanned ps rs).holds.filters = s.holds.filters ∧
      (s.scanned ps rs).link = if s.cfg.nearFull ≤ (s.scanned ps rs).holds.list.length ∧ s.holds.nearFull = false then
        (s.notice 5 [byteOf (s.scanned ps rs).holds.list.length, byteOf s.cfg.nearFull]).link else s.link := by
  let a : State := State.scanTable { s.scanLevels ps rs with cell := .clearOut }
  let b : State := { a with holds := { a.holds with
    list := (rackPositions.filter a.rackOccupied).map fun k => strandedEntry k a.seconds } }
  have hholds : (s.scanned ps rs).holds = b.nearFullTest.holds := rfl
  have hlink : (s.scanned ps rs).link = b.nearFullTest.link := rfl
  have hcfg : b.cfg = s.cfg := by simp [b, a]
  have hnf : b.holds.nearFull = s.holds.nearFull := by simp [b, a]
  have hl : b.link = s.link := by simp [b, a]
  have hlist : b.nearFullTest.holds.list = b.holds.list := State.nearFullTest_list b
  have hnotice (x : List Byte) : (b.notice 5 x).link = (s.notice 5 x).link := by
    unfold State.notice State.post State.telegram
    rw [hcfg]
    split <;> simp [hl]
  refine ⟨?_, ?_, ?_⟩
  · rw [hholds, State.nearFullTest_nearFull, hlist, hcfg]
  · rw [hholds, State.nearFullTest_filters]
    simp [b, a]
  · rw [hlink, hholds, State.nearFullTest_link, hlist, hcfg, hnf, hl, hnotice]

end

/-- Settles O6: the scan as found, the clear-out test, and what starts among stray boards. -/
theorem clearOutScanFindsBoards : Obligations.ClearOutScanFindsBoards := by
  intro s ps rs hc hl hn
  let c := s.scanned ps rs
  let u := c.clearOutTest
  have hu : u.strays := (State.scanned_strays ps rs hn).of_table (by simp [u, c])
  have hphase : u.tunnel.phase = .dwell := by simp [u, c, State.scanned, State.scanTunnel]
  obtain ⟨hstr, htun, hlnk⟩ := State.starts_of_strays hu hphase
  have hstay := u.boardsStay_starts
  have hholds : u.starts.holds = { c.holds with rackSelect := u.starts.holds.rackSelect } := by
    have := congrArg State.holds u.started_starts
    rw [this]
    simp [State.started, u]
  obtain ⟨hnear, hfil, hnote⟩ := State.scanned_nearFull ps rs s
  have hutab : u.table = c.table := by simp [u]
  refine ⟨u.starts, State.exec_clearOutScan ps rs hc hl, ?_, fun p hp => ?_, fun p hp => ?_, ?_, ?_, fun hpu => ?_,
    fun p => ?_, fun k => ?_, ?_, ?_, ?_, ?_, ?_, ?_, ?_⟩
  · have hcell : c.cell = .clearOut := by simp [c, State.scanned]
    have hhold : c.tracker.hold = s.tracker.hold := by simp [c, State.scanned]
    have hempty : c.tableEmpty = true ↔ ps = 0 := State.scanned_tableEmpty ps rs hn
    rw [show u.starts.cell = u.cell by simp]
    simp only [u, State.clearOutTest, hcell, true_and, hempty, hhold]
    by_cases h0 : ps = 0
    · rw [if_pos h0, if_neg (not_not_intro h0)]
    · rw [if_neg h0, if_pos h0, hcell]
  · have h := hstay p
    rw [hutab, State.scanned_get ps rs hn, if_neg (by simp [hp])] at h
    generalize u.starts.table.get p = o at h
    cases h
    rfl
  · have h := hstay p
    rw [hutab, State.scanned_get ps rs hn, if_pos hp] at h
    cases ho : u.starts.table.get p with
    | none => rw [ho] at h; cases h
    | some r => exact ⟨r, rfl, hstr p r ho⟩
  · rw [hholds]
    exact State.scanned_list ps rs s
  · rw [hholds]
    exact hnear
  · rw [hlnk (by simpa [u, c, State.scanned] using hpu), hholds]
    exact (show u.link = c.link by simp [u]).trans hnote
  · simp [u, c, State.scanned, State.scanLevels, Filter.forced]
  · simp [u, c, State.scanned, State.scanLevels, Filter.forced]
  · rw [htun]; exact hphase
  · rw [htun]; simp [u, c, State.scanned, State.scanTunnel]
  · rw [htun]; simp [u, c, State.scanned, State.scanTunnel]
  · simp [u, c, State.scanned, State.fixed]
  · simp [u, c, State.scanned]
  · simp [u, c, State.scanned]
  · rw [hholds]
    exact hfil

end Sys2Proof.Machine

end

section

namespace Sys2Proof.Machine

/-! ## The filters (R11) -/

theorem Filter.edge_eq_some {f : Filter} {b : Bool} :
    f.edge = some b ↔ f.raw = b ∧ f.last = some b ∧ f.level = some (!b) := by
  unfold Filter.edge Filter.agrees
  constructor
  · intro h
    split at h
    next hc =>
      simp only [Bool.and_eq_true, beq_iff_eq] at hc
      cases h
      exact ⟨rfl, hc⟩
    · cases h
  · rintro ⟨rfl, hl, hv⟩
    simp [hl, hv]

theorem Filter.sampled_eq (f : Filter) : f.sampled = { f with
    last := some f.raw, level := if f.level = none ∧ f.last = some f.raw then some f.raw else f.level } := by
  unfold Filter.sampled Filter.next Filter.agrees
  cases hv : f.level with
  | none => simp
  | some v => simp

/-- The index-done filter takes every level but the active one that INDEX_DONE takes (log 62). -/
theorem Filter.indexDone_eq (f : Filter) : (if f.edge = some true then f.sampled else f.followed) = { f with
    last := some f.raw
    level := if f.last = some f.raw ∧ ¬ (f.raw = true ∧ f.level = some false) then some f.raw else f.level } := by
  have he := Filter.edge_eq_some (f := f) (b := true)
  by_cases h : f.edge = some true
  · obtain ⟨hr, hl, hv⟩ := he.1 h
    rw [if_pos h, Filter.sampled_eq]
    simp [hr, hl, hv]
  · rw [if_neg h]
    unfold Filter.followed Filter.next Filter.agrees
    by_cases hl : f.last = some f.raw
    · have hno : ¬ (f.raw = true ∧ f.level = some false) := fun ⟨hr, hv⟩ => h (he.2 ⟨hr, by rw [hl, hr], hv⟩)
      simp [hl, hno]
    · simp [hl]

theorem Filter.next_eq (f : Filter) : f.next = if f.last = some f.raw then some f.raw else f.level := by
  simp [Filter.next, Filter.agrees]

/-! ## The commands that a millisecond queues (log 19) -/

section
variable {c : Instr} {hold : Bool}

theorem mem_queued {b : Bool} {i : Instr} : c ∈ queued b i ↔ c = i ∧ b = true := by
  unfold queued
  cases b <;> simp

theorem mem_map_getD {α : Type} {o : Option α} {f : α → List Instr} : c ∈ (o.map f).getD [] ↔ ∃ x, o = some x ∧ c ∈ f x := by
  cases o <;> simp

theorem runsOut_iff {o : Option Nat} : runsOut o = true ↔ ∃ k, o = some k ∧ k ≤ 1 := by
  cases o <;> simp [runsOut]

/-- The commands of a handoff timer. -/
theorem mem_handoffDue {h : Handoff} : c ∈ handoffDue hold h ↔
    (c = .answerWaitExpiry ∧ ∃ n k, h = .offered n (.answer k) ∧ k ≤ 1) ∨
    (c = .reOfferWaitExpiry ∧ ∃ n k, h = .offered n (.reOffer k) ∧ k ≤ 1) ∨
    (c = .upstreamTransferTimeout ∧ hold = false ∧ ∃ n x v k, h = .transferring n x v (some k) ∧ k ≤ 1) := by
  cases h with
  | offered n w => cases w <;> simp [handoffDue, mem_queued]
  | transferring n x v k =>
    simp only [handoffDue, mem_queued, Bool.and_eq_true, Bool.not_eq_true', runsOut_iff]
    constructor
    · rintro ⟨rfl, hh, j, rfl, hj⟩
      exact .inr (.inr ⟨rfl, hh, n, x, v, j, rfl, hj⟩)
    · rintro (⟨-, _, _, h, -⟩ | ⟨-, _, _, h, -⟩ | ⟨rfl, hh, _, _, _, j, h, hj⟩)
      · cases h
      · cases h
      · cases h
        exact ⟨rfl, hh, j, rfl, hj⟩

/-- The commands of an arrival timer. -/
theorem mem_arrivalDue {a : Arrival} : c ∈ arrivalDue hold a ↔
    (c = .entryReadTimeout ∧ ∃ k, a = .reading k ∧ k ≤ 1) ∨
    (c = .orphanWaitExpiry ∧ hold = false ∧ ∃ o k, a = .orphan o k ∧ k ≤ 1) := by
  cases a <;> simp [arrivalDue, mem_queued]

/-- The commands of the arrival entries: the second entry's place is 1 where the first one stays. -/
theorem mem_entriesDue {l : List ArrivalEntry} : c ∈ entriesDue l ↔
    (c = .downstreamTransferTimeout 0 ∧ ∃ e, l[0]? = some e ∧ (e.timer ≤ 1)) ∨
    (c = .downstreamTransferTimeout 1 ∧ ∃ e f, l[0]? = some e ∧ l[1]? = some f ∧ 1 < e.timer ∧ f.timer ≤ 1) := by
  unfold entriesDue
  split
  · simp
  · simp [mem_queued]
  next e f t =>
    split
    next he =>
      have hn : ¬ 1 < e.timer := by omega
      simpa [mem_queued, he, hn] using fun h _ => h
    next he => simp [mem_queued, he, Nat.lt_of_not_le he]

theorem count_queued (i : Instr) (b : Bool) (j : Instr) : (queued b i).count j = if b = true ∧ i = j then 1 else 0 := by
  unfold queued
  cases b
  · simp
  · by_cases h : i = j <;> simp [h]

/-- One command for each of the first two arrival entries that run out. -/
theorem count_entriesDue (l : List ArrivalEntry) :
    (entriesDue l).count (.downstreamTransferTimeout 0) + (entriesDue l).count (.downstreamTransferTimeout 1) =
      ((l.take 2).filter fun e => decide (e.timer ≤ 1)).length := by
  unfold entriesDue
  split
  · simp
  next e => by_cases h : e.timer ≤ 1 <;> simp [count_queued, h]
  next e f t =>
    by_cases he : e.timer ≤ 1 <;> by_cases hf : f.timer ≤ 1 <;> simp [count_queued, he, hf]

theorem mem_positionEdge {p : Position} {f : Filter} : c ∈ positionEdge p f ↔
    (c = .occupiedEdge p ∧ f.edge = some true) ∨ (c = .emptyEdge p ∧ f.edge = some false) := by
  unfold positionEdge
  rcases f.edge with _ | _ | _ <;> simp

theorem mem_rackEdgeOf {k : Fin 8} {f : Filter} : c ∈ rackEdgeOf k f ↔
    (c = .rackOccupiedEdge k ∧ f.edge = some true) ∨ (c = .rackEmptyEdge k ∧ f.edge = some false) := by
  unfold rackEdgeOf
  rcases f.edge with _ | _ | _ <;> simp

theorem mem_maskEdge {k : Fin 32} {f : Filter} : c ∈ maskEdge k f ↔ ∃ b, c = .maskChannelEdge k b ∧ f.edge = some b := by
  unfold maskEdge
  rcases f.edge with _ | _ | _ <;> simp

/-- The commands of the guard input: a first level is no edge (R222). -/
theorem mem_guardEdge {f : Filter} : c ∈ guardEdge f ↔
    (c = .guardFirstLevel f.raw ∧ f.level = none ∧ f.last = some f.raw) ∨ (c = .guardOpening ∧ f.edge = some true) ∨
      (c = .guardClosing ∧ f.edge = some false) := by
  have hedge {b : Bool} (h : f.edge = some b) : f.level ≠ none := by
    obtain ⟨-, -, hlevel⟩ := Filter.edge_eq_some.1 h
    simp [hlevel]
  unfold guardEdge Filter.agrees
  by_cases hf : f.level = none ∧ f.last = some f.raw
  · have h1 : f.edge ≠ some true := fun h => hedge h hf.1
    have h2 : f.edge ≠ some false := fun h => hedge h hf.1
    simp [hf.1, hf.2, h1, h2]
  · have hb : (f.level.isNone && f.last == some f.raw) = false := by
      rw [Bool.eq_false_iff]
      simpa using hf
    rw [hb]
    rcases f.edge with _ | _ | _ <;> simp [hf]

end

/-- The commands of the timers. -/
theorem State.mem_timersDue {s : State} {c : Instr} : c ∈ s.timersDue ↔
    (c = .supplyTick ∧ s.supply.tickMs ≤ 1) ∨ (c = .speedWindowEnd ∧ s.spray.windowMs ≤ 1) ∨
    (c = .learningTimeEnd ∧ runsOut s.supply.learning = true) ∨ (c = .reClaimTimerExpiry ∧ runsOut s.supply.reClaim = true) ∨
    (c = .passStallTimeout ∧ runsOut s.spray.abort = true) ∨ (c = .purgeTimerExpiry ∧ runsOut s.spray.purgeTimer = true) ∨
    (c = .indexTimeout ∧ runsOut s.tunnel.timeout = true) ∨
    (c = .probeReadTimeout ∧ runsOut (s.tunnel.poll.map (·.timer)) = true) ∨ (c = .cureTick ∧ s.tunnel.cureMs ≤ 1) ∨
    (∃ h, s.exitHandoff = some h ∧ c ∈ handoffDue s.tracker.hold h) ∨
    (s.tracker.hold = false ∧ c ∈ entriesDue s.tracker.arrivals) ∨
    (∃ a, s.tracker.arrival = some a ∧ c ∈ arrivalDue s.tracker.hold a) ∨
    (c = .receivedRepost ∧ ∃ r ∈ s.tracker.reposts, r.timer ≤ 1) ∨ (c = .settleTimeExpiry ∧ runsOut s.tracker.settle = true) := by
  have hrepost : c ∈ (s.tracker.reposts.filter fun r => decide (r.timer ≤ 1)).map (fun _ => Instr.receivedRepost) ↔
      c = .receivedRepost ∧ ∃ r ∈ s.tracker.reposts, r.timer ≤ 1 := by
    simp only [List.mem_map, List.mem_filter, decide_eq_true_eq]
    exact ⟨fun ⟨r, hr, hc⟩ => ⟨hc.symm, r, hr⟩, fun ⟨hc, r, hr⟩ => ⟨r, hr, hc.symm⟩⟩
  have hentries : c ∈ (if s.tracker.hold then [] else entriesDue s.tracker.arrivals) ↔
      s.tracker.hold = false ∧ c ∈ entriesDue s.tracker.arrivals := by
    cases s.tracker.hold <;> simp
  unfold State.timersDue
  simp only [List.mem_append, mem_queued, mem_map_getD, hrepost, hentries, decide_eq_true_eq, or_assoc]

/-- The commands of a sample. -/
theorem State.mem_sampleDue {s : State} {c : Instr} : c ∈ s.sampleDue ↔
    c ∈ guardEdge s.inputs.guard ∨ (∃ p, c ∈ positionEdge p (s.inputs.pos.get p)) ∨
    (∃ k : Fin 8, c ∈ rackEdgeOf k s.inputs.rack[k]) ∨ (c = .indexDone ∧ s.inputs.indexDone.edge = some true) ∨
    (∃ k : Fin 32, c ∈ maskEdge k s.inputs.mask[k]) ∨ (c = s.scanCommand ∧ s.scanDue = true) := by
  have hpos (p : Position) : p ∈ positions := by cases p <;> decide
  have hrack (k : Fin 8) : k ∈ rackPositions := by revert k; decide
  unfold State.sampleDue
  simp only [List.mem_append, List.mem_flatMap, indexDoneEdge, mem_queued, hpos, hrack, List.mem_finRange, true_and, beq_iff_eq,
    or_assoc]

end Sys2Proof.Machine

end

section

namespace Sys2Proof.Machine

/-! ## The levels of the clear-out scan (R21) -/

/-- The bits of a number made of bits. -/
theorem testBit_bitsToNat (bits : List Bool) (i : Nat) : (bitsToNat bits).testBit i = bits.getD i false := by
  induction bits generalizing i with
  | nil => simp [bitsToNat]
  | cons b l ih =>
    have hcons : bitsToNat (b :: l) = 2 * bitsToNat l + b.toNat := rfl
    rw [hcons]
    cases i with
    | zero => cases b <;> simp [Nat.testBit_zero]
    | succ i =>
      rw [Nat.testBit_succ, List.getD_cons_succ, ← ih]
      congr 1
      cases b with
      | false => simp
      | true => simp; omega

theorem getLsbD_bitsToNat {n : Nat} {bits : List Bool} {i : Nat} (hi : i < n) :
    (BitVec.ofNat n (bitsToNat bits)).getLsbD i = bits.getD i false := by
  rw [BitVec.getLsbD_ofNat, testBit_bitsToNat]
  simp [hi]

theorem positionBit_lt (p : Position) : positionBit p < 11 := by cases p <;> decide

/-- A bit vector is a number made of bits where its bits are those. -/
theorem eq_ofNat_bitsToNat_iff {n : Nat} {v : BitVec n} {bits : List Bool} :
    v = BitVec.ofNat n (bitsToNat bits) ↔ ∀ i, i < n → v.getLsbD i = bits.getD i false := by
  constructor
  · rintro rfl i hi
    exact getLsbD_bitsToNat hi
  · intro h
    exact BitVec.eq_of_getLsbD_eq fun i hi => by rw [h i hi, getLsbD_bitsToNat hi]

section
variable {s : State}

theorem eq_positionBits_iff {t : PerPos Filter} {f : Filter → Bool} {ps : BitVec 11} :
    ps = BitVec.ofNat 11 (bitsToNat (t.toList.map f)) ↔ ∀ p, ps.getLsbD (positionBit p) = f (t.get p) := by
  have hget (p : Position) : (t.toList.map f).getD (positionBit p) false = f (t.get p) := by cases p <;> rfl
  rw [eq_ofNat_bitsToNat_iff]
  constructor
  · intro h p
    rw [h _ (positionBit_lt p), hget]
  · intro h i hi
    obtain ⟨p, rfl⟩ := exists_positionBit hi
    rw [h p, hget]

theorem eq_rackBits_iff {v : Vector Filter 8} {f : Filter → Bool} {rs : BitVec 8} :
    rs = BitVec.ofNat 8 (bitsToNat (v.toList.map f)) ↔ ∀ k : Fin 8, rs.getLsbD k.val = f v[k] := by
  have hget (i : Nat) (hi : i < 8) : (v.toList.map f).getD i false = f v[i] := by simp [List.getD, hi]
  rw [eq_ofNat_bitsToNat_iff]
  constructor
  · intro h k
    rw [h _ k.isLt, hget _ k.isLt]
    rfl
  · intro h i hi
    rw [hget i hi]
    exact h ⟨i, hi⟩

/-- The clear-out scan is queued, in START with every level known, with the levels as they stand. -/
theorem State.scanCommand_iff {ps : BitVec 11} {rs : BitVec 8} :
    (Instr.clearOutScan ps rs = s.scanCommand ∧ s.scanDue = true) ↔ s.cell = .start ∧
      (∀ p, (s.inputs.pos.get p).next = some (ps.getLsbD (positionBit p))) ∧
      ∀ k : Fin 8, s.inputs.rack[k].next = some (rs.getLsbD k.val) := by
  have hall : (s.inputs.scanFilters.all fun f => f.next.isSome) = true ↔
      (∀ p, (s.inputs.pos.get p).next.isSome = true) ∧ ∀ k : Fin 8, s.inputs.rack[k].next.isSome = true := by
    simp only [Inputs.scanFilters, List.all_append, Bool.and_eq_true, List.all_eq_true]
    refine and_congr ⟨fun h p => h _ ((PerPos.mem_toList _ _).2 ⟨p, rfl⟩), fun h f hf => ?_⟩
      ⟨fun h k => h _ (by simp), fun h f hf => ?_⟩
    · obtain ⟨p, rfl⟩ := (PerPos.mem_toList _ _).1 hf
      exact h p
    · obtain ⟨i, hi, rfl⟩ := List.mem_iff_getElem.1 hf
      exact h ⟨i, by simpa using hi⟩
  have hlevel (o : Option Bool) (b : Bool) : (b = (o == some true) ∧ o.isSome = true) ↔ o = some b := by
    rcases o with _ | _ | _ <;> cases b <;> simp
  simp only [State.scanCommand, State.scanDue, Instr.clearOutScan.injEq, eq_positionBits_iff, eq_rackBits_iff, Bool.and_eq_true,
    beq_iff_eq, hall]
  constructor
  · rintro ⟨⟨hp, hr⟩, hc, hps, hrs⟩
    exact ⟨hc, fun p => (hlevel _ _).1 ⟨hp p, hps p⟩, fun k => (hlevel _ _).1 ⟨hr k, hrs k⟩⟩
  · rintro ⟨hc, hp, hr⟩
    exact ⟨⟨fun p => ((hlevel _ _).2 (hp p)).1, fun k => ((hlevel _ _).2 (hr k)).1⟩, hc, fun p => ((hlevel _ _).2 (hp p)).2,
      fun k => ((hlevel _ _).2 (hr k)).2⟩

end

/-! ## The millisecond (log 3) -/

/-- The commands that a millisecond queues. -/
def State.msDue (s : State) : List Instr :=
  queued (decide (999 ≤ s.secondsMs)) .cellSecondsTick ++ s.timersDue ++ if s.inputs.clock ≤ 1 then s.sampleDue else []

/-- The filters after a millisecond. -/
def State.msInputs (s : State) : Inputs :=
  if s.inputs.clock ≤ 1 then s.inputs.sample s.cfg.filterClock else { s.inputs with clock := s.inputs.clock - 1 }

section
variable {s : State}

theorem State.idleMs_eq (hp : s.pending = []) (hl : s.loaded = true) : s.idleMs = { s.timersDown with
    pending := s.msDue
    secondsMs := if s.secondsMs < 999 then s.secondsMs + 1 else 0
    inputs := s.msInputs } := by
  have hsec : s.secondsMsDown = { s with
      pending := queued (decide (999 ≤ s.secondsMs)) .cellSecondsTick
      secondsMs := if s.secondsMs < 999 then s.secondsMs + 1 else 0 } := by
    unfold State.secondsMsDown queued
    by_cases h : s.secondsMs < 999
    · simp [h, hp, show s.secondsMs + 1 < 1000 by omega, Nat.not_le.2 h]
    · simp [h, hp, show ¬ s.secondsMs + 1 < 1000 by omega, Nat.le_of_not_lt h]
  unfold State.idleMs
  rw [if_pos hl, hsec]
  unfold State.liveMs State.msDue State.msInputs
  by_cases hc : s.inputs.clock ≤ 1
  · rw [if_pos hc, if_pos hc]
    exact if_pos hc
  · rw [if_neg hc, if_neg hc, List.append_nil]
    exact if_neg hc

theorem State.mem_msDue {c : Instr} : c ∈ s.msDue ↔
    (c = .cellSecondsTick ∧ 999 ≤ s.secondsMs) ∨ c ∈ s.timersDue ∨ (s.inputs.clock ≤ 1 ∧ c ∈ s.sampleDue) := by
  unfold State.msDue
  by_cases h : s.inputs.clock ≤ 1 <;> simp [h, mem_queued]

end

end Sys2Proof.Machine

end

section

namespace Sys2Proof.Machine

section
variable {s : State} {c : Instr}

/-- When a millisecond queues a timer's command. -/
theorem State.mem_timersDue_iff : c ∈ s.timersDue ↔
    (c = .supplyTick ∧ s.supply.tickMs ≤ 1) ∨ (c = .speedWindowEnd ∧ s.spray.windowMs ≤ 1) ∨
    (c = .learningTimeEnd ∧ ∃ k, s.supply.learning = some k ∧ k ≤ 1) ∨
    (c = .reClaimTimerExpiry ∧ ∃ k, s.supply.reClaim = some k ∧ k ≤ 1) ∨
    (c = .passStallTimeout ∧ ∃ k, s.spray.abort = some k ∧ k ≤ 1) ∨
    (c = .purgeTimerExpiry ∧ ∃ k, s.spray.purgeTimer = some k ∧ k ≤ 1) ∨
    (c = .indexTimeout ∧ ∃ k, s.tunnel.timeout = some k ∧ k ≤ 1) ∨
    (c = .probeReadTimeout ∧ ∃ rd, s.tunnel.poll = some rd ∧ rd.timer ≤ 1) ∨ (c = .cureTick ∧ s.tunnel.cureMs ≤ 1) ∨
    (c = .answerWaitExpiry ∧ ∃ r n k, s.table.exit = some r ∧ r.handoff = some (.offered n (.answer k)) ∧ k ≤ 1) ∨
    (c = .reOfferWaitExpiry ∧ ∃ r n k, s.table.exit = some r ∧ r.handoff = some (.offered n (.reOffer k)) ∧ k ≤ 1) ∨
    (c = .upstreamTransferTimeout ∧ s.tracker.hold = false ∧
      ∃ r n x v k, s.table.exit = some r ∧ r.handoff = some (.transferring n x v (some k)) ∧ k ≤ 1) ∨
    (c = .downstreamTransferTimeout 0 ∧ s.tracker.hold = false ∧ ∃ e, s.tracker.arrivals[0]? = some e ∧ e.timer ≤ 1) ∨
    (c = .downstreamTransferTimeout 1 ∧ s.tracker.hold = false ∧ ∃ e f, s.tracker.arrivals[0]? = some e ∧
      s.tracker.arrivals[1]? = some f ∧ 1 < e.timer ∧ f.timer ≤ 1) ∨
    (c = .entryReadTimeout ∧ ∃ k, s.tracker.arrival = some (.reading k) ∧ k ≤ 1) ∨
    (c = .orphanWaitExpiry ∧ s.tracker.hold = false ∧ ∃ o k, s.tracker.arrival = some (.orphan o k) ∧ k ≤ 1) ∨
    (c = .receivedRepost ∧ ∃ r ∈ s.tracker.reposts, r.timer ≤ 1) ∨
    (c = .settleTimeExpiry ∧ ∃ k, s.tracker.settle = some k ∧ k ≤ 1) := by
  have hpoll : runsOut (s.tunnel.poll.map (·.timer)) = true ↔ ∃ rd, s.tunnel.poll = some rd ∧ rd.timer ≤ 1 := by
    rw [runsOut_iff]
    cases s.tunnel.poll <;> simp
  have hhandoff : (∃ h, s.exitHandoff = some h ∧ c ∈ handoffDue s.tracker.hold h) ↔
      (c = .answerWaitExpiry ∧ ∃ r n k, s.table.exit = some r ∧ r.handoff = some (.offered n (.answer k)) ∧ k ≤ 1) ∨
      (c = .reOfferWaitExpiry ∧ ∃ r n k, s.table.exit = some r ∧ r.handoff = some (.offered n (.reOffer k)) ∧ k ≤ 1) ∨
      (c = .upstreamTransferTimeout ∧ s.tracker.hold = false ∧
        ∃ r n x v k, s.table.exit = some r ∧ r.handoff = some (.transferring n x v (some k)) ∧ k ≤ 1) := by
    simp only [mem_handoffDue, State.exitHandoff, Option.bind_eq_some_iff]
    constructor
    · rintro ⟨h, ⟨r, hr, hh⟩, ⟨hc, n, k, rfl, hk⟩ | ⟨hc, n, k, rfl, hk⟩ | ⟨hc, ho, n, x, v, k, rfl, hk⟩⟩
      · exact .inl ⟨hc, r, n, k, hr, hh, hk⟩
      · exact .inr (.inl ⟨hc, r, n, k, hr, hh, hk⟩)
      · exact .inr (.inr ⟨hc, ho, r, n, x, v, k, hr, hh, hk⟩)
    · rintro (⟨hc, r, n, k, hr, hh, hk⟩ | ⟨hc, r, n, k, hr, hh, hk⟩ | ⟨hc, ho, r, n, x, v, k, hr, hh, hk⟩)
      · exact ⟨_, ⟨r, hr, hh⟩, .inl ⟨hc, n, k, rfl, hk⟩⟩
      · exact ⟨_, ⟨r, hr, hh⟩, .inr (.inl ⟨hc, n, k, rfl, hk⟩)⟩
      · exact ⟨_, ⟨r, hr, hh⟩, .inr (.inr ⟨hc, ho, n, x, v, k, rfl, hk⟩)⟩
  have harrival : (∃ a, s.tracker.arrival = some a ∧ c ∈ arrivalDue s.tracker.hold a) ↔
      (c = .entryReadTimeout ∧ ∃ k, s.tracker.arrival = some (.reading k) ∧ k ≤ 1) ∨
      (c = .orphanWaitExpiry ∧ s.tracker.hold = false ∧ ∃ o k, s.tracker.arrival = some (.orphan o k) ∧ k ≤ 1) := by
    simp only [mem_arrivalDue]
    constructor
    · rintro ⟨a, ha, ⟨hc, k, rfl, hk⟩ | ⟨hc, ho, o, k, rfl, hk⟩⟩
      · exact .inl ⟨hc, k, ha, hk⟩
      · exact .inr ⟨hc, ho, o, k, ha, hk⟩
    · rintro (⟨hc, k, ha, hk⟩ | ⟨hc, ho, o, k, ha, hk⟩)
      · exact ⟨_, ha, .inl ⟨hc, k, rfl, hk⟩⟩
      · exact ⟨_, ha, .inr ⟨hc, ho, o, k, rfl, hk⟩⟩
  have hentries : (s.tracker.hold = false ∧ c ∈ entriesDue s.tracker.arrivals) ↔
      (c = .downstreamTransferTimeout 0 ∧ s.tracker.hold = false ∧ ∃ e, s.tracker.arrivals[0]? = some e ∧ e.timer ≤ 1) ∨
      (c = .downstreamTransferTimeout 1 ∧ s.tracker.hold = false ∧ ∃ e f, s.tracker.arrivals[0]? = some e ∧
        s.tracker.arrivals[1]? = some f ∧ 1 < e.timer ∧ f.timer ≤ 1) := by
    rw [mem_entriesDue, and_or_left]
    exact or_congr and_left_comm and_left_comm
  rw [State.mem_timersDue]
  simp only [runsOut_iff (o := s.supply.learning), runsOut_iff (o := s.supply.reClaim), runsOut_iff (o := s.spray.abort),
    runsOut_iff (o := s.spray.purgeTimer), runsOut_iff (o := s.tunnel.timeout), runsOut_iff (o := s.tracker.settle), hpoll,
    hhandoff, harrival, hentries, or_assoc]

/-- An edge that stands at a sample: two agreeing samples against the level (R11). -/
def Filter.standing (f : Filter) (b : Bool) : Prop := f.raw = b ∧ f.last = some b ∧ f.level = some (!b)

/-- When a sample queues a command. -/
theorem State.mem_sampleDue_iff : c ∈ s.sampleDue ↔
    (∃ b, c = .guardFirstLevel b ∧ s.inputs.guard.level = none ∧ s.inputs.guard.raw = b ∧ s.inputs.guard.last = some b) ∨
    (c = .guardOpening ∧ s.inputs.guard.standing true) ∨ (c = .guardClosing ∧ s.inputs.guard.standing false) ∨
    (∃ p, c = .occupiedEdge p ∧ (s.inputs.pos.get p).standing true) ∨
    (∃ p, c = .emptyEdge p ∧ (s.inputs.pos.get p).standing false) ∨
    (∃ k : Fin 8, c = .rackOccupiedEdge k ∧ s.inputs.rack[k].standing true) ∨
    (∃ k : Fin 8, c = .rackEmptyEdge k ∧ s.inputs.rack[k].standing false) ∨
    (c = .indexDone ∧ s.inputs.indexDone.standing true) ∨
    (∃ (k : Fin 32) (b : Bool), c = .maskChannelEdge k b ∧ s.inputs.mask[k].standing b) ∨
    ∃ ps rs, c = .clearOutScan ps rs ∧ s.cell = .start ∧
      (∀ p, (s.inputs.pos.get p).next = some (ps.getLsbD (positionBit p))) ∧
      ∀ k : Fin 8, s.inputs.rack[k].next = some (rs.getLsbD k.val) := by
  have hscan : (c = s.scanCommand ∧ s.scanDue = true) ↔ ∃ ps rs, c = .clearOutScan ps rs ∧ s.cell = .start ∧
      (∀ p, (s.inputs.pos.get p).next = some (ps.getLsbD (positionBit p))) ∧
      ∀ k : Fin 8, s.inputs.rack[k].next = some (rs.getLsbD k.val) := by
    constructor
    · rintro ⟨rfl, hd⟩
      exact ⟨_, _, rfl, State.scanCommand_iff.1 ⟨rfl, hd⟩⟩
    · rintro ⟨ps, rs, rfl, h⟩
      exact State.scanCommand_iff.2 h
  have hfirst : (c = .guardFirstLevel s.inputs.guard.raw ∧ s.inputs.guard.level = none ∧
      s.inputs.guard.last = some s.inputs.guard.raw) ↔ ∃ b, c = .guardFirstLevel b ∧ s.inputs.guard.level = none ∧
      s.inputs.guard.raw = b ∧ s.inputs.guard.last = some b := by
    constructor
    · rintro ⟨hc, hl, ha⟩
      exact ⟨_, hc, hl, rfl, ha⟩
    · rintro ⟨b, hc, hl, rfl, ha⟩
      exact ⟨hc, hl, ha⟩
  rw [State.mem_sampleDue]
  simp only [mem_guardEdge, mem_positionEdge, mem_rackEdgeOf, mem_maskEdge, Filter.edge_eq_some, exists_or, hscan, hfirst,
    or_assoc, Filter.standing]

/-! ## What a millisecond leaves in each part -/

theorem State.msInputs_pos (s : State) (p : Position) : s.msInputs.pos.get p =
    if s.inputs.clock ≤ 1 then (s.inputs.pos.get p).sampled else s.inputs.pos.get p := by
  unfold State.msInputs
  split <;> simp [Inputs.sample]

theorem State.msInputs_mask (s : State) (k : Fin 32) : s.msInputs.mask[k] =
    if s.inputs.clock ≤ 1 then s.inputs.mask[k].sampled else s.inputs.mask[k] := by
  unfold State.msInputs
  split <;> simp [Inputs.sample]

theorem State.msInputs_rack (s : State) (k : Fin 8) : s.msInputs.rack[k] =
    if s.inputs.clock ≤ 1 then s.inputs.rack[k].sampled else s.inputs.rack[k] := by
  unfold State.msInputs
  split <;> simp [Inputs.sample]

theorem handoffDown_transferring (hold : Bool) (n : Option Byte) (x v : Bool) (t : Option Nat) :
    handoffDown hold (.transferring n x v t) = if hold then .transferring n x v t else .transferring n x v (t.map (· - 1)) := by
  cases hold <;> rfl

theorem arrivalDown_orphan (hold : Bool) (o : ReadOutcome) (t : Nat) :
    arrivalDown hold (.orphan o t) = if hold then .orphan o t else .orphan o (t - 1) := by
  cases hold <;> rfl

/-! ### Each command -/

theorem State.supplyTick_due (s : State) : .supplyTick ∈ s.msDue ↔ s.supply.tickMs ≤ 1 := by
  simp [State.mem_msDue, State.mem_timersDue_iff, State.mem_sampleDue_iff]

theorem State.speedWindowEnd_due (s : State) : .speedWindowEnd ∈ s.msDue ↔ s.spray.windowMs ≤ 1 := by
  simp [State.mem_msDue, State.mem_timersDue_iff, State.mem_sampleDue_iff]

theorem State.cureTick_due (s : State) : .cureTick ∈ s.msDue ↔ s.tunnel.cureMs ≤ 1 := by
  simp [State.mem_msDue, State.mem_timersDue_iff, State.mem_sampleDue_iff]

theorem State.learningTimeEnd_due (s : State) : .learningTimeEnd ∈ s.msDue ↔ ∃ k, s.supply.learning = some k ∧ k ≤ 1 := by
  simp [State.mem_msDue, State.mem_timersDue_iff, State.mem_sampleDue_iff]

theorem State.reClaimTimerExpiry_due (s : State) : .reClaimTimerExpiry ∈ s.msDue ↔
    ∃ k, s.supply.reClaim = some k ∧ k ≤ 1 := by
  simp [State.mem_msDue, State.mem_timersDue_iff, State.mem_sampleDue_iff]

theorem State.passStallTimeout_due (s : State) : .passStallTimeout ∈ s.msDue ↔ ∃ k, s.spray.abort = some k ∧ k ≤ 1 := by
  simp [State.mem_msDue, State.mem_timersDue_iff, State.mem_sampleDue_iff]

theorem State.purgeTimerExpiry_due (s : State) : .purgeTimerExpiry ∈ s.msDue ↔ ∃ k, s.spray.purgeTimer = some k ∧ k ≤ 1 := by
  simp [State.mem_msDue, State.mem_timersDue_iff, State.mem_sampleDue_iff]

theorem State.indexTimeout_due (s : State) : .indexTimeout ∈ s.msDue ↔ ∃ k, s.tunnel.timeout = some k ∧ k ≤ 1 := by
  simp [State.mem_msDue, State.mem_timersDue_iff, State.mem_sampleDue_iff]

theorem State.settleTimeExpiry_due (s : State) : .settleTimeExpiry ∈ s.msDue ↔ ∃ k, s.tracker.settle = some k ∧ k ≤ 1 := by
  simp [State.mem_msDue, State.mem_timersDue_iff, State.mem_sampleDue_iff]

theorem State.probeReadTimeout_due (s : State) : .probeReadTimeout ∈ s.msDue ↔
    ∃ rd, s.tunnel.poll = some rd ∧ rd.timer ≤ 1 := by
  simp [State.mem_msDue, State.mem_timersDue_iff, State.mem_sampleDue_iff]

theorem State.answerWaitExpiry_due (s : State) : .answerWaitExpiry ∈ s.msDue ↔
    ∃ r n k, s.table.exit = some r ∧ r.handoff = some (.offered n (.answer k)) ∧ k ≤ 1 := by
  simp [State.mem_msDue, State.mem_timersDue_iff, State.mem_sampleDue_iff]

theorem State.reOfferWaitExpiry_due (s : State) : .reOfferWaitExpiry ∈ s.msDue ↔
    ∃ r n k, s.table.exit = some r ∧ r.handoff = some (.offered n (.reOffer k)) ∧ k ≤ 1 := by
  simp [State.mem_msDue, State.mem_timersDue_iff, State.mem_sampleDue_iff]

theorem State.upstreamTransferTimeout_due (s : State) : .upstreamTransferTimeout ∈ s.msDue ↔
    s.tracker.hold = false ∧
      ∃ r n x v k, s.table.exit = some r ∧ r.handoff = some (.transferring n x v (some k)) ∧ k ≤ 1 := by
  simp [State.mem_msDue, State.mem_timersDue_iff, State.mem_sampleDue_iff]

theorem State.entryReadTimeout_due (s : State) : .entryReadTimeout ∈ s.msDue ↔
    ∃ k, s.tracker.arrival = some (.reading k) ∧ k ≤ 1 := by
  simp [State.mem_msDue, State.mem_timersDue_iff, State.mem_sampleDue_iff]

theorem State.orphanWaitExpiry_due (s : State) : .orphanWaitExpiry ∈ s.msDue ↔
    s.tracker.hold = false ∧ ∃ o k, s.tracker.arrival = some (.orphan o k) ∧ k ≤ 1 := by
  simp [State.mem_msDue, State.mem_timersDue_iff, State.mem_sampleDue_iff]

theorem State.secondTransferTimeout_due (s : State) : .downstreamTransferTimeout 1 ∈ s.msDue ↔
    s.tracker.hold = false ∧
      ∃ e f, s.tracker.arrivals[0]? = some e ∧ s.tracker.arrivals[1]? = some f ∧ 1 < e.timer ∧ f.timer ≤ 1 := by
  simp [State.mem_msDue, State.mem_timersDue_iff, State.mem_sampleDue_iff]

theorem State.cellSecondsTick_due (s : State) : .cellSecondsTick ∈ s.msDue ↔ 999 ≤ s.secondsMs := by
  simp [State.mem_msDue, State.mem_timersDue_iff, State.mem_sampleDue_iff]

theorem State.occupiedEdge_due (s : State) (p : Position) : .occupiedEdge p ∈ s.msDue ↔
    s.inputs.clock ≤ 1 ∧ (s.inputs.pos.get p).standing true := by
  simp [State.mem_msDue, State.mem_timersDue_iff, State.mem_sampleDue_iff]

theorem State.emptyEdge_due (s : State) (p : Position) : .emptyEdge p ∈ s.msDue ↔
    s.inputs.clock ≤ 1 ∧ (s.inputs.pos.get p).standing false := by
  simp [State.mem_msDue, State.mem_timersDue_iff, State.mem_sampleDue_iff]

theorem State.rackOccupiedEdge_due (s : State) (k : Fin 8) : .rackOccupiedEdge k ∈ s.msDue ↔
    s.inputs.clock ≤ 1 ∧ s.inputs.rack[k].standing true := by
  simp [State.mem_msDue, State.mem_timersDue_iff, State.mem_sampleDue_iff]

theorem State.rackEmptyEdge_due (s : State) (k : Fin 8) : .rackEmptyEdge k ∈ s.msDue ↔
    s.inputs.clock ≤ 1 ∧ s.inputs.rack[k].standing false := by
  simp [State.mem_msDue, State.mem_timersDue_iff, State.mem_sampleDue_iff]

theorem State.maskChannelEdge_due (s : State) (k : Fin 32) (b : Bool) : .maskChannelEdge k b ∈ s.msDue ↔
    s.inputs.clock ≤ 1 ∧ s.inputs.mask[k].standing b := by
  simp [State.mem_msDue, State.mem_timersDue_iff, State.mem_sampleDue_iff]
  intro _
  cases b <;> simp

theorem State.indexDone_due (s : State) : .indexDone ∈ s.msDue ↔ s.inputs.clock ≤ 1 ∧ s.inputs.indexDone.standing true := by
  simp [State.mem_msDue, State.mem_timersDue_iff, State.mem_sampleDue_iff]

theorem State.guardOpening_due (s : State) : .guardOpening ∈ s.msDue ↔
    s.inputs.clock ≤ 1 ∧ s.inputs.guard.standing true := by
  simp [State.mem_msDue, State.mem_timersDue_iff, State.mem_sampleDue_iff]

theorem State.guardClosing_due (s : State) : .guardClosing ∈ s.msDue ↔
    s.inputs.clock ≤ 1 ∧ s.inputs.guard.standing false := by
  simp [State.mem_msDue, State.mem_timersDue_iff, State.mem_sampleDue_iff]

theorem State.guardFirstLevel_due (s : State) (b : Bool) : .guardFirstLevel b ∈ s.msDue ↔
    s.inputs.clock ≤ 1 ∧ s.inputs.guard.level = none ∧ s.inputs.guard.raw = b ∧ s.inputs.guard.last = some b := by
  simp [State.mem_msDue, State.mem_timersDue_iff, State.mem_sampleDue_iff]
  intro _
  constructor
  · rintro ⟨rfl, hl, ha⟩
    exact ⟨hl, rfl, ha⟩
  · rintro ⟨hl, rfl, ha⟩
    exact ⟨rfl, hl, ha⟩

theorem State.clearOutScan_due (s : State) (ps : BitVec 11) (rs : BitVec 8) : .clearOutScan ps rs ∈ s.msDue ↔
    s.inputs.clock ≤ 1 ∧ s.cell = .start ∧ (∀ p, (s.inputs.pos.get p).next = some (ps.getLsbD (positionBit p))) ∧
      ∀ k : Fin 8, s.inputs.rack[k].next = some (rs.getLsbD k.val) := by
  simp [State.mem_msDue, State.mem_timersDue_iff, State.mem_sampleDue_iff]

/-- One command for each of the first two arrival entries that run out, but under the drive hold. -/
theorem State.count_msDue_transfer (s : State) :
    s.msDue.count (.downstreamTransferTimeout 0) + s.msDue.count (.downstreamTransferTimeout 1) =
      if s.tracker.hold then 0 else ((s.tracker.arrivals.take 2).filter fun e => decide (e.timer ≤ 1)).length := by
  have hcount (i : Fin 2) : s.msDue.count (.downstreamTransferTimeout i) =
      (if s.tracker.hold then [] else entriesDue s.tracker.arrivals).count (.downstreamTransferTimeout i) := by
    have hs : (if s.inputs.clock ≤ 1 then s.sampleDue else []).count (.downstreamTransferTimeout i) = 0 := by
      refine List.count_eq_zero.2 fun h => ?_
      split at h
      · simp [State.mem_sampleDue_iff] at h
      · simp at h
    have hh : ((s.exitHandoff.map (handoffDue s.tracker.hold)).getD []).count (.downstreamTransferTimeout i) = 0 :=
      List.count_eq_zero.2 fun h => by simp [mem_map_getD, mem_handoffDue] at h
    have ha : ((s.tracker.arrival.map (arrivalDue s.tracker.hold)).getD []).count (.downstreamTransferTimeout i) = 0 :=
      List.count_eq_zero.2 fun h => by simp [mem_map_getD, mem_arrivalDue] at h
    have hr : ((s.tracker.reposts.filter fun r => decide (r.timer ≤ 1)).map fun _ => Instr.receivedRepost).count
        (.downstreamTransferTimeout i) = 0 := List.count_eq_zero.2 fun h => by simp at h
    simp only [State.msDue, State.timersDue, List.count_append, count_queued, hs, hh, ha, hr, reduceCtorEq, and_false, if_false]
    omega
  rw [hcount, hcount]
  cases s.tracker.hold with
  | true => simp
  | false => exact count_entriesDue _

/-- One command for each re-post that runs out. -/
theorem State.count_msDue_repost (s : State) :
    s.msDue.count .receivedRepost = (s.tracker.reposts.filter fun r => decide (r.timer ≤ 1)).length := by
  have hs : (if s.inputs.clock ≤ 1 then s.sampleDue else []).count .receivedRepost = 0 := by
    refine List.count_eq_zero.2 fun h => ?_
    split at h
    · simp [State.mem_sampleDue_iff] at h
    · simp at h
  have hh : ((s.exitHandoff.map (handoffDue s.tracker.hold)).getD []).count .receivedRepost = 0 :=
    List.count_eq_zero.2 fun h => by simp [mem_map_getD, mem_handoffDue] at h
  have ha : ((s.tracker.arrival.map (arrivalDue s.tracker.hold)).getD []).count .receivedRepost = 0 :=
    List.count_eq_zero.2 fun h => by simp [mem_map_getD, mem_arrivalDue] at h
  have he : (if s.tracker.hold then [] else entriesDue s.tracker.arrivals).count .receivedRepost = 0 := by
    refine List.count_eq_zero.2 fun h => ?_
    split at h
    · simp at h
    · simp [mem_entriesDue] at h
  have hr : ((s.tracker.reposts.filter fun r => decide (r.timer ≤ 1)).map fun _ => Instr.receivedRepost).count .receivedRepost =
      (s.tracker.reposts.filter fun r => decide (r.timer ≤ 1)).length := by simp
  simp only [State.msDue, State.timersDue, List.count_append, count_queued, hs, hh, ha, he, hr, reduceCtorEq, and_false, if_false]
  omega

end

/-- Settles O3: the millisecond as one state, its filters one by one, and each command by the timer or the edge that queues it. -/
theorem idleStepIsOneMillisecond : Obligations.IdleStepIsOneMillisecond := by
  intro s hp hl
  refine ⟨s.idleMs, by unfold step; rw [hp], ?_⟩
  intro hold less round samples late sampled edge out levelOf
  have hpend : s.idleMs.pending = s.msDue := by rw [State.idleMs_eq hp hl]
  have hin : s.idleMs.inputs = s.msInputs := by rw [State.idleMs_eq hp hl]
  have hlate : handoffDown s.tracker.hold = late := funext fun h => by
    cases h with
    | offered n w => cases w <;> rfl
    | transferring n x v t =>
      rw [handoffDown_transferring]
      cases t with
      | none => exact ite_self _
      | some k => rfl
  have hsampled : ∀ f, (if s.inputs.clock ≤ 1 then f.sampled else f) = sampled f := fun f => by rw [Filter.sampled_eq]
  refine ⟨?_, ⟨fun p => ?_, fun k => ?_, fun k => ?_, ?_, ?_, ?_⟩, ?_, ?_, ?_⟩
  · have harrival : (s.tracker.arrival.map (arrivalDown s.tracker.hold)) = s.tracker.arrival.map fun a => match a with
        | .reading k => .reading (k - 1)
        | .orphan o k => if hold then a else .orphan o (k - 1) := by
      congr 1
      funext a
      cases a with
      | reading k => rfl
      | orphan o k => exact arrivalDown_orphan _ _ _
    rw [State.idleMs_eq hp hl]
    unfold State.timersDown
    dsimp only
    rw [hlate, harrival]
    rfl
  · rw [hin, State.msInputs_pos]; exact hsampled _
  · rw [hin, State.msInputs_mask]; exact hsampled _
  · rw [hin, State.msInputs_rack]; exact hsampled _
  · rw [hin]
    by_cases hs : s.inputs.clock ≤ 1
    · simp only [State.msInputs, if_pos hs]
      exact (Filter.indexDone_eq _).trans (if_pos hs).symm
    · simp only [State.msInputs, if_neg hs]
      exact (if_neg hs).symm
  · rw [hin]
    by_cases hs : s.inputs.clock ≤ 1
    · simp only [State.msInputs, if_pos hs]
      exact (if_pos hs).symm
    · simp only [State.msInputs, if_neg hs]
      exact (if_neg hs).symm
  · rw [hin]
    by_cases hs : s.inputs.clock ≤ 1
    · simp only [State.msInputs, if_pos hs]
      exact (if_pos hs).symm
    · simp only [State.msInputs, if_neg hs]
      exact (if_neg hs).symm
  · rw [hpend]
    exact ⟨s.cellSecondsTick_due, s.supplyTick_due, s.speedWindowEnd_due, s.cureTick_due, s.learningTimeEnd_due,
      s.reClaimTimerExpiry_due, s.passStallTimeout_due, s.purgeTimerExpiry_due, s.indexTimeout_due, s.settleTimeExpiry_due,
      s.probeReadTimeout_due, s.answerWaitExpiry_due, s.reOfferWaitExpiry_due, s.upstreamTransferTimeout_due,
      s.entryReadTimeout_due, s.orphanWaitExpiry_due, s.secondTransferTimeout_due, s.count_msDue_transfer, s.count_msDue_repost⟩
  · rw [hpend]
    refine ⟨fun p => ⟨s.occupiedEdge_due p, s.emptyEdge_due p⟩, fun k => ⟨s.rackOccupiedEdge_due k, s.rackEmptyEdge_due k⟩,
      fun k b => s.maskChannelEdge_due k b, s.indexDone_due, s.guardOpening_due, s.guardClosing_due,
      fun b => s.guardFirstLevel_due b, fun ps rs => ?_⟩
    have hscan := s.clearOutScan_due ps rs
    simp only [Filter.next_eq] at hscan
    exact hscan
  · rw [hpend]
    intro c hc
    rcases State.mem_msDue.1 hc with ⟨rfl, -⟩ | ht | ⟨-, hs⟩
    · trivial
    · rcases State.mem_timersDue_iff.1 ht with ⟨rfl, -⟩ | ⟨rfl, -⟩ | ⟨rfl, -⟩ | ⟨rfl, -⟩ | ⟨rfl, -⟩ | ⟨rfl, -⟩ | ⟨rfl, -⟩ |
        ⟨rfl, -⟩ | ⟨rfl, -⟩ | ⟨rfl, -⟩ | ⟨rfl, -⟩ | ⟨rfl, -⟩ | ⟨rfl, -⟩ | ⟨rfl, -⟩ | ⟨rfl, -⟩ | ⟨rfl, -⟩ | ⟨rfl, -⟩ | ⟨rfl, -⟩ <;> trivial
    · rcases State.mem_sampleDue_iff.1 hs with ⟨_, rfl, -⟩ | ⟨rfl, -⟩ | ⟨rfl, -⟩ | ⟨_, rfl, -⟩ | ⟨_, rfl, -⟩ | ⟨_, rfl, -⟩ |
        ⟨_, rfl, -⟩ | ⟨rfl, -⟩ | ⟨_, _, rfl, -⟩ | ⟨_, _, rfl, -⟩ <;> trivial

end Sys2Proof.Machine

end

section

namespace Sys2Proof.Machine

/-! ## The handoff of the record at EXIT (R32, R33) -/

section
variable {s : State} {r : Record}

theorem State.setHandoff_eq (hr : s.table.exit = some r) (h : Option Handoff) :
    s.setHandoff h = { s with table := { s.table with exit := some { r with handoff := h } } } := by
  simp [State.setHandoff, hr]

theorem State.exitHandoff_eq (hr : s.table.exit = some r) : s.exitHandoff = r.handoff := by
  simp [State.exitHandoff, hr]

/-- The record at EXIT, which is not the candidate, leaves the table as a CLEAN_EXIT (R32, R33, R49, R192). -/
theorem State.departClean_eq (hr : s.table.exit = some r) (hm : s.mask.cand ≠ some .exit) :
    s.departClean = State.report { s with
      table := { s.table with exit := none }
      store := s.storeWithout r } .cleanExit 0 := by
  unfold State.departClean
  rw [State.leave_eq s (p := .exit) hr (by decide), if_neg hm]
  rfl

theorem State.occupiedEdge_exit (hr : s.table.exit = some r) (hc : s.covered .exit = false) :
    s.occupiedEdge .exit = s.exitEdge r true := by
  unfold State.occupiedEdge
  rw [if_neg (by simp [State.conveyed]), if_neg (by simp [hc]), hr]

variable {n : Option Byte} {cleared received : Bool} {timer : Option Nat}

/-- The edges of a record that counts as moving out of EXIT: an empty one clears it. -/
theorem State.exitEdge_empty (hd : r.diversion = none) (hh : r.handoff = some (.transferring n cleared received timer)) :
    s.exitEdge r false = s.exitCleared n received := by
  simp [State.exitEdge, hd, hh]

/-- The edges of a record that counts as moving out of EXIT: an occupied one before RECEIVED brings it back. -/
theorem State.exitEdge_occupied (hd : r.diversion = none) (hh : r.handoff = some (.transferring n true false timer)) :
    s.exitEdge r true = s.exitReturned n := by
  simp [State.exitEdge, hd, hh]

theorem State.exitCleared_unreceived (hr : s.table.exit = some r) : s.exitCleared n false = { s with
    table := { s.table with exit := some { r with
      handoff := some (.transferring n true false (some (s.cfg.transferTimeout * 1000))) } } } :=
  State.setHandoff_eq hr _

theorem State.exitCleared_received (hr : s.table.exit = some r) (hm : s.mask.cand ≠ some .exit) :
    s.exitCleared n true = State.report { s with
      table := { s.table with exit := none }
      store := s.storeWithout r } .cleanExit 0 := by
  rw [State.exitCleared, if_pos rfl, State.departClean_eq hr hm]

theorem State.covered_exit_of_not_indexing (hi : s.tunnel.phase ≠ .indexing) : s.covered .exit = false := by
  simp [State.covered, hi]

/-- An empty edge at EXIT clears the record TRANSFERRING there. -/
theorem State.exec_emptyEdge_transferring (ht : s.tracking = true) (ho : s.occupied .exit = true) (hi : s.tunnel.phase ≠ .indexing)
    (hr : s.table.exit = some r) (hd : r.diversion = none) (hh : r.handoff = some (.transferring n cleared received timer)) :
    exec (.emptyEdge .exit) s = .next ((s.setLevel .exit false).exitCleared n received).settle := by
  rw [State.exec_emptyEdge ht ho,
    State.emptyEdge_exit (s := s.setLevel .exit false) hr (State.covered_exit_of_not_indexing hi), State.exitEdge_empty hd hh]

/-- An occupied edge at EXIT takes the record cleared and not received there back. -/
theorem State.exec_occupiedEdge_transferring (ht : s.tracking = true) (ho : s.sensorEmpty .exit = true)
    (hi : s.tunnel.phase ≠ .indexing) (hr : s.table.exit = some r) (hd : r.diversion = none)
    (hh : r.handoff = some (.transferring n true false timer)) :
    exec (.occupiedEdge .exit) s = .next ((s.setLevel .exit true).exitReturned n).settle := by
  rw [State.exec_occupiedEdge ht ho,
    State.occupiedEdge_exit (s := s.setLevel .exit true) hr (State.covered_exit_of_not_indexing hi), State.exitEdge_occupied hd hh]

end

/-- Settles O12: at each edge the record's marks choose between the transfer timer, the end of the handoff and the return. -/
theorem exitEdgesOfTransfer : Obligations.ExitEdgesOfTransfer := by
  intro s r n cleared received timer ht hi hr hd hh
  have hexit (b : Bool) : (s.setLevel .exit b).table.exit = some r := hr
  refine ⟨fun ho hv => ?_, fun ho hv hm => ?_, fun ho hc hv => ?_⟩
  · subst hv
    rw [State.exec_emptyEdge_transferring ht ho hi hr hd hh, State.exitCleared_unreceived (hexit false)]
    rfl
  · subst hv
    rw [State.exec_emptyEdge_transferring ht ho hi hr hd hh, State.exitCleared_received (hexit false) hm]
    rfl
  · subst hc hv
    rw [State.exec_occupiedEdge_transferring ht ho hi hr hd hh, State.exitReturned, State.setHandoff_eq (hexit true)]
    rfl

end Sys2Proof.Machine

end

section

namespace Sys2Proof.Machine

/-! ## The head of the inbound queue handed to its block (R212) -/

section
variable {s : State} {g : Telegram} {rest : List Telegram} {kind : Byte} (f : State → Telegram → State)

/-- A head of a block's kind that no held answer keeps waiting is handed to the block. -/
theorem State.hand_head (hl : s.loaded = true) (hg : s.link.inbound = g :: rest) (hk : g.kind = kind)
    (ha : s.link.answerHeld = false) : s.hand kind f = f { s with link := s.link.popInbound } g := by
  simp [State.hand, Link.headOf, hl, hg, hk, ha]

theorem State.exec_accept (hl : s.loaded = true) (hg : s.link.inbound = g :: rest) (hk : g.kind = kindAccept)
    (ha : s.link.answerHeld = false) :
    exec .accept s = .next (State.takeAccept { s with link := s.link.popInbound } g) :=
  congrArg Host.Outcome.next (State.hand_head State.takeAccept hl hg hk ha)

theorem State.exec_decline (hl : s.loaded = true) (hg : s.link.inbound = g :: rest) (hk : g.kind = kindDecline)
    (ha : s.link.answerHeld = false) :
    exec .decline s = .next (State.takeDecline { s with link := s.link.popInbound } g) :=
  congrArg Host.Outcome.next (State.hand_head State.takeDecline hl hg hk ha)

theorem State.exec_received (hl : s.loaded = true) (hg : s.link.inbound = g :: rest) (hk : g.kind = kindReceived)
    (ha : s.link.answerHeld = false) :
    exec .received s = .next (State.takeReceived { s with link := s.link.popInbound } g).settle :=
  congrArg Host.Outcome.next (State.hand_head (fun t g => (t.takeReceived g).settle) hl hg hk ha)

/-- While an answer of the board tracker is held, its head waits, and so does every kind behind it. -/
theorem State.hand_of_answerHeld (hg : s.link.inbound = g :: rest) (hk : trackerKind g.kind = true)
    (ha : s.link.answerHeld = true) (kind : Byte) : s.hand kind f = s := by
  have hwait : s.link.headOf kind = none := by
    simp only [Link.headOf, hg, ha, Bool.and_true, ite_eq_right_iff, reduceCtorEq, imp_false]
    intro h
    obtain ⟨rfl, hn⟩ : g.kind = kind ∧ trackerKind kind = false := by simpa using h
    cases hk.symm.trans hn
  unfold State.hand
  rw [hwait]
  split <;> trivial

theorem Link.answerHeld_iff (l : Link) : l.answerHeld = true ↔
    ∃ e ∈ l.held, e.tg.kind = kindAccept ∨ e.tg.kind = kindDecline ∨ e.tg.kind = kindReceived := by
  simp [Link.answerHeld, or_assoc]

theorem trackerKind_iff : trackerKind kind = true ↔
    kind = kindOffer ∨ kind = kindAccept ∨ kind = kindDecline ∨ kind = kindReceived := by
  simp [trackerKind, or_assoc]

end

/-! ## The answers to an OFFER (R28, R30 to R32) -/

/-- The number under which a record is offered or handed over: none without a handoff, and none in the line end (R34). -/
def Record.handoffNumber (r : Record) : Option Byte :=
  match r.handoff with
  | some (.offered n _) => some n
  | some (.transferring n _ _ _) => n
  | none => none

section
variable {s : State} {r : Record} {t : Telegram}

theorem State.isForExit_of_none (h : s.table.exit = none) : s.isForExit t = false := by
  simp [State.isForExit, h]

/-- The three marks by which an answer is for the record at EXIT (R28). -/
theorem State.isForExit_iff (hr : s.table.exit = some r) : s.isForExit t = true ↔
    r.handoffNumber = some (byteAt t.payload 0) ∧ t.src = s.cfg.downstream ∧ serialAt t.payload 1 2 = r.trav.serial := by
  unfold State.isForExit Record.handoffNumber
  rw [hr]
  dsimp only
  rcases r.handoff with - | ⟨n, w⟩ | ⟨- | n, c, v, m⟩ <;> simp [and_assoc]

theorem answerFits_iff (p : List Byte) : answerFits p = true ↔ p.length = 6 := by simp [answerFits]

theorem declineFits_iff (p : List Byte) :
    declineFits p = true ↔ p.length = 7 ∧ 1 ≤ (byteAt p 6).toNat ∧ (byteAt p 6).toNat ≤ 7 := by
  simp [declineFits, and_assoc]

/-- An answer that does not fit, or is for no record at EXIT, does nothing. -/
theorem State.takeAccept_discards (h : answerFits t.payload = false ∨ s.isForExit t = false) : s.takeAccept t = s :=
  if_neg (by rcases h with h | h <;> simp [h])

theorem State.takeDecline_discards (h : declineFits t.payload = false ∨ s.isForExit t = false) : s.takeDecline t = s :=
  if_neg (by rcases h with h | h <;> simp [h])

theorem State.takeReceived_discards (h : answerFits t.payload = false ∨ s.isForExit t = false) : s.takeReceived t = s :=
  if_neg (by rcases h with h | h <;> simp [h])

section
variable (hr : s.table.exit = some r) (hf : s.isForExit t = true)
include hr hf

theorem State.takeAccept_offered {n : Byte} {w : OfferWait} (hp : answerFits t.payload = true)
    (hh : r.handoff = some (.offered n w)) : s.takeAccept t = State.withdrawKind { s with
      table := { s.table with exit := some { r with handoff := some (.transferring (some n) false false none) } } } kindOffer := by
  rw [State.takeAccept, if_pos ⟨hp, hf⟩, State.exitHandoff_eq hr, hh, ← State.setHandoff_eq hr]

theorem State.takeAccept_transferring {n : Option Byte} {c v : Bool} {m : Option Nat} (hp : answerFits t.payload = true)
    (hh : r.handoff = some (.transferring n c v m)) : s.takeAccept t = s := by
  rw [State.takeAccept, if_pos ⟨hp, hf⟩, State.exitHandoff_eq hr, hh]

theorem State.takeDecline_answerWait {n : Byte} {m : Nat} (hp : declineFits t.payload = true)
    (hh : r.handoff = some (.offered n (.answer m))) : s.takeDecline t = { s with
      table := { s.table with exit := some { r with handoff := some (.offered n (.reOffer 500)) } } } := by
  rw [State.takeDecline, if_pos ⟨hp, hf⟩, State.exitHandoff_eq hr, hh]
  exact State.setHandoff_eq hr _

theorem State.takeDecline_otherWait {n : Byte} {w : OfferWait} (hp : declineFits t.payload = true)
    (hh : r.handoff = some (.offered n w)) (hw : ∀ m, w ≠ .answer m) : s.takeDecline t = s := by
  rw [State.takeDecline, if_pos ⟨hp, hf⟩, State.exitHandoff_eq hr, hh]
  cases w with
  | answer m => exact absurd rfl (hw m)
  | due => rfl
  | posting => rfl
  | reOffer m => rfl

theorem State.takeReceived_uncleared {n : Option Byte} {v : Bool} {m : Option Nat} (hp : answerFits t.payload = true)
    (hh : r.handoff = some (.transferring n false v m)) : s.takeReceived t = { s with
      table := { s.table with exit := some { r with handoff := some (.transferring n false true m) } } } := by
  rw [State.takeReceived, if_pos ⟨hp, hf⟩, State.exitHandoff_eq hr, hh]
  exact State.setHandoff_eq hr _

theorem State.takeReceived_cleared {n : Option Byte} {v : Bool} {m : Option Nat} (hp : answerFits t.payload = true)
    (hh : r.handoff = some (.transferring n true v m)) (hm : s.mask.cand ≠ some .exit) :
    s.takeReceived t = State.report { s with
      table := { s.table with exit := none }
      store := s.storeWithout r } .cleanExit 0 := by
  rw [State.takeReceived, if_pos ⟨hp, hf⟩, State.exitHandoff_eq hr, hh]
  exact State.departClean_eq hr hm

theorem State.takeReceived_offered {n : Byte} {w : OfferWait} (hp : answerFits t.payload = true)
    (hh : r.handoff = some (.offered n w)) : s.takeReceived t = s := by
  rw [State.takeReceived, if_pos ⟨hp, hf⟩, State.exitHandoff_eq hr, hh]

end

end

/-- The commands that hand the head over all wait with it. -/
theorem exec_of_answerHeld {s : State} {g : Telegram} {rest : List Telegram} (hg : s.link.inbound = g :: rest)
    (hk : trackerKind g.kind = true) (ha : s.link.answerHeld = true) : ∀ c ∈ [Instr.offer, .accept, .decline, .received,
      .recipePart, .recipeActivate, .recipeDrop, .lotHold, .lotLift, .release, .watchClear, .statusQuery], exec c s = .next s := by
  have hwait (f : State → Telegram → State) (kind : Byte) : (Host.Outcome.next (s.hand kind f) : Result) = .next s :=
    congrArg _ (State.hand_of_answerHeld f hg hk ha kind)
  intro c hc
  simp only [List.mem_cons, List.not_mem_nil, or_false] at hc
  rcases hc with rfl | rfl | rfl | rfl | rfl | rfl | rfl | rfl | rfl | rfl | rfl | rfl <;> exact hwait _ _

/-- What makes an answer be for no record at EXIT (R28). -/
theorem State.not_isForExit {s : State} {g : Telegram}
    (h : g.src ≠ s.cfg.downstream ∨ s.table.exit = none ∨ ∃ r, s.table.exit = some r ∧ (r.handoff = none ∨
      serialAt g.payload 1 2 ≠ r.trav.serial ∨ (∃ n w, r.handoff = some (.offered n w) ∧ n ≠ byteAt g.payload 0) ∨
      ∃ n c v m, r.handoff = some (.transferring n c v m) ∧ n ≠ some (byteAt g.payload 0))) : s.isForExit g = false := by
  cases hr : s.table.exit with
  | none => exact State.isForExit_of_none hr
  | some r =>
    rw [← Bool.not_eq_true, State.isForExit_iff hr]
    rintro ⟨hn, hsrc, hserial⟩
    rcases h with h | h | ⟨q, hq, h⟩
    · exact h hsrc
    · cases hr.symm.trans h
    · cases hr.symm.trans hq
      unfold Record.handoffNumber at hn
      rcases h with h | h | ⟨n, w, h, hne⟩ | ⟨n, c, v, m, h, hne⟩
      · simp [h] at hn
      · exact h hserial
      · simp [h, hne] at hn
      · simp [h, hne] at hn

/-- Settles O16: the head is handed over or waits, and each answer by the state of the record it is for. -/
theorem answersForTheOfferedRecord : Obligations.AnswersForTheOfferedRecord := by
  refine ⟨fun s g rest _ hg hk hheld => ?_, fun s g rest r n hl hg ha hsrc hr hn hserial => ?_, fun s g rest hl hg ha => ?_⟩
  · exact exec_of_answerHeld hg (trackerKind_iff.2 hk) (s.link.answerHeld_iff.2 hheld)
  · intro popped exitIs
    have hpop : popped.table.exit = some r := hr
    have hfor : r.handoffNumber = some n → popped.isForExit g = true := fun h =>
      (State.isForExit_iff hpop).2 ⟨hn ▸ h, hsrc, hserial⟩
    have hoffered {w : OfferWait} (h : r.handoff = some (.offered n w)) : popped.isForExit g = true :=
      hfor (by simp [Record.handoffNumber, h])
    have htransferring {c v : Bool} {m : Option Nat} (h : r.handoff = some (.transferring (some n) c v m)) :
        popped.isForExit g = true :=
      hfor (by simp [Record.handoffNumber, h])
    refine ⟨fun hk hlen => ?_, fun hk hlen h1 h7 => ?_, fun hk hlen => ?_⟩
    · have hfit := (answerFits_iff g.payload).2 hlen
      have hexec := State.exec_accept hl hg hk ha
      refine ⟨fun w hh => ?_, fun c v m hh => ?_⟩
      · rw [hexec, State.takeAccept_offered hpop (hoffered hh) hfit hh]
      · rw [hexec, State.takeAccept_transferring hpop (htransferring hh) hfit hh]
    · have hfit := (declineFits_iff g.payload).2 ⟨hlen, h1, h7⟩
      have hexec := State.exec_decline hl hg hk ha
      refine ⟨fun m hh => ?_, fun w hh hw => ?_⟩
      · rw [hexec, State.takeDecline_answerWait hpop (hoffered hh) hfit hh]
      · rw [hexec, State.takeDecline_otherWait hpop (hoffered hh) hfit hh hw]
    · have hfit := (answerFits_iff g.payload).2 hlen
      have hexec := State.exec_received hl hg hk ha
      refine ⟨fun v m hh => ?_, fun v m hh hm => ?_, fun w hh => ?_⟩
      · rw [hexec, State.takeReceived_uncleared hpop (htransferring hh) hfit hh]
      · rw [hexec, State.takeReceived_cleared hpop (htransferring hh) hfit hh hm]
        rfl
      · rw [hexec, State.takeReceived_offered hpop (hoffered hh) hfit hh]
  · intro popped hno
    have hnot : popped.isForExit g = false ∨ (if g.kind = kindDecline then
        g.payload.length ≠ 7 ∨ (byteAt g.payload 6).toNat = 0 ∨ 7 < (byteAt g.payload 6).toNat else g.payload.length ≠ 6) := by
      rcases hno with h | h | h | h
      · exact .inl (State.not_isForExit (.inl h))
      · exact .inl (State.not_isForExit (.inr (.inl h)))
      · exact .inl (State.not_isForExit (.inr (.inr h)))
      · exact .inr h
    have hanswer (hk : g.kind ≠ kindDecline) : answerFits g.payload = false ∨ popped.isForExit g = false := by
      rw [if_neg hk] at hnot
      exact hnot.symm.imp_left fun h => by simpa [answerFits] using h
    refine ⟨fun hk => ?_, fun hk => ?_, fun hk => ?_⟩
    · rw [State.exec_accept hl hg hk ha, State.takeAccept_discards (hanswer (by rw [hk]; decide))]
    · rw [if_pos hk] at hnot
      have hmisfit : declineFits g.payload = false ∨ popped.isForExit g = false := hnot.symm.imp_left fun h => by
        rw [← Bool.not_eq_true, declineFits_iff]
        omega
      rw [State.exec_decline hl hg hk ha, State.takeDecline_discards hmisfit]
    · rw [State.exec_received hl hg hk ha, State.takeReceived_discards (hanswer (by rw [hk]; decide))]

end Sys2Proof.Machine

end

section

namespace Sys2Proof.Machine

/-! ## The waits and timers of the handoff (R30, R33, R36 to R38, R44) -/

/-- A presence byte of one field (section 11.6). -/
theorem flagByte_singleton (b : Bool) : flagByte [b] = if b then 1 else 0 := by
  cases b <;> rfl

section
variable {s : State} {r : Record} {n : Byte}

theorem State.answerExpiry_eq {m : Nat} (hr : s.table.exit = some r) (hh : r.handoff = some (.offered n (.answer m))) :
    s.answerExpiry = { s with
      table := { s.table with exit := some { r with handoff := some (.offered n (.reOffer 500)) } } } := by
  rw [State.answerExpiry, State.exitHandoff_eq hr, hh]
  exact State.setHandoff_eq hr _

theorem State.postOffer_running (hr : s.table.exit = some r) (hc : s.cell ≠ .stopped) : s.postOffer n = State.post { s with
      table := { s.table with exit := some { r with handoff := some (.offered n .posting) } } }
    s.cfg.downstream kindOffer (offerPayload n r.trav) := by
  rw [State.postOffer, hr, ← State.setHandoff_eq hr]
  exact if_neg (by simp [State.isStopped, hc])

theorem State.postOffer_stopped (hr : s.table.exit = some r) (hc : s.cell = .stopped) : s.postOffer n = { s with
    table := { s.table with exit := some { r with handoff := some (.offered n .due) } } } := by
  rw [State.postOffer, hr, ← State.setHandoff_eq hr]
  exact if_pos (by simp [State.isStopped, hc])

theorem State.reOfferExpiry_eq {m : Nat} (hr : s.table.exit = some r) (hh : r.handoff = some (.offered n (.reOffer m))) :
    s.reOfferExpiry = s.postOffer n := by
  rw [State.reOfferExpiry, State.exitHandoff_eq hr, hh]

/-- The store without a record depends on the store and the table alone. -/
theorem State.storeWithout_congr {t : State} (hs : t.store = s.store) (ht : t.table = s.table) (r : Record) :
    t.storeWithout r = s.storeWithout r := by
  unfold State.storeWithout State.refCount
  rw [hs, ht]

/-- A record dropped at the transfer timeout leaves with its notice (R33, log 56). -/
theorem State.dropUnconfirmed_eq (hr : s.table.exit = some r) (hm : s.mask.cand ≠ some .exit) :
    s.dropUnconfirmed r (some n) = State.report
      { s.notice 2 (n :: (if r.trav.serial.isSome then 1 else 0) ::
          (optWord r.trav.serial ++ be16 r.trav.variant ++ be16 r.trav.lot)) with
        table := { s.table with exit := none }
        store := s.storeWithout r } .cleanExit 0 := by
  unfold State.dropUnconfirmed
  dsimp only
  rw [flagByte_singleton, Option.getD_some, State.departClean_eq (r := r) (by simpa using hr) (by simpa using hm),
    State.storeWithout_congr (s := s) (by simp) (by simp)]
  simp only [State.notice_frame]

/-- The upstream transfer timer of a cleared record; the drive hold suspends it (R33, R44). -/
theorem State.transferExpiry_eq {m : Nat} (hr : s.table.exit = some r)
    (hh : r.handoff = some (.transferring (some n) true false (some m))) :
    s.transferExpiry = if s.tracker.hold then s else (s.dropUnconfirmed r (some n)).settle := by
  rw [State.transferExpiry, hr]
  simp only [hh]

theorem State.expireArrival_eq {i : Fin 2} {e : ArrivalEntry} (he : s.tracker.arrivals[i.val]? = some e) :
    s.expireArrival i = State.notice { s with
        tracker := { s.tracker with arrivals := s.tracker.arrivals.eraseIdx i.val } } 1
      ((if e.trav.serial.isSome then 1 else 0) :: (optWord e.trav.serial ++ [e.source, e.number] ++ be16 e.trav.variant ++
        be16 e.trav.lot ++ be32 e.acceptedAt ++ [1])) := by
  rw [State.expireArrival, he, ← flagByte_singleton]
  rfl

end

/-! ## The reports of OFFER and RECEIVED (R30, R37) -/

section
variable {s : State} {e : OutEntry} {rest : List OutEntry} {refused : Bool}

theorem State.exec_sendEnd (hl : s.loaded = true) (hs : s.link.line = .sending) (ho : s.link.out = e :: rest) :
    exec (.sendEnd refused) s = .next (State.sendReport { s with link := s.link.sent s.isStopped } e refused) := by
  have hsend : s.link.inSend = some e := by simp [Link.inSend, hs, ho]
  have hend : s.endSendOf s.link.inSend refused = s.endSend e refused := by simp [State.endSendOf, hsend, hl]
  exact congrArg Host.Outcome.next hend

theorem State.sendReport_offer (hk : e.tg.kind = kindOffer) :
    s.sendReport e refused = s.offerReport (byteAt e.tg.payload 0) refused := if_pos hk

theorem State.sendReport_received (hk : e.tg.kind = kindReceived) : s.sendReport e refused = s.receivedReport e refused := by
  rw [State.sendReport, if_neg (by rw [hk]; decide), if_pos hk]

theorem State.offerReport_posting {r : Record} {n : Byte} (hr : s.table.exit = some r)
    (hh : r.handoff = some (.offered n .posting)) : s.offerReport n refused = { s with
      table := { s.table with exit := some { r with
        handoff := some (.offered n (if refused then .reOffer 500 else .answer 50)) } } } := by
  rw [State.offerReport, State.exitHandoff_eq hr, hh]
  exact (if_pos rfl).trans (State.setHandoff_eq hr _)

/-- A report is ignored once its record is no longer OFFERED in its posting wait (R30). -/
theorem State.offerReport_ignored {n : Byte} (h : ∀ r, s.table.exit = some r → r.handoff ≠ some (.offered n .posting)) :
    s.offerReport n refused = s := by
  unfold State.offerReport
  split
  next k hk =>
    obtain ⟨r, hr, hh⟩ := Option.bind_eq_some_iff.1 hk
    exact if_neg fun (hkn : k = n) => h r hr (hkn ▸ hh)
  · rfl

theorem State.receivedReport_done (h : refused = false ∨ 8 ≤ e.postings) : s.receivedReport e refused = s :=
  if_neg fun ⟨hr, hp⟩ => by
    have hlt : e.postings < 8 := hp
    rcases h with h | h
    · cases hr.symm.trans h
    · omega

theorem State.receivedReport_refused (hr : refused = true) (hp : e.postings < 8) : s.receivedReport e refused = { s with
    tracker := { s.tracker with reposts := s.tracker.reposts ++
      [{ dst := e.tg.dst, number := byteAt e.tg.payload 0, postings := e.postings, timer := 50, serial :=
        if (byteAt e.tg.payload 1).getLsbD 0 then some (wordAt e.tg.payload 2) else none }] } } :=
  if_pos ⟨hr, hp⟩

/-- With nothing held, the end of a send frees a place and fills none. -/
theorem Link.sent_of_none_held {l : Link} (hh : l.held = []) (stopped : Bool) :
    l.sent stopped = { l with line := .busy, penalty := true, withdrawAsked := false, out := l.out.tail } := by
  simp [Link.sent, Link.fillPlace, takeHeld, hh]

theorem State.repost_first {w : Repost} {rest : List Repost} (hw : s.tracker.reposts = w :: rest) : s.repost = { s with
    tracker := { s.tracker with reposts := rest }
    link := s.link.post { postings := w.postings + 1, tg :=
      { dst := w.dst, src := s.cfg.station, kind := kindReceived, payload := answerPayload w.number w.serial } } } := by
  rw [State.repost, hw]
  rfl

end

/-- The command of a timer of a loaded cell. -/
theorem State.next_live {s : State} (hl : s.loaded = true) (f : State → State) :
    (Host.Outcome.next (s.live f) : Result) = .next (f s) :=
  congrArg _ (State.live_of_loaded hl f)

/-- Settles O17: first the expiries of the waits and timers, then the reports of the link. -/
theorem handoffTimersExpire : Obligations.HandoffTimersExpire := by
  refine ⟨⟨fun s r n m hl hr hh => ?_, fun s r n m hl hr hh => ⟨fun hc => ?_, fun hc => ?_⟩, fun s r n m hl hr hh hm => ?_,
    fun s i e hl he => ?_⟩, fun s e rest refused hl hs ho => ?_, fun s w rest hl hw => ?_⟩
  · exact (State.next_live hl _).trans (by rw [State.answerExpiry_eq hr hh])
  · exact (State.next_live hl _).trans (by rw [State.reOfferExpiry_eq hr hh, State.postOffer_running hr hc])
  · exact (State.next_live hl _).trans (by rw [State.reOfferExpiry_eq hr hh, State.postOffer_stopped hr hc])
  · exact (State.next_live hl _).trans (by rw [State.transferExpiry_eq hr hh, State.dropUnconfirmed_eq hr hm])
  · show Host.Outcome.next (s.when (s.loaded && !s.tracker.hold) _) = _
    by_cases hh : s.tracker.hold = true
    · rw [if_pos hh, hh, Bool.not_true, Bool.and_false, State.when_false]
    · rw [if_neg hh, show (s.loaded && !s.tracker.hold) = true by simp [hl, hh], State.when_true, State.expireArrival_eq he]
  · intro sent
    have hsend : exec (.sendEnd refused) s = .next (sent.sendReport e refused) := State.exec_sendEnd hl hs ho
    refine ⟨fun hk => ⟨fun r hr hh => ?_, fun h => ?_⟩, fun hk => ⟨fun h => ?_, fun hr hp => ?_⟩, fun hheld => ?_⟩
    · rw [hsend, State.sendReport_offer hk, State.offerReport_posting (s := sent) hr hh]
    · rw [hsend, State.sendReport_offer hk, State.offerReport_ignored (s := sent) h]
    · rw [hsend, State.sendReport_received hk, State.receivedReport_done h]
    · rw [hsend, State.sendReport_received hk, State.receivedReport_refused hr hp]
    · show s.link.sent s.isStopped = _
      rw [Link.sent_of_none_held hheld, ho]
      rfl
  · exact (State.next_live hl _).trans (by rw [State.repost_first hw])

end Sys2Proof.Machine

end

section

namespace Sys2Proof.Machine

/-! ## Sets of reasons (R9) -/

/-- The 20 reasons in the order of their codes (section 11.6). -/
def reasonList : List Reason :=
  [.maskMissing, .maskUnchecked, .length, .noRecipe, .stepMissing, .idMismatch, .noTraveller, .duplicateSerial, .sprayAborted,
   .scheduleFull, .filmThin, .filmThick, .potLife, .cureShort, .overcure, .overtemp, .cureDataGap, .lotHold,
   .auditSample, .stranded]

theorem reasonList_code (x : Reason) : reasonList[x.code]? = some x := by
  cases x <;> rfl

theorem Reason.code_inj {x y : Reason} : x.code = y.code ↔ x = y :=
  ⟨fun h => Option.some.inj (by rw [← reasonList_code x, h, reasonList_code]), congrArg _⟩

theorem Reason.code_lt (x : Reason) : x.code < 20 := by
  cases x <;> decide

/-- The reason added is in the set, and what was in it stays. -/
theorem hasReason_addReason_iff (rs : Reasons) (x y : Reason) :
    hasReason (addReason rs y) x = true ↔ hasReason rs x = true ∨ x = y := by
  have hcode : decide (x = y) = decide (x.code = y.code) := decide_eq_decide.2 Reason.code_inj.symm
  have hbit : (reasonBit y).getLsbD x.code = decide (x = y) := by
    rw [reasonBit, BitVec.getLsbD_shiftLeft, BitVec.getLsbD_one, hcode]
    have := x.code_lt
    by_cases h : x.code = y.code
    · simp [h, y.code_lt]
    · simp [h]
      omega
  rw [addReason, hasReason, BitVec.getLsbD_or, hbit]
  simp [hasReason]

theorem hasReason_zero (x : Reason) : hasReason 0 x = false := by
  simp [hasReason]

theorem Record.hasReason_addReasonIf (r : Record) (c : Bool) (x y : Reason) :
    hasReason (r.addReasonIf c y).trav.reasons x = true ↔ hasReason r.trav.reasons x = true ∨ c = true ∧ x = y := by
  cases c with
  | false => simp [Record.addReasonIf]
  | true => simp [Record.addReasonIf, Record.addReason, hasReason_addReason_iff]

/-! ## The checks of a record made at ENTRY (R5, R40, R184) -/

/-- A serial stands elsewhere in the cell: in the table, on the hold list, or in another arrival entry (R5). -/
def State.duplicates (s : State) (others : List ArrivalEntry) (sn : Serial) : Prop :=
  s.serialStands sn = true ∨ ∃ f ∈ others, f.trav.serial = some sn

/-- A stored lot filter matches a variant and lot (R182). -/
def State.lotHeld (s : State) (variant lot : Half) : Prop :=
  ∃ (j : Fin 8) (f : LotFilter), s.holds.filters[j] = some f ∧ f.hits variant lot = true

/-- A record after the two checks of R40: the duplicate check, then the lot filters. -/
def State.checked (s : State) (others : List ArrivalEntry) (r : Record) : Record := s.applyFilters (s.duplicateCheck others r)

section
variable {s : State} {others : List ArrivalEntry} {r : Record}

theorem State.anyFilter_iff (variant lot : Half) :
    (s.holds.filters.toList.any fun o => o.any fun f => f.hits variant lot) = true ↔ s.lotHeld variant lot := by
  simp only [List.any_eq_true, Vector.mem_toList_iff, Vector.mem_iff_getElem, Option.any_eq_true, State.lotHeld]
  constructor
  · rintro ⟨o, ⟨j, hj, rfl⟩, f, hf, hh⟩
    exact ⟨⟨j, hj⟩, f, hf, hh⟩
  · rintro ⟨j, f, hf, hh⟩
    exact ⟨_, ⟨j.val, j.isLt, rfl⟩, f, hf, hh⟩

theorem State.duplicateTest_iff (sn : Serial) :
    (s.serialStands sn || others.any fun e => e.trav.serial == some sn) = true ↔ s.duplicates others sn := by
  simp [State.duplicates]

/-- A record whose serial stands elsewhere keeps it as its read serial only. -/
theorem State.duplicateCheck_duplicate {sn : Serial} (hs : r.trav.serial = some sn) (hd : s.duplicates others sn) :
    s.duplicateCheck others r =
      { r with trav := { r.trav with serial := none, readSerial := some sn } }.addReason .duplicateSerial := by
  unfold State.duplicateCheck
  rw [hs]
  exact if_pos (State.duplicateTest_iff sn |>.2 hd)

theorem State.duplicateCheck_unique (h : ∀ sn, r.trav.serial = some sn → ¬ s.duplicates others sn) :
    s.duplicateCheck others r = r := by
  unfold State.duplicateCheck
  split
  · rfl
  next sn hs => exact if_neg fun hc => h sn hs (State.duplicateTest_iff sn |>.1 hc)

theorem State.duplicateCheck_cases (s : State) (others : List ArrivalEntry) (r : Record) :
    (∃ sn, r.trav.serial = some sn ∧ s.duplicates others sn ∧ s.duplicateCheck others r =
        { r with trav := { r.trav with serial := none, readSerial := some sn } }.addReason .duplicateSerial) ∨
      (∀ sn, r.trav.serial = some sn → ¬ s.duplicates others sn) ∧ s.duplicateCheck others r = r := by
  by_cases h : ∃ sn, r.trav.serial = some sn ∧ s.duplicates others sn
  · obtain ⟨sn, hs, hd⟩ := h
    exact .inl ⟨sn, hs, hd, State.duplicateCheck_duplicate hs hd⟩
  · have hunique : ∀ sn, r.trav.serial = some sn → ¬ s.duplicates others sn := fun sn hs hd => h ⟨sn, hs, hd⟩
    exact .inr ⟨hunique, State.duplicateCheck_unique hunique⟩

/-- The checks read the table and the hold manager alone. -/
theorem State.checked_congr {t : State} (ht : t.table = s.table) (hh : t.holds = s.holds) :
    t.checked others r = s.checked others r := by
  unfold State.checked State.applyFilters State.duplicateCheck State.serialStands
  rw [ht, hh]

/-- The checks touch the serials and the reasons alone. -/
theorem State.checked_eq (s : State) (others : List ArrivalEntry) (r : Record) : ∃ serial readSerial reasons,
    s.checked others r = { r with trav := { r.trav with serial := serial, readSerial := readSerial, reasons := reasons } } := by
  have filters (q : Record) : ∃ reasons, s.applyFilters q = { q with trav := { q.trav with reasons := reasons } } := by
    unfold State.applyFilters Record.addReasonIf
    split
    · exact ⟨_, rfl⟩
    · exact ⟨q.trav.reasons, rfl⟩
  obtain ⟨reasons, h⟩ := filters (s.duplicateCheck others r)
  unfold State.checked
  rw [h]
  rcases s.duplicateCheck_cases others r with ⟨sn, -, -, he⟩ | ⟨-, he⟩
  · rw [he]; exact ⟨none, some sn, reasons, rfl⟩
  · rw [he]; exact ⟨r.trav.serial, r.trav.readSerial, reasons, rfl⟩

theorem State.applyFilters_serials (s : State) (q : Record) : (s.applyFilters q).trav.serial = q.trav.serial ∧
    (s.applyFilters q).trav.readSerial = q.trav.readSerial := by
  unfold State.applyFilters Record.addReasonIf
  split <;> exact ⟨rfl, rfl⟩

theorem State.checked_serials_unique (h : ∀ sn, r.trav.serial = some sn → ¬ s.duplicates others sn) :
    (s.checked others r).trav.serial = r.trav.serial ∧ (s.checked others r).trav.readSerial = r.trav.readSerial := by
  unfold State.checked
  rw [State.duplicateCheck_unique h]
  exact s.applyFilters_serials r

theorem State.checked_serials_duplicate {sn : Serial} (hs : r.trav.serial = some sn) (hd : s.duplicates others sn) :
    (s.checked others r).trav.serial = none ∧ (s.checked others r).trav.readSerial = some sn := by
  unfold State.checked
  rw [State.duplicateCheck_duplicate hs hd]
  exact s.applyFilters_serials _

/-- The checks add DUPLICATE_SERIAL and LOT_HOLD, each under its own condition, and no other reason. -/
theorem State.checked_hasReason (x : Reason) : hasReason (s.checked others r).trav.reasons x = true ↔
    hasReason r.trav.reasons x = true ∨ (x = .duplicateSerial ∧ ∃ sn, r.trav.serial = some sn ∧ s.duplicates others sn) ∨
      (x = .lotHold ∧ s.lotHeld r.trav.variant r.trav.lot) := by
  unfold State.checked State.applyFilters
  rw [Record.hasReason_addReasonIf, State.anyFilter_iff]
  rcases s.duplicateCheck_cases others r with ⟨sn, hs, hd, he⟩ | ⟨hu, he⟩
  · have hdup : ∃ sn, r.trav.serial = some sn ∧ s.duplicates others sn := ⟨sn, hs, hd⟩
    rw [he]
    simp only [Record.addReason, hasReason_addReason_iff, hdup, and_comm, true_and, or_assoc]
  · have hdup : ¬ ∃ sn, r.trav.serial = some sn ∧ s.duplicates others sn := fun ⟨sn, hs, hd⟩ => hu sn hs hd
    rw [he]
    simp only [hdup, and_comm, false_and, false_or]

end

end Sys2Proof.Machine

end

section

namespace Sys2Proof.Machine

/-! ## The match at ENTRY (R38 to R40) -/

section
variable {s : State} {e m : ArrivalEntry} {rest others : List ArrivalEntry} {sn : Serial} {v l : Half}

/-- Either end of a pending entry read, with its outcome (R18). -/
theorem State.exec_endEntryRead {c : Instr} {o : ReadOutcome} {k : Nat} (hl : s.loaded = true)
    (ha : s.tracker.arrival = some (.reading k))
    (hc : (∃ a, c = .idReadAnswer s.tracker.idRequest a ∧ o = outcomeOf a) ∨ c = .entryReadTimeout ∧ o = .noRead) :
    exec c s = .next (s.endEntryRead o).starts := by
  have hpending : s.readPending = true := by simp [State.readPending, ha]
  rcases hc with ⟨a, rfl, rfl⟩ | ⟨rfl, rfl⟩
  · exact congrArg Host.Outcome.next (if_pos (by simp [hl, hpending]))
  · exact congrArg Host.Outcome.next (if_pos (by simp [hl, hpending]))

theorem State.endEntryRead_match {o : ReadOutcome} (h : s.tracker.arrivals = e :: rest) : s.endEntryRead o = s.matchEntry o :=
  if_neg (by simp [h])

/-! ### The rows of R39 -/

theorem State.matchEntry_noRead (h : s.tracker.arrivals = e :: rest) :
    s.matchEntry .noRead = s.completeMatch e rest none := by
  unfold State.matchEntry
  rw [h]

theorem State.matchEntry_first (h : s.tracker.arrivals = e :: rest) (hs : e.trav.serial = some sn) :
    s.matchEntry (.read sn v l) = s.completeMatch e rest none := by
  unfold State.matchEntry
  rw [h]
  exact if_pos hs

theorem State.matchEntry_second (h : s.tracker.arrivals = e :: m :: others) (he : e.trav.serial ≠ some sn)
    (hm : m.trav.serial = some sn) : s.matchEntry (.read sn v l) = (s.transferLost e 2).completeMatch m others none := by
  unfold State.matchEntry
  rw [h]
  exact (if_neg he).trans (if_pos hm)

theorem State.matchEntry_mismatch (h : s.tracker.arrivals = e :: rest) (he : e.trav.serial ≠ some sn)
    (hrest : ∀ f, rest.head? = some f → f.trav.serial ≠ some sn) :
    s.matchEntry (.read sn v l) = s.completeMatch e rest (some sn) := by
  unfold State.matchEntry
  rw [h]
  refine (if_neg he).trans ?_
  cases rest with
  | nil => rfl
  | cons f tail => exact if_neg (hrest f rfl)

theorem State.transferLost_eq (s : State) (e : ArrivalEntry) (cause : Byte) : s.transferLost e cause =
    s.notice 1 ((if e.trav.serial.isSome then 1 else 0) :: (optWord e.trav.serial ++ [e.source, e.number] ++
      be16 e.trav.variant ++ be16 e.trav.lot ++ be32 e.acceptedAt ++ [cause])) := by
  rw [State.transferLost, flagByte_singleton]

/-- A match that completes after a notice at most: the record made, RECEIVED posted, and the arrival over (R40). -/
theorem State.completeMatch_eq {u : State} (ht : u.table = s.table) (hk : u.tracker = s.tracker) (hh : u.holds = s.holds)
    (mismatch : Option Serial) : u.completeMatch m others mismatch = State.post { u with
      table := { s.table with entry := some (s.checked others (matchedRecord m mismatch)) }
      tracker := { s.tracker with arrivals := others, arrival := none } }
      m.source kindReceived (answerPayload m.number m.trav.serial) := by
  rw [← State.checked_congr ht hh, ← ht, ← hk]
  rfl

end

/-! ### The record of a match -/

/-- The read serial that a matched record starts from: the one read where it differs from the traveller's (R39). -/
theorem matchedRecord_eq (m : ArrivalEntry) (mismatch : Option Serial) : matchedRecord m mismatch = Record.addReasonIf
    (Record.fresh { m.trav with readSerial := if mismatch.isSome then mismatch else m.trav.readSerial } .notDue)
    mismatch.isSome .idMismatch := by
  cases mismatch <;> rfl

section
variable (m : ArrivalEntry) (mismatch : Option Serial)

theorem matchedRecord_serials : (matchedRecord m mismatch).trav.serial = m.trav.serial ∧
    (matchedRecord m mismatch).trav.readSerial = if mismatch.isSome then mismatch else m.trav.readSerial := by
  cases mismatch <;> exact ⟨rfl, rfl⟩

theorem matchedRecord_variant_lot : (matchedRecord m mismatch).trav.variant = m.trav.variant ∧
    (matchedRecord m mismatch).trav.lot = m.trav.lot := by
  cases mismatch <;> exact ⟨rfl, rfl⟩

theorem matchedRecord_hasReason (x : Reason) : hasReason (matchedRecord m mismatch).trav.reasons x = true ↔
    hasReason m.trav.reasons x = true ∨ mismatch.isSome = true ∧ x = .idMismatch := by
  rw [matchedRecord_eq, Record.hasReason_addReasonIf]
  rfl

end

/-- Apart from the serials and the reasons, the record of a match is as a record is made from its traveller (R2, R40). -/
theorem State.checked_matchedRecord (s : State) (others : List ArrivalEntry) (m : ArrivalEntry) (mismatch : Option Serial) :
    let r := s.checked others (matchedRecord m mismatch)
    r.spray = .notDue ∧ r.recipe = none ∧ r.handoff = none ∧ r.diversion = none ∧
      (r.verdicts, r.film, r.sprayEnd, r.elapsed, r.dose, r.tickWeight, r.clip) = ([], none, none, 0, 0, none, ⟨0, none⟩) ∧
      (r.trav.variant, r.trav.lot, r.trav.sideUp, r.trav.stepsDone, r.trav.results, r.trav.length, r.trav.snapshot) =
        (m.trav.variant, m.trav.lot, m.trav.sideUp, m.trav.stepsDone, m.trav.results, m.trav.length, m.trav.snapshot) := by
  intro r
  obtain ⟨serial, readSerial, reasons, hr⟩ : ∃ serial readSerial reasons, r = { matchedRecord m mismatch with
    trav := { (matchedRecord m mismatch).trav with serial := serial, readSerial := readSerial, reasons := reasons } } :=
    s.checked_eq others _
  rw [hr]
  cases mismatch <;> exact ⟨rfl, rfl, rfl, rfl, rfl, rfl⟩

/-- Settles O18: the rows of R39 choose the entry, and the checks of R40 the reasons. -/
theorem entryReadMatchesArrival : Obligations.EntryReadMatchesArrival := by
  intro s c o k e rest m others mismatch skipped hl ha hlist hc hrow told
  have htold : told.table = s.table ∧ told.tracker = s.tracker ∧ told.holds = s.holds := by
    unfold told
    split <;> simp
  have hmatch : s.matchEntry o = told.completeMatch m others mismatch := by
    rcases hrow with ⟨rfl, rfl, rfl, rfl, rfl⟩ | ⟨sn, v, l, rfl, hs, rfl, rfl, rfl, rfl⟩ |
      ⟨sn, v, l, rfl, hs, rfl, hm, rfl, rfl⟩ | ⟨sn, v, l, rfl, hs, hrest, rfl, rfl, rfl, rfl⟩
    · exact State.matchEntry_noRead hlist
    · exact State.matchEntry_first hlist hs
    · rw [State.matchEntry_second hlist hs hm, State.transferLost_eq]
      rfl
    · exact State.matchEntry_mismatch hlist hs hrest
  obtain ⟨ht, hk, hh⟩ := htold
  obtain ⟨hserial, hread⟩ := matchedRecord_serials m mismatch
  obtain ⟨hvariant, hlot⟩ := matchedRecord_variant_lot m mismatch
  have hreason (x : Reason) := State.checked_hasReason (s := s) (others := others) (r := matchedRecord m mismatch) x
  simp only [matchedRecord_hasReason, hserial, hvariant, hlot] at hreason
  have hunique (h : ∀ sn, m.trav.serial = some sn → ¬ s.duplicates others sn) :=
    State.checked_serials_unique (r := matchedRecord m mismatch) (by rwa [hserial])
  rw [hserial, hread] at hunique
  obtain ⟨hspray, hrecipe, hhandoff, hdiversion, hstart, htrav⟩ := s.checked_matchedRecord others m mismatch
  refine ⟨s.checked others (matchedRecord m mismatch), ?_, hspray, hrecipe, hhandoff, hdiversion, hstart, htrav,
    fun x hid hdup hlh => ?_, ?_, ?_, fun hn => ?_, ?_, fun sn hsn => ⟨fun hd => ?_, fun hst hothers => ?_⟩⟩
  · rw [State.exec_endEntryRead hl ha hc, State.endEntryRead_match hlist, hmatch, State.completeMatch_eq ht hk hh]
  · exact Bool.eq_iff_iff.2 ((hreason x).trans (by simp [hid, hdup, hlh]))
  · exact (hreason .idMismatch).trans (by simp)
  · exact (hreason .duplicateSerial).trans (by simp [State.duplicates])
  · obtain ⟨h1, h2⟩ := hunique (by simp [hn])
    exact ⟨h1.trans hn, h2⟩
  · exact (hreason .lotHold).trans (by simp [State.lotHeld])
  · obtain ⟨h1, h2⟩ := State.checked_serials_duplicate (hserial.trans hsn) hd
    exact ⟨h1, h2, (hreason .duplicateSerial).2 (.inr (.inl ⟨rfl, sn, hsn, hd⟩))⟩
  · obtain ⟨h1, h2⟩ := hunique fun sn' hsn' hd => by
      cases hsn.symm.trans hsn'
      rcases hd with hd | ⟨f, hf, hfs⟩
      · cases hst.symm.trans hd
      · exact hothers f hf hfs
    exact ⟨h1.trans hsn, h2⟩

end Sys2Proof.Machine

end

section

namespace Sys2Proof.Machine

/-! ## A board without a traveller (R41, R44) -/

section
variable {s : State} {o : ReadOutcome} {k : Nat}

theorem State.endEntryRead_orphan (h : s.tracker.arrivals = []) : s.endEntryRead o = { s with
    tracker := { s.tracker with arrival := some (.orphan o (s.cfg.orphanWait * 1000)) } } :=
  if_pos h

/-- The record that the orphan wait ends in, before the checks of R40; in the head cell without NO_TRAVELLER. -/
def State.orphanStart (s : State) (o : ReadOutcome) : Record :=
  (Record.fresh (orphanTraveller o) .notDue).addReasonIf (s.cfg.upstream != 0) .noTraveller

theorem State.orphanStart_serials (s : State) (o : ReadOutcome) : (s.orphanStart o).trav.serial = (orphanTraveller o).serial ∧
    (s.orphanStart o).trav.variant = (orphanTraveller o).variant ∧ (s.orphanStart o).trav.lot = (orphanTraveller o).lot := by
  unfold State.orphanStart Record.addReasonIf
  split <;> exact ⟨rfl, rfl, rfl⟩

theorem State.orphanStart_hasReason (s : State) (o : ReadOutcome) (x : Reason) :
    hasReason (s.orphanStart o).trav.reasons x = true ↔ s.cfg.upstream ≠ 0 ∧ x = .noTraveller := by
  have hblank : hasReason (Record.fresh (orphanTraveller o) .notDue).trav.reasons x = false := by
    cases o <;> exact hasReason_zero x
  simp [State.orphanStart, Record.hasReason_addReasonIf, hblank]

/-- Apart from its serials and reasons, the record is as one is made from the read (R2, R41). -/
theorem State.checked_orphanStart (s : State) (o : ReadOutcome) :
    let r := s.checked [] (s.orphanStart o)
    r.spray = .notDue ∧ r.recipe = none ∧ r.trav.results = [] ∧ r.trav.stepsDone = 0 ∧ r.trav.sideUp = .top ∧
      r.trav.variant = (orphanTraveller o).variant ∧ r.trav.lot = (orphanTraveller o).lot := by
  intro r
  obtain ⟨serial, readSerial, reasons, hr⟩ : ∃ serial readSerial reasons, r = { s.orphanStart o with
    trav := { (s.orphanStart o).trav with serial := serial, readSerial := readSerial, reasons := reasons } } :=
    s.checked_eq [] _
  rw [hr]
  unfold State.orphanStart Record.addReasonIf
  split <;> cases o <;> exact ⟨rfl, rfl, rfl, rfl, rfl, rfl, rfl⟩

theorem State.orphanExpiry_eq (ha : s.tracker.arrival = some (.orphan o k)) (hlist : s.tracker.arrivals = [])
    (hh : s.tracker.hold = false) : s.orphanExpiry = State.starts { s with
      table := { s.table with entry := some (s.checked [] (s.orphanStart o)) }
      tracker := { s.tracker with arrival := none } } := by
  have hrecord : s.checked s.tracker.arrivals (s.orphanStart o) = s.checked [] (s.orphanStart o) := by rw [hlist]
  have hexpire : s.orphanExpiry = if s.tracker.hold then s else (s.orphanRecord o).starts := by
    simp only [State.orphanExpiry, ha, hlist]
  rw [hexpire, if_neg (by simp [hh]), ← hrecord]
  rfl

theorem State.orphanExpiry_of_hold (hh : s.tracker.hold = true) : s.orphanExpiry = s := by
  unfold State.orphanExpiry
  split
  · exact if_pos hh
  · rfl

/-- A reader answer with no read PENDING, or with another request number (R18, log 23). -/
theorem State.exec_idReadAnswer_discards {n : Nat} {a : IdAnswer}
    (h : (∀ k, s.tracker.arrival ≠ some (.reading k)) ∨ n ≠ s.tracker.idRequest) : exec (.idReadAnswer n a) s = .next s := by
  refine congrArg Host.Outcome.next (if_neg ?_)
  rcases h with h | h
  · have hpending : s.readPending = false := by
      unfold State.readPending
      split
      next k hk => exact absurd hk (h k)
      · rfl
    simp [hpending]
  · simp [h]

end

/-- Settles O19: the wait, its end with the record made from the read, its suspension, and the answers discarded. -/
theorem orphanWaitGivesRecord : Obligations.OrphanWaitGivesRecord := by
  refine ⟨fun s c o k hl ha hlist hc => ?_, fun s o k hl ha hlist hh => ?_, fun s hh => ?_,
    fun s n a h => State.exec_idReadAnswer_discards h⟩
  · rw [State.exec_endEntryRead hl ha hc, State.endEntryRead_orphan hlist]
  · obtain ⟨hspray, hrecipe, hresults, hsteps, hside, hvariant, hlot⟩ := s.checked_orphanStart o
    obtain ⟨hserial, hv, hl'⟩ := s.orphanStart_serials o
    have hreason (x : Reason) := State.checked_hasReason (s := s) (others := []) (r := s.orphanStart o) x
    simp only [State.orphanStart_hasReason, hserial, hv, hl', State.duplicates, List.not_mem_nil, false_and, exists_false,
      or_false] at hreason
    refine ⟨s.checked [] (s.orphanStart o), ?_, hspray, hrecipe, hresults, hsteps, hside, ?_, ?_, ?_, ?_,
      fun x hnt hlh hdup => ?_, fun ho => ?_, fun sn v l ho => ⟨fun hst => ?_, fun hst => ?_⟩⟩
    · exact (State.next_live hl _).trans (congrArg _ (State.orphanExpiry_eq ha hlist hh))
    · rw [hvariant, hlot]
      cases o <;> rfl
    · exact (hreason .noTraveller).trans (by simp)
    · rw [hvariant, hlot]
      exact (hreason .lotHold).trans (by simp [State.lotHeld])
    · refine (hreason .duplicateSerial).trans ?_
      cases o <;> simp [orphanTraveller, Traveller.blank]
    · rw [← Bool.not_eq_true, hreason]
      simp [hnt, hlh, hdup]
    · subst ho
      exact (State.checked_serials_unique (by simp [hserial, orphanTraveller, Traveller.blank])).1.trans hserial
    · subst ho
      refine (State.checked_serials_unique fun sn' hsn' hd => ?_).1.trans hserial
      cases hserial.symm.trans hsn'
      rcases hd with hd | ⟨f, hf, -⟩
      · cases hst.symm.trans hd
      · cases hf
    · subst ho
      exact State.checked_serials_duplicate hserial (.inl hst)
  · show Host.Outcome.next (s.live State.orphanExpiry) = _
    unfold State.live
    rw [State.orphanExpiry_of_hold hh, ite_self]

end Sys2Proof.Machine

end

section

namespace Sys2Proof.Machine

/-! ## The tests of an OFFER (R35, R36) -/

section
variable {s : State} {g : Telegram}

theorem badSteps_iff (t : Traveller) : badSteps t = true ↔ ∃ c ∈ t.results, c.step.toNat < 1 ∨ 4 < c.step.toNat := by
  simp [badSteps, List.any_eq_true]

/-- A repeat brings a serial again, or without one its source and number (R36). -/
theorem State.isRepeat_iff (source number : Byte) (serial : Option Serial) : s.isRepeat source number serial = true ↔
    ∃ e ∈ s.tracker.arrivals, (∃ sn, serial = some sn ∧ e.trav.serial = some sn) ∨
      (serial = none ∧ e.trav.serial = none ∧ e.source = source ∧ e.number = number) := by
  cases serial <;> simp [State.isRepeat, and_assoc]

theorem State.serialStands_eq_false {sn : Serial} (ht : ∀ p r, s.table.get p = some r → r.trav.serial ≠ some sn)
    (hh : ∀ e ∈ s.holds.list, e.serial ≠ some sn) : s.serialStands sn = false := by
  simp only [State.serialStands, Bool.or_eq_false_iff, List.any_eq_false]
  refine ⟨fun o ho => ?_, fun e he => by simpa using hh e he⟩
  obtain ⟨p, rfl⟩ := (PerPos.mem_toList _ o).1 ho
  cases hr : s.table.get p with
  | none => simp
  | some r => simpa using ht p r hr

/-- The code an OFFER is declined with: that of the first test of R35 it fails. -/
theorem State.offerDecline_code (hc : s.cell ≠ .configFault) : (s.offerDecline g).map DeclineCode.code =
    if s.cfg.upstream = 0 ∨ g.src ≠ s.cfg.upstream then some 1
    else if offerFits g.payload = false ∨
      ∃ c ∈ (offerTraveller g.payload).results, c.step.toNat < 1 ∨ 4 < c.step.toNat then some 2
    else if s.cell = .start ∨ s.cell = .clearOut then some 3
    else if s.cell = .stopped then some 4
    else if s.isRepeat g.src (byteAt g.payload 0) (offerTraveller g.payload).serial then none
    else if (offerTraveller g.payload).serial.any s.serialStands then some 5
    else if s.cfg.nearFull ≤ s.holds.list.length then some 6
    else if 2 ≤ s.tracker.arrivals.length then some 7
    else none := by
  unfold State.offerDecline
  simp only [← badSteps_iff, apply_ite (Option.map DeclineCode.code), Option.map_some, DeclineCode.code,
    Bool.or_eq_true, Bool.not_eq_true']
  congr 2
  cases hcell : s.cell with
  | configFault => exact absurd hcell hc
  | start => rfl
  | clearOut => rfl
  | stopped => rfl
  | run => simp only [apply_ite (Option.map DeclineCode.code), Option.map_some, Option.map_none, DeclineCode.code]; rfl

/-! ## The answers to an OFFER -/

/-- A byte of one half of a word. -/
theorem extractLsb'_half (w : BitVec 32) (i : Nat) {j : Nat} (hj : j ≤ 8) :
    (w.extractLsb' i 16).extractLsb' j 8 = w.extractLsb' (i + j) 8 := by
  ext k hk
  simp only [BitVec.getElem_extractLsb', BitVec.getLsbD_extractLsb', Nat.add_assoc, Bool.and_eq_right_iff_imp, decide_eq_true_eq]
  omega

/-- The bytes of a serial, high byte first. -/
theorem be32_eq (w : BitVec 32) :
    be32 w = [w.extractLsb' 24 8, w.extractLsb' 16 8, w.extractLsb' 8 8, w.extractLsb' 0 8] := by
  simp [be32, be16, extractLsb'_half]

theorem answerPayload_eq (n : Byte) (sn : Option Serial) : answerPayload n sn = n :: match sn with
    | some w => [1, w.extractLsb' 24 8, w.extractLsb' 16 8, w.extractLsb' 8 8, w.extractLsb' 0 8]
    | none => [0, 0, 0, 0, 0] := by
  cases sn with
  | none => rfl
  | some w =>
    rw [answerPayload, optWord, flagByte_singleton, Option.getD_some, be32_eq]
    rfl

theorem State.takeOffer_all (h : g.dst = 0) : s.takeOffer g = s := if_pos h

theorem State.takeOffer_declined {c : DeclineCode} (hd : g.dst ≠ 0) (hc : s.offerDecline g = some c) :
    s.takeOffer g = s.postDecline g c := by
  rw [State.takeOffer, if_neg hd, hc]

/-- Bytes that the payload of an OFFER does not hold are free values of the answer (log 15). -/
theorem State.postDecline_eq (s : State) (g : Telegram) (c : DeclineCode) : ∃ more : List Byte,
    g.payload.length + more.length = max 6 g.payload.length ∧
      s.postDecline g c = State.post { s with free := s.free + more.length } g.src kindDecline
        (answerPayload (byteAt (g.payload ++ more) 0) (serialAt (g.payload ++ more) 1 2) ++ [c.code]) := by
  refine ⟨(List.range (6 - g.payload.length)).map fun k => Config.freeByte (s.free + k), ?_, ?_⟩
  · simp only [List.length_map, List.length_range]
    omega
  · simp only [List.length_map, List.length_range]
    rfl

/-- An OFFER at the head of the queue is taken, and what can start starts. -/
theorem State.exec_offer {rest : List Telegram} (hl : s.loaded = true) (hg : s.link.inbound = g :: rest) (hk : g.kind = kindOffer)
    (ha : s.link.answerHeld = false) :
    exec .offer s = .next (State.starts (State.takeOffer { s with link := s.link.popInbound } g)) :=
  congrArg Host.Outcome.next (State.hand_head (fun t g => (t.takeOffer g).starts) hl hg hk ha)

end

/-- Settles O15: the tests of R35 one by one, with the bytes that are missing taken as free values. -/
theorem offerDeclinedByFirstTest : Obligations.OfferDeclinedByFirstTest := by
  refine ⟨fun s g rest hl hg hk ha hd => ?_, fun s g rest hl hg hk ha hd hc => ?_⟩
  · rw [State.exec_offer hl hg hk ha, State.takeOffer_all hd]
  · intro v code k hcode
    obtain ⟨c, hdecline, rfl⟩ := Option.map_eq_some_iff.1 ((State.offerDecline_code (g := g) hc).trans hcode)
    let popped : State := { s with link := s.link.popInbound }
    obtain ⟨more, hlen, hpost⟩ := popped.postDecline_eq g c
    refine ⟨more, hlen, ?_⟩
    rw [State.exec_offer hl hg hk ha, State.takeOffer_declined (s := popped) hd hdecline, hpost]
    rfl

/-! ## An OFFER accepted (R36, R41) -/

section
variable {s : State} {g : Telegram}

/-- A state with another arrival at ENTRY. -/
def State.withArrival (s : State) (a : Option Arrival) : State := { s with tracker := { s.tracker with arrival := a } }

theorem State.transferLost_withArrival (e : ArrivalEntry) (cause : Byte) (a : Option Arrival) :
    (s.withArrival a).transferLost e cause = (s.transferLost e cause).withArrival a := by
  unfold State.transferLost State.notice State.withArrival
  dsimp only
  split <;> rfl

theorem State.completeMatch_withArrival (e : ArrivalEntry) (others : List ArrivalEntry) (mismatch : Option Serial)
    (a : Option Arrival) : (s.withArrival a).completeMatch e others mismatch = s.completeMatch e others mismatch := rfl

/-- The match looks at the outcome of the read, and not at the arrival it ends. -/
theorem State.matchEntry_withArrival {e : ArrivalEntry} {rest : List ArrivalEntry} (h : s.tracker.arrivals = e :: rest)
    (a : Option Arrival) (o : ReadOutcome) : (s.withArrival a).matchEntry o = s.matchEntry o := by
  have ha : (s.withArrival a).tracker.arrivals = e :: rest := h
  cases o with
  | noRead => rw [State.matchEntry_noRead h, State.matchEntry_noRead ha, State.completeMatch_withArrival]
  | read sn v l =>
    by_cases he : e.trav.serial = some sn
    · rw [State.matchEntry_first h he, State.matchEntry_first ha he, State.completeMatch_withArrival]
    by_cases hrest : ∀ f, rest.head? = some f → f.trav.serial ≠ some sn
    · rw [State.matchEntry_mismatch h he hrest, State.matchEntry_mismatch ha he hrest, State.completeMatch_withArrival]
    · push Not at hrest
      obtain ⟨m, hm, hsn⟩ := hrest
      obtain ⟨others, rfl⟩ := List.head?_eq_some_iff.1 hm
      rw [State.matchEntry_second h he hsn, State.matchEntry_second ha he hsn, State.transferLost_withArrival,
        State.completeMatch_withArrival]

/-- The answer ACCEPT to an OFFER, with its number and serial. -/
def State.postAccept (s : State) (g : Telegram) : State :=
  s.post g.src kindAccept (answerPayload (byteAt g.payload 0) (offerTraveller g.payload).serial)

section
variable (hd : g.dst ≠ 0) (hc : s.offerDecline g = none)
include hd hc

theorem State.takeOffer_repeat (hr : s.isRepeat g.src (byteAt g.payload 0) (offerTraveller g.payload).serial = true) :
    s.takeOffer g = s.postAccept g := by
  rw [State.takeOffer, if_neg hd, hc]
  simp only [hr]
  rfl

variable (hr : s.isRepeat g.src (byteAt g.payload 0) (offerTraveller g.payload).serial = false)
include hr

theorem State.takeOffer_new (ha : ∀ o k, s.tracker.arrival ≠ some (.orphan o k)) :
    s.takeOffer g = (s.appendArrival g).postAccept g := by
  rw [State.takeOffer, if_neg hd, hc]
  simp only [hr]
  split
  next o k _ h => exact absurd h (ha o k)
  · rfl

theorem State.takeOffer_orphan {o : ReadOutcome} {k : Nat} (ha : s.tracker.arrival = some (.orphan o k)) :
    s.takeOffer g = ((s.appendArrival g).postAccept g).matchEntry o := by
  rw [State.takeOffer, if_neg hd, hc]
  simp only [hr]
  split
  next o' k' _ h =>
    cases ha.symm.trans h
    rfl
  next h => exact absurd ha (h o k rfl)

end

end

end Sys2Proof.Machine

end

section

namespace Sys2Proof.Machine

/-! ## The OFFER accepted, and matched at once (R36, R41, log 58) -/

section
variable {s : State} {g : Telegram}

/-- The first tests of R35 passed in RUN: what is left is the repeat, or the tests of serial, hold list and room. -/
theorem State.offerDecline_eq_none (hu : s.cfg.upstream ≠ 0) (hsrc : g.src = s.cfg.upstream) (hfit : offerFits g.payload = true)
    (hrun : s.cell = .run) (hsteps : ∀ c ∈ (offerTraveller g.payload).results, 1 ≤ c.step.toNat ∧ c.step.toNat ≤ 4)
    (h : s.isRepeat g.src (byteAt g.payload 0) (offerTraveller g.payload).serial = true ∨
      (∀ sn, (offerTraveller g.payload).serial = some sn → s.serialStands sn = false) ∧
        s.holds.list.length < s.cfg.nearFull ∧ s.tracker.arrivals.length < 2) : s.offerDecline g = none := by
  have hsteps' : ¬ ∃ c ∈ (offerTraveller g.payload).results, c.step.toNat < 1 ∨ 4 < c.step.toNat := by
    rintro ⟨c, hc, hbad⟩
    have := hsteps c hc
    omega
  rw [← Option.map_eq_none_iff (f := DeclineCode.code), State.offerDecline_code (by simp [hrun]),
    if_neg (not_or.2 ⟨hu, not_not_intro hsrc⟩), if_neg (by simp only [hfit, hsteps']; simp), if_neg (by simp [hrun]), if_neg (by simp [hrun])]
  rcases h with h | ⟨hserial, hnear, hroom⟩
  · rw [if_pos h]
  · have hany : ¬ (offerTraveller g.payload).serial.any s.serialStands = true := by
      rw [Option.any_eq_true]
      rintro ⟨sn, hsn, hst⟩
      cases (hserial sn hsn).symm.trans hst
    rw [if_neg hany, if_neg (Nat.not_le.2 hnear), if_neg (Nat.not_le.2 hroom), ite_self]

/-- The end of a pending entry read that finds an arrival entry is the match alone. -/
theorem State.exec_match_reading {c : Instr} {o : ReadOutcome} {e : ArrivalEntry} {rest : List ArrivalEntry} (hl : s.loaded = true)
    (hlist : s.tracker.arrivals = e :: rest)
    (hc : (∃ a, c = .idReadAnswer s.tracker.idRequest a ∧ o = outcomeOf a) ∨ c = .entryReadTimeout ∧ o = .noRead) :
    exec c (s.withArrival (some (.reading 0))) = .next (s.matchEntry o).starts := by
  have hread := State.exec_endEntryRead (s := s.withArrival (some (.reading 0))) hl rfl hc
  rw [hread, State.endEntryRead_match (s := s.withArrival (some (.reading 0))) hlist, State.matchEntry_withArrival hlist]

end

/-- Settles O14: a repeat is answered alone, and a new entry is appended, and matched where a board waits. -/
theorem offerAccepted : Obligations.OfferAccepted := by
  refine ⟨answerPayload_eq, fun s g rest hl hg hk ha hd hu hsrc hfit hrun => ?_⟩
  intro v n hsteps repeats
  let popped : State := { s with link := s.link.popInbound }
  have hexec : exec .offer s = .next (popped.takeOffer g).starts := State.exec_offer hl hg hk ha
  refine ⟨fun hr => ?_, fun hr hserial hnear hroom => ?_⟩
  · have hrepeat : popped.isRepeat g.src (byteAt g.payload 0) (offerTraveller g.payload).serial = true :=
      (State.isRepeat_iff _ _ _).2 hr
    have hdecline : popped.offerDecline g = none := State.offerDecline_eq_none hu hsrc hfit hrun hsteps (.inl hrepeat)
    rw [hexec, State.takeOffer_repeat hd hdecline hrepeat]
    rfl
  · intro accepted
    have hrepeat : popped.isRepeat g.src (byteAt g.payload 0) (offerTraveller g.payload).serial = false := by
      rw [← Bool.not_eq_true, State.isRepeat_iff]
      exact hr
    have hdecline : popped.offerDecline g = none :=
      State.offerDecline_eq_none hu hsrc hfit hrun hsteps (.inr ⟨fun sn hsn =>
        State.serialStands_eq_false (hserial sn hsn).1 (hserial sn hsn).2, hnear, hroom⟩)
    refine ⟨fun hno => ?_, fun o k hwait => ?_⟩
    · rw [hexec, State.takeOffer_new hd hdecline hrepeat hno]
      rfl
    · let u : State := (popped.appendArrival g).postAccept g
      obtain ⟨e, tail, hlist⟩ : ∃ e tail, u.tracker.arrivals = e :: tail :=
        List.exists_cons_of_ne_nil (List.append_ne_nil_of_right_ne_nil _ (List.cons_ne_nil _ _))
      have hmatch : exec .offer s = .next (u.matchEntry o).starts := by
        rw [hexec, State.takeOffer_orphan hd hdecline hrepeat hwait]
      refine ⟨fun ho => ?_, fun sn vr l ho => ?_⟩
      · rw [hmatch, ← State.exec_match_reading (s := u) hl hlist (.inr ⟨rfl, ho⟩)]
        rfl
      · rw [hmatch, ← State.exec_match_reading (s := u) hl hlist (.inl ⟨.read sn vr l, rfl, ho⟩)]
        rfl

end Sys2Proof.Machine

end

section

namespace Sys2Proof.Machine

/-! ## Fields and bytes (section 11.6) -/

/-- The bits of a byte of flags. -/
theorem getLsbD_flagByte (bits : List Bool) {i : Nat} (hi : i < 8) : (flagByte bits).getLsbD i = bits.getD i false :=
  getLsbD_bitsToNat hi

theorem flagByte_four_lt (a b c d : Bool) : (flagByte [a, b, c, d]).toNat < 16 := by
  revert a b c d
  decide

/-- A four-byte field is read as it was written. -/
theorem wordAt_be32 (w : BitVec 32) : wordAt (be32 w) 0 = w := by
  have h (i : Nat) : wordAt (be32 w) i = halfAt (be32 w) i ++ halfAt (be32 w) (i + 2) := rfl
  have hhigh : halfAt (be32 w) 0 = w.extractLsb' 16 16 := halfAt_be16 [] _
  have hlow : halfAt (be32 w) 2 = w.extractLsb' 0 16 := halfAt_be16 (be16 (w.extractLsb' 16 16)) _
  rw [h, hhigh, hlow]
  ext i hi
  simp only [BitVec.getElem_append, BitVec.getElem_extractLsb']
  split
  · simp [BitVec.getLsbD_eq_getElem hi]
  · rw [show 16 + (i - 16) = i by omega, BitVec.getLsbD_eq_getElem hi]

/-- The byte that holds reason `i` of a set, counted from the last of the three (log 31). -/
theorem getLsbD_be24 (rs : Reasons) {i : Nat} (hi : i < 20) : (byteAt (be24 rs) (2 - i / 8)).getLsbD (i % 8) = rs.getLsbD i := by
  have hbyte : i / 8 = 0 ∨ i / 8 = 1 ∨ i / 8 = 2 := by omega
  rcases hbyte with h | h | h
  · have hat : byteAt (be24 rs) 2 = rs.extractLsb' 0 8 := rfl
    rw [h, hat, BitVec.getLsbD_extractLsb', show 0 + i % 8 = i by omega]
    simp [show i % 8 < 8 by omega]
  · have hat : byteAt (be24 rs) 1 = rs.extractLsb' 8 8 := rfl
    rw [h, hat, BitVec.getLsbD_extractLsb', show 8 + i % 8 = i by omega]
    simp [show i % 8 < 8 by omega]
  · have hat : byteAt (be24 rs) 0 = (rs.extractLsb' 16 4).setWidth 8 := rfl
    rw [h, hat, BitVec.getLsbD_setWidth, BitVec.getLsbD_extractLsb', show 16 + i % 8 = i by omega]
    simp [show i % 8 < 4 by omega, show i % 8 < 8 by omega]

/-- A set of reasons is read as it was written. -/
theorem reasonsAt_be24 (rs : Reasons) : reasonsAt (be24 rs) 0 = rs := by
  refine BitVec.eq_of_getLsbD_eq fun i hi => ?_
  have hbyte := getLsbD_be24 rs hi
  simp only [reasonsAt, halfAt, BitVec.getLsbD_setWidth, BitVec.getLsbD_append, hi, decide_true, Bool.true_and]
  have hplace : i / 8 = 0 ∧ i < 8 ∨ i / 8 = 1 ∧ 8 ≤ i ∧ i < 16 ∨ i / 8 = 2 ∧ 16 ≤ i := by omega
  rcases hplace with ⟨hq, h8⟩ | ⟨hq, h8, h16⟩ | ⟨hq, h16⟩
  · rw [hq, Nat.mod_eq_of_lt h8] at hbyte
    rw [if_pos (by omega), if_pos h8]
    exact hbyte
  · rw [hq, show i % 8 = i - 8 by omega] at hbyte
    rw [if_pos h16, if_neg (by omega)]
    exact hbyte
  · rw [hq, show i % 8 = i - 16 by omega] at hbyte
    rw [if_neg (by omega)]
    exact hbyte

/-! ## Coat results -/

/-- The bytes of the coat results stand one after the other, 8 for each. -/
theorem byteAt_coatResults {l : List CoatResult} {k : Nat} {c : CoatResult} (h : l[k]? = some c) {j : Nat} (hj : j < 8) :
    byteAt (l.flatMap coatResultBytes) (8 * k + j) = byteAt (coatResultBytes c) j := by
  unfold byteAt
  induction l generalizing k with
  | nil => cases h
  | cons b l ih =>
    have hlen : (coatResultBytes b).length = 8 := rfl
    rw [List.flatMap_cons]
    cases k with
    | zero =>
      cases h
      rw [Nat.mul_zero, Nat.zero_add, List.getD_append _ _ _ _ (by omega)]
    | succ k =>
      rw [List.getD_append_right _ _ _ _ (by omega), hlen, show 8 * (k + 1) + j - 8 = 8 * k + j by omega]
      exact ih h

theorem length_coatResults (l : List CoatResult) : (l.flatMap coatResultBytes).length = 8 * l.length := by
  induction l with
  | nil => rfl
  | cons b l ih =>
    rw [List.flatMap_cons, List.length_append, ih, List.length_cons]
    show 8 + _ = _
    omega

theorem coatResultAt_bytes (c : CoatResult) : coatResultAt (coatResultBytes c) 0 = c := by
  have hmin : halfAt (coatResultBytes c) 2 = c.filmMin := halfAt_be16 [] _
  have hmax : halfAt (coatResultBytes c) 4 = c.filmMax := halfAt_be16 [] _
  have hdose : halfAt (coatResultBytes c) 6 = c.dose := halfAt_be16 [] _
  simp only [coatResultAt, hmin, hmax, hdose]
  rfl

/-- A coat result depends on its 8 bytes alone. -/
theorem coatResultAt_congr {p q : List Byte} {i : Nat} (h : ∀ j, j < 8 → byteAt p (i + j) = byteAt q j) :
    coatResultAt p i = coatResultAt q 0 := by
  have hhalf (j : Nat) (hj : j + 1 < 8) : halfAt p (i + j) = halfAt q j := by
    unfold halfAt
    rw [h j (by omega), ← h (j + 1) hj, Nat.add_assoc]
  unfold coatResultAt
  rw [hhalf 2 (by omega), hhalf 4 (by omega), hhalf 6 (by omega), h 1 (by omega), ← h 0 (by omega)]
  simp

/-! ## The traveller of an OFFER (R27) -/

section
variable (n : Byte) (t : Traveller)

/-- The first 23 bytes of an OFFER, and its coat results behind them. -/
theorem byteAt_offerPayload_results (i : Nat) :
    byteAt (offerPayload n t) (23 + i) = byteAt (t.results.flatMap coatResultBytes) i := by
  rw [Nat.add_comm]
  rfl

theorem length_offerPayload : (offerPayload n t).length = 23 + 8 * t.results.length := by
  rw [← length_coatResults, Nat.add_comm]
  rfl

theorem coatResultAt_offerPayload {k : Nat} {c : CoatResult} (h : t.results[k]? = some c) :
    coatResultAt (offerPayload n t) (23 + 8 * k) = c := by
  rw [← coatResultAt_bytes c]
  refine coatResultAt_congr fun j hj => ?_
  rw [Nat.add_assoc, byteAt_offerPayload_results, byteAt_coatResults h hj]

theorem wordAt_serial : wordAt (offerPayload n t) 2 = t.serial.getD 0 := wordAt_be32 _

theorem wordAt_readSerial : wordAt (offerPayload n t) 6 = t.readSerial.getD 0 := wordAt_be32 _

theorem halfAt_variant : halfAt (offerPayload n t) 10 = t.variant := halfAt_be16 [] _

theorem halfAt_lot : halfAt (offerPayload n t) 12 = t.lot := halfAt_be16 [] _

theorem halfAt_length : halfAt (offerPayload n t) 19 = t.length.getD 0 := halfAt_be16 [] _

theorem reasonsAt_offerPayload : reasonsAt (offerPayload n t) 16 = t.reasons := reasonsAt_be24 _

theorem presence_offerPayload : byteAt (offerPayload n t) 1 =
    flagByte [t.serial.isSome, t.readSerial.isSome, t.length.isSome, t.snapshot.isSome] := rfl

theorem side_offerPayload : byteAt (offerPayload n t) 14 = t.sideUp.code := rfl

theorem steps_offerPayload : byteAt (offerPayload n t) 15 = t.stepsDone.setWidth 8 := rfl

theorem snapshot_offerPayload : byteAt (offerPayload n t) 21 = (t.snapshot.getD 0).setWidth 8 := rfl

theorem count_offerPayload : byteAt (offerPayload n t) 22 = byteOf t.results.length := rfl

end

end Sys2Proof.Machine

end

section

namespace Sys2Proof.Machine

/-! ## An OFFER written and read (R27, R217) -/

theorem offerFits_iff (p : List Byte) : offerFits p = true ↔ p.length = 23 + 8 * (byteAt p 22).toNat ∧ (byteAt p 22).toNat ≤ 4 ∧
    (byteAt p 1).toNat < 16 ∧ (byteAt p 14).toNat ≤ 1 ∧ (byteAt p 15).toNat < 16 ∧ (byteAt p 16).toNat < 16 ∧
    (byteAt p 21).toNat < 16 := by
  simp only [offerFits, Bool.and_eq_true, decide_eq_true_eq]
  omega

theorem setWidth8_lt (v : BitVec 4) : (v.setWidth 8).toNat < 16 := by
  rw [BitVec.toNat_setWidth]
  omega

section
variable (n : Byte) (t : Traveller)

theorem presence_offerPayload_lt : (byteAt (offerPayload n t) 1).toNat < 16 := flagByte_four_lt _ _ _ _

theorem steps_offerPayload_lt : (byteAt (offerPayload n t) 15).toNat < 16 := setWidth8_lt _

theorem reasons_offerPayload_lt : (byteAt (offerPayload n t) 16).toNat < 16 := setWidth8_lt _

theorem snapshot_offerPayload_lt : (byteAt (offerPayload n t) 21).toNat < 16 := setWidth8_lt _

theorem side_code_le (d : Side) : d.code.toNat ≤ 1 := by
  cases d <;> decide

theorem presence_bits : (byteAt (offerPayload n t) 1).getLsbD 0 = t.serial.isSome ∧
    (byteAt (offerPayload n t) 1).getLsbD 1 = t.readSerial.isSome ∧
    (byteAt (offerPayload n t) 1).getLsbD 2 = t.length.isSome ∧ (byteAt (offerPayload n t) 1).getLsbD 3 = t.snapshot.isSome := by
  rw [presence_offerPayload]
  exact ⟨getLsbD_flagByte _ (by decide), getLsbD_flagByte _ (by decide), getLsbD_flagByte _ (by decide),
    getLsbD_flagByte _ (by decide)⟩

/-- A field marked by a presence bit and zero where it is absent is read back. -/
theorem presentField {α : Type} (o : Option α) (d : α) : (if o.isSome = true then some (o.getD d) else none) = o := by
  cases o <;> rfl

theorem getLsbD_reasons (x : Reason) :
    (byteAt (offerPayload n t) (18 - x.code / 8)).getLsbD (x.code % 8) = hasReason t.reasons x := by
  have hplace (i : Nat) (hi : i ≤ 2) : byteAt (offerPayload n t) (18 - i) = byteAt (be24 t.reasons) (2 - i) := by
    interval_cases i <;> rfl
  have hcode := x.code_lt
  rw [hplace _ (by omega), getLsbD_be24 _ hcode]
  rfl

theorem getLsbD_steps {k : Nat} (hk : k < 4) :
    (byteAt (offerPayload n t) 15).getLsbD k = hasStep t.stepsDone (k + 1) := by
  rw [steps_offerPayload, BitVec.getLsbD_setWidth]
  simp [hasStep, show k < 8 by omega]

theorem getLsbD_snapshot {i : Nat} (hi : i < 4) :
    (byteAt (offerPayload n t) 21).getLsbD i = (t.snapshot.getD 0).getLsbD i := by
  rw [snapshot_offerPayload, BitVec.getLsbD_setWidth]
  simp [show i < 8 by omega]

theorem results_offerPayload :
    ((List.range t.results.length).map fun k => coatResultAt (offerPayload n t) (23 + 8 * k)) = t.results := by
  refine List.ext_getElem (by simp) fun k hk _ => ?_
  have hlt : k < t.results.length := by simpa using hk
  rw [List.getElem_map, List.getElem_range]
  exact coatResultAt_offerPayload n t (List.getElem?_eq_getElem hlt)

variable (ht : t.results.length ≤ 4)
include ht

theorem count_offerPayload_toNat : (byteAt (offerPayload n t) 22).toNat = t.results.length := by
  rw [count_offerPayload, byteOf, BitVec.toNat_ofNat]
  omega

theorem offerFits_offerPayload : offerFits (offerPayload n t) = true := by
  rw [offerFits_iff, count_offerPayload_toNat n t ht]
  exact ⟨length_offerPayload n t, ht, presence_offerPayload_lt n t, side_code_le t.sideUp, steps_offerPayload_lt n t,
    reasons_offerPayload_lt n t, snapshot_offerPayload_lt n t⟩

/-- The round trip, field by field. -/
theorem offerTraveller_offerPayload : offerTraveller (offerPayload n t) = t := by
  obtain ⟨hserial, hread, hlength, hsnapshot⟩ := presence_bits n t
  have hside : (if byteAt (offerPayload n t) 14 = 0 then Side.top else Side.bottom) = t.sideUp := by
    rw [side_offerPayload]
    cases t.sideUp <;> rfl
  have hsteps : (byteAt (offerPayload n t) 15).setWidth 4 = t.stepsDone := by
    rw [steps_offerPayload, BitVec.setWidth_setWidth_of_le _ (by omega), BitVec.setWidth_eq]
  have hshot : (byteAt (offerPayload n t) 21).setWidth 4 = t.snapshot.getD 0 := by
    rw [snapshot_offerPayload, BitVec.setWidth_setWidth_of_le _ (by omega), BitVec.setWidth_eq]
  unfold offerTraveller
  rw [hserial, hread, hlength, hsnapshot, hside, hsteps, hshot, wordAt_serial, wordAt_readSerial, halfAt_variant, halfAt_lot,
    halfAt_length, reasonsAt_offerPayload, count_offerPayload_toNat n t ht, results_offerPayload n t, presentField,
    presentField, presentField, presentField]

end

/-- The fields of a coat result at their places. -/
theorem coatResultAt_fields {p : List Byte} {i : Nat} {c : CoatResult} (h : coatResultAt p i = c) :
    byteAt p i = c.step ∧ byteAt p (i + 1) = c.cell ∧ halfAt p (i + 2) = c.filmMin ∧ halfAt p (i + 4) = c.filmMax ∧
      halfAt p (i + 6) = c.dose := by
  subst h
  exact ⟨rfl, rfl, rfl, rfl, rfl⟩

/-- Settles O13: the round trip, the place of each field, and the test of the layout. -/
theorem offerCarriesTraveller : Obligations.OfferCarriesTraveller := by
  refine ⟨fun n t ht => ⟨offerFits_offerPayload n t ht, rfl, offerTraveller_offerPayload n t ht⟩, fun n t ht => ?_, offerFits_iff⟩
  intro p code
  have hcode (x : Reason) : code x = x.code := by cases x <;> rfl
  obtain ⟨hserial, hread, hlength, hsnapshot⟩ := presence_bits n t
  refine ⟨length_offerPayload n t, ⟨hserial, hread, hlength, hsnapshot, presence_offerPayload_lt n t⟩,
    ⟨wordAt_serial n t, wordAt_readSerial n t, halfAt_variant n t, halfAt_lot n t, ?_, fun k hk => getLsbD_steps n t hk,
      steps_offerPayload_lt n t⟩, ⟨fun x => ?_, reasons_offerPayload_lt n t⟩,
    ⟨halfAt_length n t, fun i hi => getLsbD_snapshot n t hi, snapshot_offerPayload_lt n t, rfl⟩, fun k c hc => ?_⟩
  · rw [side_offerPayload]
    cases t.sideUp <;> rfl
  · rw [hcode]
    exact getLsbD_reasons n t x
  · have hfields := coatResultAt_fields (coatResultAt_offerPayload n t hc)
    simpa only [show 23 + 8 * k + 1 = 24 + 8 * k by omega, show 23 + 8 * k + 2 = 25 + 8 * k by omega,
      show 23 + 8 * k + 4 = 27 + 8 * k by omega, show 23 + 8 * k + 6 = 29 + 8 * k by omega] using hfields

end Sys2Proof.Machine

end

section

namespace Sys2Proof.Machine

/-! ## The recipe each board is bound to (R61, R62) -/

/-- The record of the store that the board at each place is bound to. -/
def recipesOf (t : Table) : PerPos (Option (Fin 12)) := t.mapPos fun _ o => o.bind (·.recipe)

theorem get_recipesOf (t : Table) (p : Position) : (recipesOf t).get p = (t.get p).bind (·.recipe) := PerPos.get_mapPos _ _ _

theorem get_recipesOf_eq_some {t : Table} {p : Position} {i : Fin 12} :
    (recipesOf t).get p = some i ↔ ∃ r, t.get p = some r ∧ r.recipe = some i := by
  rw [get_recipesOf, Option.bind_eq_some_iff]

theorem recipesOf_put (t : Table) (p : Position) (o : Option Record) :
    recipesOf (t.put p o) = (recipesOf t).put p (o.bind (·.recipe)) := by
  cases p <;> rfl

/-- A place takes a board that is bound as the one there was. -/
theorem recipesOf_put_bound {t : Table} {p : Position} {r q : Record} (h : t.get p = some r) (hq : q.recipe = r.recipe) :
    recipesOf (t.put p (some q)) = recipesOf t := by
  refine PerPos.ext_get fun a => ?_
  rw [recipesOf_put, PerPos.get_put]
  split
  next ha => rw [ha, get_recipesOf, h]; exact hq
  · rfl

theorem bind_recipe_map {o : Option Record} {f : Record → Record} (hf : ∀ r, (f r).recipe = r.recipe) :
    (o.map f).bind (·.recipe) = o.bind (·.recipe) := by
  cases o with
  | none => rfl
  | some r => exact hf r

/-- The board at one place changed, and bound as before. -/
theorem recipesOf_put_map {t : Table} (p : Position) {f : Record → Record} (hf : ∀ r, (f r).recipe = r.recipe) :
    recipesOf (t.put p ((t.get p).map f)) = recipesOf t := by
  cases h : t.get p with
  | some r => exact recipesOf_put_bound h (hf r)
  | none =>
    have hp : t.put p none = t := PerPos.ext_get fun q => by rw [PerPos.get_put]; split <;> simp_all
    exact congrArg recipesOf hp

theorem recipesOf_mapPos (t : Table) {f : Position → Record → Record} (hf : ∀ p r, (f p r).recipe = r.recipe) :
    recipesOf (t.mapPos fun p o => o.map (f p)) = recipesOf t :=
  PerPos.ext_get fun p => by rw [get_recipesOf, get_recipesOf, PerPos.get_mapPos, bind_recipe_map (hf p)]

section
variable (r : Record) (s : State)

@[simp] theorem Record.addReason_recipe (x : Reason) : (r.addReason x).recipe = r.recipe := rfl

@[simp] theorem Record.addReasonIf_recipe (c : Bool) (x : Reason) : (r.addReasonIf c x).recipe = r.recipe := by
  cases c <;> rfl

@[simp] theorem Record.withVerdicts_recipe (vs : List Verdict) : (r.withVerdicts vs).recipe = r.recipe := by
  simp [Record.withVerdicts]

@[simp] theorem Record.withFilm_recipe (rc : Recipe) (e : Nat × Nat) : (r.withFilm rc e).recipe = r.recipe := by
  simp [Record.withFilm]

@[simp] theorem Record.withCoat_recipe (b : Byte) (rc : Recipe) : (r.withCoat b rc).recipe = r.recipe := rfl

@[simp] theorem Record.flashTick_recipe : r.flashTick.recipe = r.recipe := by
  unfold Record.flashTick
  split <;> rfl

@[simp] theorem LotFilter.mark_recipe (f : LotFilter) : (f.mark r).recipe = r.recipe := by simp [LotFilter.mark]

@[simp] theorem State.closeCut_recipe (l : Option Half) : (s.closeCut r l).recipe = r.recipe := by simp [State.closeCut]

@[simp] theorem State.closeTrailing_recipe (l : Nat) : (s.closeTrailing r l).recipe = r.recipe := by simp [State.closeTrailing]

@[simp] theorem State.closeAtSpray_recipe : (s.closeAtSpray r).recipe = r.recipe := by
  unfold State.closeAtSpray
  split <;> simp

@[simp] theorem State.potTest_recipe (p : Position) : (s.potTest p r).recipe = r.recipe := by simp [State.potTest]

@[simp] theorem State.cureRecord_recipe (p : Position) : (s.cureRecord p r).recipe = r.recipe := by
  unfold State.cureRecord
  split <;> simp

end

/-! ## Events that bind no board anew -/

section
variable (s : State)

/-! ### The candidate's record -/

theorem State.recipesOf_setCandidate {r q : Record} (h : s.candidate = some r) (hq : q.recipe = r.recipe) :
    recipesOf (s.setCandidate q).table = recipesOf s.table := by
  obtain ⟨p, hp, hr⟩ := Option.bind_eq_some_iff.1 h
  unfold State.setCandidate
  rw [hp]
  exact recipesOf_put_bound hr hq

theorem State.recipesOf_closeWith {f : Record → Record} (hf : ∀ r, (f r).recipe = r.recipe) :
    recipesOf (s.closeWith f).table = recipesOf s.table := by
  unfold State.closeWith
  split
  next r hr => exact s.recipesOf_setCandidate hr (hf r)
  · rfl

@[simp] theorem State.recipesOf_sampleZones (x : Int) (seen : Bool) :
    recipesOf (s.sampleZones x seen).table = recipesOf s.table := by
  unfold State.sampleZones
  split
  · rfl
  next r hr => exact s.recipesOf_setCandidate hr (Record.withVerdicts_recipe _ _)

@[simp] theorem State.recipesOf_classify : recipesOf s.classify.table = recipesOf s.table := by
  unfold State.classify
  split
  · rfl
  next r hr => exact s.recipesOf_setCandidate hr (Record.withVerdicts_recipe _ _)

@[simp] theorem State.recipesOf_openMeasurement : recipesOf s.openMeasurement.table = recipesOf s.table := by
  simp [State.openMeasurement]

@[simp] theorem State.recipesOf_countOutside (datum : Bool) : recipesOf (s.countOutside datum).table = recipesOf s.table := by
  unfold State.countOutside
  dsimp only
  split <;> simp

@[simp] theorem State.recipesOf_trailingEdge (x : Int) : recipesOf (s.trailingEdge x).table = recipesOf s.table :=
  s.recipesOf_closeWith fun r => by simp

@[simp] theorem State.recipesOf_countForward (datum : Bool) : recipesOf (s.countForward datum).table = recipesOf s.table := by
  unfold State.countForward
  dsimp only
  split
  · rfl
  split
  · exact s.recipesOf_closeWith fun r => by simp
  split <;> simp

@[simp] theorem State.recipesOf_countReverse : recipesOf s.countReverse.table = recipesOf s.table := by
  unfold State.countReverse
  dsimp only
  split
  · exact State.recipesOf_closeWith _ fun r => by simp
  · rfl

@[simp] theorem State.recipesOf_transportCount (dir : Direction) (datum : Bool) :
    recipesOf (s.transportCount dir datum).table = recipesOf s.table := by
  unfold State.transportCount
  split <;> simp

@[simp] theorem State.recipesOf_candidateAtSpray : recipesOf s.candidateAtSpray.table = recipesOf s.table := by
  unfold State.candidateAtSpray
  split
  · exact recipesOf_put_map .spray fun r => by simp
  · rfl

/-! ### The cure tick -/

theorem State.recipesOf_mapRecords {f : Position → Record → Record} (hf : ∀ p r, (f p r).recipe = r.recipe) :
    recipesOf (s.mapRecords f).table = recipesOf s.table := recipesOf_mapPos _ hf

@[simp] theorem State.recipesOf_cureStep : recipesOf s.cureStep.table = recipesOf s.table :=
  s.recipesOf_mapRecords fun p r => by simp

@[simp] theorem State.recipesOf_flashStep : recipesOf s.flashStep.table = recipesOf s.table :=
  s.recipesOf_mapRecords fun p r => by simp

@[simp] theorem State.recipesOf_cureTick : recipesOf s.cureTick.table = recipesOf s.table := by
  simp [State.cureTick]

/-! ### The record at EXIT -/

theorem State.recipesOf_atExit {f : Record → Record} (hf : ∀ r, (f r).recipe = r.recipe) :
    recipesOf (s.atExit f).table = recipesOf s.table := recipesOf_put_map .exit hf

@[simp] theorem State.recipesOf_setHandoff (h : Option Handoff) : recipesOf (s.setHandoff h).table = recipesOf s.table :=
  recipesOf_put_map .exit fun _ => rfl

@[simp] theorem State.recipesOf_handForDiversion : recipesOf s.handForDiversion.table = recipesOf s.table :=
  recipesOf_put_map .exit fun _ => rfl

@[simp] theorem State.recipesOf_setDiversion (d : Diversion) : recipesOf (s.setDiversion d).table = recipesOf s.table :=
  recipesOf_put_map .exit fun _ => rfl

@[simp] theorem State.recipesOf_postOffer (n : Byte) : recipesOf (s.postOffer n).table = recipesOf s.table := by
  unfold State.postOffer
  split
  · rfl
  · split <;> simp

@[simp] theorem State.recipesOf_exitDecision : recipesOf s.exitDecision.table = recipesOf s.table := by
  unfold State.exitDecision
  split
  · rfl
  split
  · simp
  · split <;> simp [State.becomeOffered]

@[simp] theorem State.recipesOf_takeAccept (t : Telegram) : recipesOf (s.takeAccept t).table = recipesOf s.table := by
  unfold State.takeAccept
  split
  · split <;> simp
  · rfl

@[simp] theorem State.recipesOf_takeDecline (t : Telegram) : recipesOf (s.takeDecline t).table = recipesOf s.table := by
  unfold State.takeDecline
  split
  · split <;> simp
  · rfl

@[simp] theorem State.recipesOf_answerExpiry : recipesOf s.answerExpiry.table = recipesOf s.table := by
  unfold State.answerExpiry
  split <;> simp

@[simp] theorem State.recipesOf_reOfferExpiry : recipesOf s.reOfferExpiry.table = recipesOf s.table := by
  unfold State.reOfferExpiry
  split <;> simp

@[simp] theorem State.recipesOf_postDueOffer : recipesOf s.postDueOffer.table = recipesOf s.table := by
  unfold State.postDueOffer
  split <;> simp

@[simp] theorem State.recipesOf_offerReport (n : Byte) (refused : Bool) :
    recipesOf (s.offerReport n refused).table = recipesOf s.table := by
  unfold State.offerReport
  split
  · split <;> simp
  · rfl

@[simp] theorem State.recipesOf_tryDiversion : recipesOf s.tryDiversion.table = recipesOf s.table := by
  unfold State.tryDiversion
  split
  · split <;> simp
  · rfl

@[simp] theorem State.recipesOf_judgeCure : recipesOf s.judgeCure.table = recipesOf s.table := by
  unfold State.judgeCure
  split
  · rfl
  · split
    · simpa using s.recipesOf_atExit fun r => by simp
    · rfl

@[simp] theorem State.recipesOf_appendCoat : recipesOf s.appendCoat.table = recipesOf s.table := by
  unfold State.appendCoat
  split
  · rfl
  · split
    · exact s.recipesOf_atExit fun r => rfl
    · rfl

@[simp] theorem State.recipesOf_auditTest : recipesOf s.auditTest.table = recipesOf s.table := by
  unfold State.auditTest
  split
  · rfl
  · split
    · exact s.recipesOf_atExit fun _ => rfl
    · rfl

@[simp] theorem State.recipesOf_placed : recipesOf s.placed.table = recipesOf s.table := by simp [State.placed]

/-! ### The record at SPRAY -/

theorem State.recipesOf_atSpray {f : Record → Record} (hf : ∀ r, (f r).recipe = r.recipe) :
    recipesOf (s.atSpray f).table = recipesOf s.table := recipesOf_put_map .spray hf

theorem State.recipesOf_startWaiting {r : Record} (h : s.table.spray = some r) (rc : Recipe) :
    recipesOf (s.startWaiting r rc).table = recipesOf s.table := by
  have hput (b : Built) : recipesOf (s.table.put .spray
      (some ({ r with spray := .waitingSupply, clip := b.clip }.addReasonIf b.full .scheduleFull))) = recipesOf s.table :=
    recipesOf_put_bound h (by simp)
  unfold State.startWaiting
  dsimp only
  split <;> simp [hput]

@[simp] theorem State.recipesOf_sprayDecision : recipesOf s.sprayDecision.table = recipesOf s.table := by
  unfold State.sprayDecision
  split
  · rfl
  next r hr =>
    split
    · split
      · exact recipesOf_put_bound hr rfl
      · exact recipesOf_put_bound hr rfl
      · exact s.recipesOf_startWaiting hr _
    · rfl

theorem State.recipesOf_finishSpray {f : Record → Record} (hf : ∀ r, (f r).recipe = r.recipe) (e : Option (Nat × Nat)) :
    recipesOf (s.finishSpray f e).table = recipesOf s.table := by
  unfold State.finishSpray
  dsimp only
  split
  · rfl
  next r hr =>
    split
    · simpa using recipesOf_put_bound (p := .spray) hr (by simpa using hf r)
    · exact recipesOf_put_bound hr (hf r)

@[simp] theorem State.recipesOf_passEnd : recipesOf s.passEnd.table = recipesOf s.table :=
  s.recipesOf_finishSpray (by intro r; rfl) _

@[simp] theorem State.recipesOf_abortPass : recipesOf s.abortPass.table = recipesOf s.table := by
  simpa [State.abortPass] using s.recipesOf_finishSpray (by intro r; rfl) _

@[simp] theorem State.recipesOf_startPass : recipesOf s.startPass.table = recipesOf s.table :=
  s.recipesOf_atSpray fun _ => rfl

@[simp] theorem State.recipesOf_tryPass : recipesOf s.tryPass.table = recipesOf s.table := by
  unfold State.tryPass
  split
  · split <;> simp
  · rfl

@[simp] theorem State.recipesOf_passForward : recipesOf s.passForward.table = recipesOf s.table := by
  unfold State.passForward
  dsimp only
  split
  · simp
  · split <;> simp

@[simp] theorem State.recipesOf_sprayCount (dir : Direction) : recipesOf (s.sprayCount dir).table = recipesOf s.table := by
  unfold State.sprayCount
  split
  · dsimp only
    split <;> simp
  · split
    · unfold State.passReverse
      split <;> simp
    · rfl

@[simp] theorem State.recipesOf_guardOpens : recipesOf s.guardOpens.table = recipesOf s.table := by
  have hspray (u : State) : recipesOf u.guardSpray.table = recipesOf u.table := by
    unfold State.guardSpray
    split
    · simp
    · split <;> simp
  simp [State.guardOpens, hspray]

@[simp] theorem State.recipesOf_skipWaiting : recipesOf s.skipWaiting.table = recipesOf s.table := by
  unfold State.skipWaiting
  split
  · refine (congrArg recipesOf ?_).trans (s.recipesOf_atSpray (f := fun r => { r with spray := .skipped }) fun _ => rfl)
    simp
  · rfl

@[simp] theorem State.recipesOf_takeLotHold (t : Telegram) : recipesOf (s.takeLotHold t).table = recipesOf s.table := by
  have hdivert (u : State) : recipesOf u.divertOffered.table = recipesOf u.table := by
    unfold State.divertOffered
    split <;> simp
  have hmark (u : State) (f : LotFilter) : recipesOf (u.mapRecords fun _ r => f.mark r).table = recipesOf u.table :=
    u.recipesOf_mapRecords fun _ r => by simp
  have hfilter (u : State) (f : LotFilter) : recipesOf (u.applyFilter f).table = recipesOf u.table := by
    unfold State.applyFilter
    dsimp only
    split <;> split <;> simp [hdivert, hmark]
  unfold State.takeLotHold
  dsimp only
  split
  · rfl
  split
  · simp [hfilter]
  · simp

/-! ### The millisecond -/

@[simp] theorem State.recipesOf_idleMs : recipesOf s.idleMs.table = recipesOf s.table := by
  have hdown (u : State) : recipesOf u.timersDown.table = recipesOf u.table := recipesOf_put_map .exit fun _ => rfl
  have hlive (u : State) : recipesOf u.liveMs.table = recipesOf u.table := by
    unfold State.liveMs
    dsimp only
    split <;> exact hdown u
  have hseconds : s.secondsMsDown.table = s.table := by
    unfold State.secondsMsDown
    split <;> rfl
  unfold State.idleMs
  split
  · rw [hlive, hseconds]
  · rw [hseconds]

@[simp] theorem State.idleMs_store : s.idleMs.store = s.store := by
  have hlive (u : State) : u.liveMs.store = u.store := by
    unfold State.liveMs
    dsimp only
    split <;> rfl
  have hseconds : s.secondsMsDown.store = s.store := by
    unfold State.secondsMsDown
    split <;> rfl
  unfold State.idleMs
  split
  · rw [hlive, hseconds]
  · rw [hseconds]

end

end Sys2Proof.Machine

end

section

namespace Sys2Proof.Machine

/-! ## The records and slots of the store under its updates -/

section
variable (st : Store)

theorem Store.records_setRecord (i j : Fin 12) (c : RecipeCell) :
    (st.setRecord i c).records[j] = if j = i then c else st.records[j] := by
  by_cases h : j = i
  · subst h; simp [Store.setRecord]
  · have : i.val ≠ j.val := fun e => h (Fin.ext e.symm)
    simp [Store.setRecord, h, this]

@[simp] theorem Store.slots_setRecord (i : Fin 12) (c : RecipeCell) : (st.setRecord i c).slots = st.slots := rfl

@[simp] theorem Store.assembler_setRecord (i : Fin 12) (c : RecipeCell) : (st.setRecord i c).assembler = st.assembler := rfl

theorem Store.slots_setSlot (k l : Fin 8) (r : RecipeSlot) : (st.setSlot k r).slots[l] = if l = k then r else st.slots[l] := by
  by_cases h : l = k
  · subst h; simp [Store.setSlot]
  · have : k.val ≠ l.val := fun e => h (Fin.ext e.symm)
    simp [Store.setSlot, h, this]

@[simp] theorem Store.records_setSlot (k : Fin 8) (r : RecipeSlot) : (st.setSlot k r).records = st.records := rfl

@[simp] theorem Store.assembler_setSlot (k : Fin 8) (r : RecipeSlot) : (st.setSlot k r).assembler = st.assembler := rfl

theorem Store.records_freeOld (o : Option (Fin 12)) (j : Fin 12) :
    (st.freeOld o).records[j] = if o = some j then .free else st.records[j] := by
  cases o with
  | none => rfl
  | some i =>
    rw [Store.freeOld, Store.records_setRecord]
    simp only [Option.some.injEq, eq_comm]

@[simp] theorem Store.slots_freeOld (o : Option (Fin 12)) : (st.freeOld o).slots = st.slots := by cases o <;> rfl

@[simp] theorem Store.assembler_freeOld (o : Option (Fin 12)) : (st.freeOld o).assembler = st.assembler := by cases o <;> rfl

/-- The records after an image is staged (R56). -/
theorem Store.records_stage (k : Fin 8) (i j : Fin 12) (rc : Recipe) : (st.stage k i rc).records[j] =
    if st.slots[k].staged = some j then .free else if j = i then .staged rc else st.records[j] := by
  unfold Store.stage
  simp only [Store.records_freeOld, Store.records_setSlot, Store.records_setRecord]
  split
  · rfl
  · split <;> rfl

/-- The slots after an image is staged (R56). -/
theorem Store.slots_stage (k l : Fin 8) (i : Fin 12) (rc : Recipe) :
    (st.stage k i rc).slots[l] = if l = k then { st.slots[k] with staged := some i } else st.slots[l] := by
  unfold Store.stage
  simp only [Store.slots_freeOld, Store.slots_setSlot, Store.slots_setRecord]

@[simp] theorem Store.assembler_stage (k : Fin 8) (i : Fin 12) (rc : Recipe) : (st.stage k i rc).assembler = st.assembler := by
  unfold Store.stage
  simp

theorem mem_recordNumbers (i : Fin 12) : i ∈ recordNumbers := by revert i; decide

theorem RecipeCell.excl_of_active {c : RecipeCell} (h : c.isActive = true) :
    c.isStaged = false ∧ c.isRetiring = false ∧ c ≠ .free := by
  cases c <;> simp_all [RecipeCell.isActive, RecipeCell.isStaged, RecipeCell.isRetiring]

theorem RecipeCell.excl_of_staged {c : RecipeCell} (h : c.isStaged = true) :
    c.isActive = false ∧ c.isRetiring = false ∧ c ≠ .free := by
  cases c <;> simp_all [RecipeCell.isActive, RecipeCell.isStaged, RecipeCell.isRetiring]

theorem RecipeCell.isFree_iff (c : RecipeCell) : c.isFree = true ↔ c = .free := by
  cases c <;> simp [RecipeCell.isFree]

theorem Store.free_of_lowestFree {st : Store} {i : Fin 12} (h : st.lowestFree = some i) : st.records[i] = .free :=
  (RecipeCell.isFree_iff _).1 (List.find?_some (p := fun j : Fin 12 => st.records[j].isFree) h)

end

/-! ## The law of the recipe store (R48, R49, R62) -/

/-- Each slot names records in their states, and no two slots name one record. -/
structure Store.SlotsLaw (st : Store) : Prop where
  active : ∀ (k : Fin 8) (i : Fin 12), st.slots[k].active = some i → st.records[i].isActive = true
  staged : ∀ (k : Fin 8) (i : Fin 12), st.slots[k].staged = some i → st.records[i].isStaged = true
  active_inj : ∀ (k l : Fin 8) (i : Fin 12), st.slots[k].active = some i → st.slots[l].active = some i → k = l
  staged_inj : ∀ (k l : Fin 8) (i : Fin 12), st.slots[k].staged = some i → st.slots[l].staged = some i → k = l

/-- A record that a board may be bound to: ACTIVE or RETIRING (R62). -/
def Store.Stands (st : Store) (i : Fin 12) : Prop := st.records[i].isActive = true ∨ st.records[i].isRetiring = true

/-- Every board's recipe stands. -/
def State.BoundStand (s : State) : Prop := ∀ p i, (recipesOf s.table).get p = some i → s.store.Stands i

theorem State.storeLaw_iff (s : State) : s.storeLaw ↔ s.store.SlotsLaw ∧ s.BoundStand := by
  constructor
  · rintro ⟨ha, hs, hai, hsi, hb⟩
    refine ⟨⟨ha, hs, hai, hsi⟩, fun p i h => ?_⟩
    obtain ⟨r, hr, hi⟩ := get_recipesOf_eq_some.1 h
    exact hb p r i hr hi
  · rintro ⟨⟨ha, hs, hai, hsi⟩, hb⟩
    exact ⟨ha, hs, hai, hsi, fun p r i hr hi => hb p i (get_recipesOf_eq_some.2 ⟨r, hr, hi⟩)⟩

/-- An event keeps the law of the store. -/
def State.KeepsStore (s t : State) : Prop := s.storeLaw → t.storeLaw

theorem State.KeepsStore.refl (s : State) : s.KeepsStore s := id

theorem State.KeepsStore.trans {s t u : State} (h : s.KeepsStore t) (k : t.KeepsStore u) : s.KeepsStore u := k ∘ h

/-- An event that leaves the records and slots, and after which each recipe of a board is one that a board was bound to. -/
theorem State.KeepsStore.of_fewer {s t : State} (hr : t.store.records = s.store.records) (hs : t.store.slots = s.store.slots)
    (hb : ∀ p i, (recipesOf t.table).get p = some i → ∃ q, (recipesOf s.table).get q = some i) : s.KeepsStore t := by
  intro h
  obtain ⟨⟨ha, hst, hai, hsi⟩, hbound⟩ := s.storeLaw_iff.1 h
  refine t.storeLaw_iff.2 ⟨⟨?_, ?_, ?_, ?_⟩, fun p i hp => ?_⟩
  · simpa only [hr, hs] using ha
  · simpa only [hr, hs] using hst
  · simpa only [hs] using hai
  · simpa only [hs] using hsi
  · obtain ⟨q, hq⟩ := hb p i hp
    simpa only [Store.Stands, hr] using hbound q i hq

/-- An event that leaves the store and what each board is bound to. -/
theorem State.KeepsStore.of_same {s t : State} (hs : t.store = s.store) (ht : recipesOf t.table = recipesOf s.table) :
    s.KeepsStore t :=
  .of_fewer (by rw [hs]) (by rw [hs]) fun p i h => ⟨p, ht ▸ h⟩

theorem State.KeepsStore.of_fields {s t : State} (hs : t.store = s.store) (ht : t.table = s.table) : s.KeepsStore t :=
  .of_same hs (congrArg recipesOf ht)

/-- An event that keeps the law, after one that leaves the store and the table. -/
theorem State.KeepsStore.after {s t u : State} (k : t.KeepsStore u) (hs : t.store = s.store) (ht : t.table = s.table) :
    s.KeepsStore u := (State.KeepsStore.of_fields hs ht).trans k

/-- An event that leaves the store and takes boards from their places or puts unbound ones there. -/
theorem State.KeepsStore.of_put {s t : State} {p : Position} {o : Option Record} (hs : t.store = s.store)
    (ht : t.table = s.table.put p o) (ho : o.bind (·.recipe) = none) : s.KeepsStore t := by
  refine .of_fewer (by rw [hs]) (by rw [hs]) fun q i h => ⟨q, ?_⟩
  rw [ht, recipesOf_put, ho, PerPos.get_put] at h
  split at h
  · cases h
  · exact h

/-! ## Records that leave, and the references handed back (R49, R59) -/

/-- A record that some board is bound to has references. -/
theorem State.refCount_ne_zero {s : State} {p : Position} {i : Fin 12} (h : (recipesOf s.table).get p = some i) :
    s.refCount i ≠ 0 := by
  obtain ⟨r, hr, hi⟩ := get_recipesOf_eq_some.1 h
  refine Nat.pos_iff_ne_zero.1 (List.length_pos_iff_exists_mem.2 ⟨some r, List.mem_filter.2 ⟨?_, ?_⟩⟩)
  · exact (PerPos.mem_toList _ _).2 ⟨p, hr⟩
  · simp [hi]

/-- A record of the store that is replaced by one in a state that those who name it may name. -/
theorem State.storeLaw_setRecord {s : State} (h : s.storeLaw) {k : Fin 12} {c : RecipeCell}
    (hact : ∀ l : Fin 8, s.store.slots[l].active = some k → c.isActive = true)
    (hstg : ∀ l : Fin 8, s.store.slots[l].staged = some k → c.isStaged = true)
    (hbnd : ∀ p, (recipesOf s.table).get p = some k → c.isActive = true ∨ c.isRetiring = true) :
    State.storeLaw { s with store := s.store.setRecord k c } := by
  obtain ⟨⟨ha, hst, hai, hsi⟩, hbound⟩ := s.storeLaw_iff.1 h
  refine (State.storeLaw_iff _).2 ⟨⟨fun l j hj => ?_, fun l j hj => ?_, hai, hsi⟩, fun p j hj => ?_⟩
  · rw [Store.records_setRecord]
    split
    next e => exact hact l (e ▸ hj)
    · exact ha l j hj
  · rw [Store.records_setRecord]
    split
    next e => exact hstg l (e ▸ hj)
    · exact hst l j hj
  · unfold Store.Stands
    rw [Store.records_setRecord]
    split
    next e => exact hbnd p (e ▸ hj)
    · exact hbound p j hj

/-- A slot that takes references to records that no other slot names, each in its state. -/
theorem State.storeLaw_setSlot {s : State} (h : s.storeLaw) {k : Fin 8} {r : RecipeSlot}
    (hact : ∀ i : Fin 12, r.active = some i →
      s.store.records[i].isActive = true ∧ ∀ l : Fin 8, s.store.slots[l].active = some i → l = k)
    (hstg : ∀ i : Fin 12, r.staged = some i →
      s.store.records[i].isStaged = true ∧ ∀ l : Fin 8, s.store.slots[l].staged = some i → l = k) :
    State.storeLaw { s with store := s.store.setSlot k r } := by
  obtain ⟨⟨ha, hst, hai, hsi⟩, hbound⟩ := s.storeLaw_iff.1 h
  refine (State.storeLaw_iff _).2
    ⟨⟨fun l j hj => ?_, fun l j hj => ?_, fun l m j hl hm => ?_, fun l m j hl hm => ?_⟩, hbound⟩
  · rw [Store.slots_setSlot] at hj
    split at hj
    · exact (hact j hj).1
    · exact ha l j hj
  · rw [Store.slots_setSlot] at hj
    split at hj
    · exact (hstg j hj).1
    · exact hst l j hj
  · rw [Store.slots_setSlot] at hl hm
    grind
  · rw [Store.slots_setSlot] at hl hm
    grind

section
variable (s : State)

theorem State.keepsStore_handBack (o : Option (Fin 12)) : s.KeepsStore (s.handBack o) := by
  unfold State.handBack
  split
  · exact .refl s
  next k =>
    split
    next hk =>
      intro h
      obtain ⟨⟨ha, hst, -, -⟩, -⟩ := s.storeLaw_iff.1 h
      refine State.storeLaw_setRecord h (fun l hl => ?_) (fun l hl => ?_) fun p hp => ?_
      · exact absurd hk.1 (by rw [(RecipeCell.excl_of_active (ha l k hl)).2.1]; decide)
      · exact absurd hk.1 (by rw [(RecipeCell.excl_of_staged (hst l k hl)).2.1]; decide)
      · exact absurd hk.2 (State.refCount_ne_zero hp)
    · exact .refl s

/-! ## The store's own commands (R56 to R58) -/

/-- A FREE record is named by no slot and no board. -/
theorem State.unnamed_of_free {s : State} (h : s.storeLaw) {i : Fin 12} (hi : s.store.records[i] = .free) :
    (∀ k : Fin 8, s.store.slots[k].active ≠ some i) ∧ (∀ k : Fin 8, s.store.slots[k].staged ≠ some i) ∧
      ∀ p, (recipesOf s.table).get p ≠ some i := by
  obtain ⟨⟨ha, hst, -, -⟩, hbound⟩ := s.storeLaw_iff.1 h
  refine ⟨fun k hk => ?_, fun k hk => ?_, fun p hp => ?_⟩
  · simpa only [hi, RecipeCell.isActive, Bool.false_eq_true] using ha k i hk
  · simpa only [hi, RecipeCell.isStaged, Bool.false_eq_true] using hst k i hk
  · simpa only [Store.Stands, hi, RecipeCell.isActive, RecipeCell.isRetiring, Bool.false_eq_true, or_self] using hbound p i hp

/-- A STAGED record is named by no slot as its active one, and by no board. -/
theorem State.unnamed_of_staged {s : State} (h : s.storeLaw) {i : Fin 12} (hi : s.store.records[i].isStaged = true) :
    (∀ k : Fin 8, s.store.slots[k].active ≠ some i) ∧ ∀ p, (recipesOf s.table).get p ≠ some i := by
  obtain ⟨⟨ha, -, -, -⟩, hbound⟩ := s.storeLaw_iff.1 h
  obtain ⟨hna, hnr, -⟩ := RecipeCell.excl_of_staged hi
  refine ⟨fun k hk => ?_, fun p hp => ?_⟩
  · simpa only [hna, Bool.false_eq_true] using ha k i hk
  · simpa only [Store.Stands, hna, hnr, Bool.false_eq_true, or_self] using hbound p i hp

/-- The steps of R56 in their order: the FREE record is filled, it is staged, and the record staged before is FREE. -/
theorem State.storeLaw_stage {s : State} (h : s.storeLaw) {i : Fin 12} (hi : s.store.records[i] = .free) (k : Fin 8)
    (rc : Recipe) : State.storeLaw { s with store := s.store.stage k i rc } := by
  obtain ⟨hact, hstg, hbnd⟩ := State.unnamed_of_free h hi
  obtain ⟨⟨-, hst, -, hsi⟩, -⟩ := s.storeLaw_iff.1 h
  have fill {u : State} (hu : u.storeLaw) (hs : u.store.slots = s.store.slots) (ht : u.table = s.table) (c : RecipeCell) :
      State.storeLaw { u with store := u.store.setRecord i c } :=
    State.storeLaw_setRecord hu (fun l hl => absurd hl (by rw [hs]; exact hact l))
      (fun l hl => absurd hl (by rw [hs]; exact hstg l)) fun p hp => absurd hp (by rw [ht]; exact hbnd p)
  have hfilled := fill (fill h rfl rfl (.assembled rc)) rfl rfl (.staged rc)
  have hslots := ((State.storeLaw_iff _).1 hfilled).1
  have hstaged := State.storeLaw_setSlot hfilled (k := k) (r := { s.store.slots[k] with staged := some i })
    (fun j hj => ⟨hslots.active k j hj, fun l hl => hslots.active_inj l k j hl hj⟩)
    (fun j hj => by
      cases hj
      exact ⟨by rw [Store.records_setRecord, if_pos rfl]; rfl, fun l hl => absurd hl (hstg l)⟩)
  unfold Store.stage
  cases hold : s.store.slots[k].staged with
  | none => exact hstaged
  | some old =>
    obtain ⟨hna, hnb⟩ := State.unnamed_of_staged h (hst k old hold)
    refine State.storeLaw_setRecord hstaged (fun l hl => ?_) (fun l hl => ?_) fun p hp => absurd hp (hnb p)
    · rw [Store.slots_setSlot] at hl
      split at hl
      · exact absurd hl (hna k)
      · exact absurd hl (hna l)
    · rw [Store.slots_setSlot] at hl
      split at hl
      · cases hl; exact absurd hold (hstg k)
      next hne => exact absurd (hsi l k old hl hold) hne

/-- The record at which a slot's active reference no longer points: RETIRING while a board names it, and otherwise FREE. -/
theorem State.storeLaw_retire {s : State} (h : s.storeLaw) {old : Fin 12} (hold : s.store.records[old].isActive = true)
    (hact : ∀ l : Fin 8, s.store.slots[l].active ≠ some old) :
    State.storeLaw { s with store := s.store.setRecord old (retired s.store.records[old] (s.refCount old)) } := by
  have hstg := (s.storeLaw_iff.1 h).1.staged
  refine State.storeLaw_setRecord h (fun l hl => absurd hl (hact l)) (fun l hl => ?_) fun p hp => .inr ?_
  · exact absurd (hstg l old hl) (by rw [(RecipeCell.excl_of_active hold).1]; decide)
  · have hrefs : 0 < s.refCount old := Nat.pos_of_ne_zero (State.refCount_ne_zero hp)
    revert hold
    cases s.store.records[old] <;> simp [RecipeCell.isActive, retired, RecipeCell.recipe, hrefs, RecipeCell.isRetiring]

theorem Store.setSlot_around (st : Store) (k : Fin 8) (i : Fin 12) (c : RecipeCell) (r q : RecipeSlot) :
    ((st.setSlot k r).setRecord i c).setSlot k q = (st.setRecord i c).setSlot k q := by
  simp [Store.setSlot, Store.setRecord]

/-- The staged record made the active one, its slot's references having been taken away before (R57). -/
theorem State.storeLaw_activate {s : State} (h : s.storeLaw) {k : Fin 8} {i : Fin 12} (hi : s.store.slots[k].staged = some i) :
    State.storeLaw { s with
      store := (s.store.setRecord i (activated s.store.records[i])).setSlot k { active := some i, staged := none } } := by
  obtain ⟨⟨-, hst, -, hsi⟩, -⟩ := s.storeLaw_iff.1 h
  have hstaged := hst k i hi
  obtain ⟨hna, hnb⟩ := State.unnamed_of_staged h hstaged
  have hactive : (activated s.store.records[i]).isActive = true := by
    revert hstaged
    cases s.store.records[i] <;> simp [RecipeCell.isStaged, activated, RecipeCell.recipe, RecipeCell.isActive]
  have hempty := State.storeLaw_setSlot h (k := k) (r := { active := none, staged := none }) (by simp) (by simp)
  have hfilled := State.storeLaw_setRecord hempty (k := i) (c := activated s.store.records[i]) (fun _ _ => hactive)
    (fun l hl => by
      rw [Store.slots_setSlot] at hl
      split at hl
      · cases hl
      next hne => exact absurd (hsi l k i hl hi) hne)
    (fun _ _ => .inl hactive)
  have hset := State.storeLaw_setSlot hfilled (k := k) (r := { active := some i, staged := none })
    (fun j hj => by
      cases hj
      refine ⟨by rw [Store.records_setRecord, if_pos rfl]; exact hactive, fun l hl => ?_⟩
      by_contra hne
      rw [Store.slots_setRecord, Store.slots_setSlot, if_neg hne] at hl
      exact hna l hl)
    (by simp)
  rwa [Store.setSlot_around] at hset

end

section
variable (s : State)

theorem State.keepsStore_recipeAnswer (dst slot : Byte) (code : RecipeCode) (more : List Byte) :
    s.KeepsStore (s.recipeAnswer dst slot code more) := .of_fields (by simp) (by simp)

theorem State.keepsStore_takeActivate (t : Telegram) : s.KeepsStore (s.takeActivate t) := by
  unfold State.takeActivate
  split
  · exact .refl s
  dsimp only
  split
  · exact s.keepsStore_recipeAnswer _ _ _ _
  next k _ =>
    split
    · exact s.keepsStore_recipeAnswer _ _ _ _
    next i hi =>
      intro h
      have hactivated := State.storeLaw_activate h hi
      split
      · exact State.keepsStore_recipeAnswer _ _ _ _ _ hactivated
      next old hold =>
        refine State.keepsStore_recipeAnswer _ _ _ _ _ ?_
        obtain ⟨⟨ha, hst, hai, -⟩, -⟩ := s.storeLaw_iff.1 h
        have hne : old ≠ i := by
          rintro rfl
          exact (State.unnamed_of_staged h (hst k old hi)).1 k hold
        have hrec : ((s.store.setRecord i (activated s.store.records[i])).setSlot k
            { active := some i, staged := none }).records[old] = s.store.records[old] := by
          rw [Store.records_setSlot, Store.records_setRecord, if_neg hne]
        refine (congrArg (fun c => State.storeLaw { s with store := Store.setRecord _ old (retired c (s.refCount old)) }) hrec).mp
          (State.storeLaw_retire hactivated (by rw [hrec]; exact ha k old hold) fun l hl => ?_)
        rw [Store.slots_setSlot] at hl
        split at hl
        · cases hl; exact hne rfl
        next hlk => exact hlk (hai l k old hl hold)

theorem State.keepsStore_takeDrop (t : Telegram) : s.KeepsStore (s.takeDrop t) := by
  unfold State.takeDrop
  split
  · exact .refl s
  dsimp only
  split
  · exact s.keepsStore_recipeAnswer _ _ _ _
  next k _ =>
    split
    · exact s.keepsStore_recipeAnswer _ _ _ _
    next old hold =>
      intro h
      obtain ⟨⟨ha, hst, hai, hsi⟩, -⟩ := s.storeLaw_iff.1 h
      have hempty := State.storeLaw_setSlot h (k := k) (r := { s.store.slots[k] with active := none }) (by simp)
        fun i hi => ⟨hst k i hi, fun l hl => hsi l k i hl hi⟩
      refine State.keepsStore_recipeAnswer _ _ _ _ _ (State.storeLaw_retire hempty (ha k old hold) fun l hl => ?_)
      rw [Store.slots_setSlot] at hl
      split at hl
      · cases hl
      next hlk => exact hlk (hai l k old hl hold)

theorem State.keepsStore_commit (dst : Byte) (k : Fin 8) (im : List Byte) : s.KeepsStore (s.commit dst k im) := by
  unfold State.commit
  dsimp only
  split
  · exact s.keepsStore_recipeAnswer _ _ _ _
  split
  · exact s.keepsStore_recipeAnswer _ _ _ _
  split
  · exact s.keepsStore_recipeAnswer _ _ _ _
  next i hi => exact fun h => State.keepsStore_recipeAnswer _ _ _ _ _ (State.storeLaw_stage h (Store.free_of_lowestFree hi) k _)

theorem State.keepsStore_setAssembler (a : Assembler) : s.KeepsStore (s.setAssembler a) :=
  .of_fewer rfl rfl fun p _ h => ⟨p, h⟩

theorem State.keepsStore_breakAssembly : s.KeepsStore s.breakAssembly := .of_fewer rfl rfl fun p _ h => ⟨p, h⟩

theorem State.keepsStore_takeData (dst : Byte) (k : Fin 8) (n : Nat) (last : Bool) (data : List Byte) :
    s.KeepsStore (s.takeData dst k n last data) := by
  unfold State.takeData
  split
  · exact (s.keepsStore_setAssembler _).trans (State.keepsStore_commit _ _ _ _)
  split
  · exact s.keepsStore_breakAssembly.trans (State.keepsStore_recipeAnswer _ _ _ _ _)
  · exact s.keepsStore_setAssembler _

theorem State.keepsStore_takeFragment (dst : Byte) (k : Fin 8) (n : Nat) (last : Bool) (data : List Byte) :
    s.KeepsStore (s.takeFragment dst k n last data) := by
  unfold State.takeFragment
  split
  · split
    · exact s.keepsStore_breakAssembly.trans (State.keepsStore_takeData _ _ _ _ _ _)
    · exact s.keepsStore_takeData _ _ _ _ _
  split
  · exact s.keepsStore_recipeAnswer _ _ _ _
  split
  · exact s.keepsStore_recipeAnswer _ _ _ _
  split
  · exact s.keepsStore_takeData _ _ _ _ _
  · exact s.keepsStore_breakAssembly.trans (State.keepsStore_recipeAnswer _ _ _ _ _)

theorem State.keepsStore_takeRecipePart (t : Telegram) : s.KeepsStore (s.takeRecipePart t) := by
  unfold State.takeRecipePart
  dsimp only
  split
  · exact .of_fields (by simp) (by simp)
  split
  · exact s.keepsStore_recipeAnswer _ _ _ _
  · exact s.keepsStore_takeFragment _ _ _ _ _

/-! ## Boards bound, moved and taken away (R3, R13, R61) -/

/-- A board is bound to a record that a slot names as active (R60, R61). -/
theorem State.bindRecord_recipe {r : Record} {i : Fin 12} (h : (s.bindRecord r).recipe = some i) :
    r.recipe = some i ∨ ∃ k : Fin 8, s.store.slots[k].active = some i := by
  unfold State.bindRecord at h
  split at h
  · exact .inl h
  cases hm : s.store.matching r.trav.variant r.trav.sideUp with
  | none => simp [hm, Record.bind] at h
  | some x =>
    rw [hm] at h
    cases h
    obtain ⟨k, -, hk⟩ := List.exists_of_findSome?_eq_some ((s.store.matching_eq _ _).symm.trans hm)
    exact .inr ⟨k, (Store.offered_eq_some.1 (show s.store.offered _ _ k = some (x.1, x.2) from hk)).1⟩

theorem State.keepsStore_tryToTransport : s.KeepsStore s.tryToTransport := by
  unfold State.tryToTransport
  split
  · intro h
    obtain ⟨hslots, hbound⟩ := s.storeLaw_iff.1 h
    refine (State.storeLaw_iff _).2 ⟨hslots, fun p i hp => ?_⟩
    obtain ⟨q, hq, hqi⟩ := get_recipesOf_eq_some.1 hp
    rw [show ({ s.table with entry := s.table.entry.map s.bindRecord } : Table) =
      s.table.put .entry (s.table.entry.map s.bindRecord) from rfl, PerPos.get_put] at hq
    split at hq
    · obtain ⟨r, hr, rfl⟩ := Option.map_eq_some_iff.1 hq
      rcases s.bindRecord_recipe hqi with hri | ⟨k, hk⟩
      · exact hbound .entry i (get_recipesOf_eq_some.2 ⟨r, hr, hri⟩)
      · exact .inl (hslots.active k i hk)
    · exact hbound p i (get_recipesOf_eq_some.2 ⟨q, hq, hqi⟩)
  · exact .refl s

theorem State.keepsStore_starts : s.KeepsStore s.starts := by
  have h1 : s.KeepsStore s.tryDiversion.tryIndex.tryPass.tryToGate.tryToSpray := .of_same (by simp) (by simp)
  exact h1.trans ((State.keepsStore_tryToTransport _).trans (.of_fields (by simp [State.starts]) (by simp [State.starts])))

theorem State.keepsStore_settle : s.KeepsStore s.settle :=
  State.KeepsStore.trans (.of_fields (by simp) (by simp)) (State.keepsStore_starts _)

end

end Sys2Proof.Machine

end

section

namespace Sys2Proof.Machine

section
variable (s : State)

/-! ## Boards that leave the table and that come to it (R2, R3, R40) -/

theorem State.keepsStore_leave (p : Position) : s.KeepsStore (s.leave p) := by
  unfold State.leave
  split
  · exact .refl s
  next r _ =>
    have hback : s.KeepsStore ({ s with table := s.table.put p none }.handBack r.recipe) :=
      State.KeepsStore.trans (t := { s with table := s.table.put p none }) (.of_put rfl rfl rfl) (State.keepsStore_handBack _ _)
    dsimp only
    refine hback.trans (.of_fields ?_ ?_)
    all_goals split <;> split <;> simp

theorem State.keepsStore_post (dst kind : Byte) (payload : List Byte) : s.KeepsStore (s.post dst kind payload) :=
  .of_fields (by simp) (by simp)

theorem State.keepsStore_notice (code : Byte) (body : List Byte) : s.KeepsStore (s.notice code body) :=
  .of_fields (by simp) (by simp)

theorem State.keepsStore_report (src : Source) (margin : Int) : s.KeepsStore (s.report src margin) :=
  .of_fields (by simp) (by simp)

theorem State.keepsStore_removeLifted (p : Position) : s.KeepsStore (s.removeLifted p) := by
  unfold State.removeLifted
  split
  · exact .refl s
  · dsimp only
    refine (s.keepsStore_leave p).trans (State.KeepsStore.trans ?_ (State.keepsStore_notice _ _ _))
    split
    · exact .of_fields (by simp) (by simp)
    · exact .refl _

theorem State.keepsStore_departClean : s.KeepsStore s.departClean :=
  (s.keepsStore_leave .exit).trans (State.keepsStore_report _ _ _)

theorem State.keepsStore_dropUnconfirmed (r : Record) (n : Option Byte) : s.KeepsStore (s.dropUnconfirmed r n) :=
  (s.keepsStore_notice _ _).trans (State.keepsStore_departClean _)

theorem State.keepsStore_makeStranded (p : Position) : s.KeepsStore (s.makeStranded p) := by
  refine .of_put (p := p)
    (o := some (if p = .exit then { Record.strandedRecord with diversion := some .waitingRack } else Record.strandedRecord))
    (by simp) ?_ ?_
  · unfold State.makeStranded
    dsimp only
    split <;> rfl
  · split <;> rfl

theorem State.keepsStore_scan : s.KeepsStore s.scan := by
  have hfold (l : List Position) (u : State) :
      u.KeepsStore (l.foldl (fun t p => if t.occupied p then t.makeStranded p else t) u) := by
    induction l generalizing u with
    | nil => exact .refl u
    | cons p l ih =>
      rw [List.foldl_cons]
      refine State.KeepsStore.trans ?_ (ih _)
      split
      · exact u.keepsStore_makeStranded p
      · exact .refl u
  have htable : s.KeepsStore { s with cell := .clearOut }.scanTable :=
    State.KeepsStore.trans (t := { s with cell := .clearOut }) (.of_fields rfl rfl) (hfold _ _)
  exact htable.trans (State.KeepsStore.after (State.keepsStore_settle _) (by simp) (by simp))

theorem State.checked_recipe (others : List ArrivalEntry) (r : Record) : (s.checked others r).recipe = r.recipe := by
  obtain ⟨_, _, _, h⟩ := s.checked_eq others r
  rw [h]

theorem State.keepsStore_completeMatch (e : ArrivalEntry) (others : List ArrivalEntry) (mismatch : Option Serial) :
    s.KeepsStore (s.completeMatch e others mismatch) :=
  .of_put (p := .entry) (by simp) rfl ((s.checked_recipe others _).trans (by cases mismatch <;> rfl))

theorem State.keepsStore_matchEntry (o : ReadOutcome) : s.KeepsStore (s.matchEntry o) := by
  unfold State.matchEntry
  split
  · exact .refl s
  · exact s.keepsStore_completeMatch _ _ _
  · split
    · exact s.keepsStore_completeMatch _ _ _
    split
    · split
      · exact State.KeepsStore.after (State.keepsStore_completeMatch _ _ _ _) (by simp) (by simp)
      · exact s.keepsStore_completeMatch _ _ _
    · exact s.keepsStore_completeMatch _ _ _

theorem State.keepsStore_endEntryRead (o : ReadOutcome) : s.KeepsStore (s.endEntryRead o) := by
  unfold State.endEntryRead
  split
  · exact .of_fields rfl rfl
  · exact s.keepsStore_matchEntry o

theorem State.keepsStore_orphanRecord (o : ReadOutcome) : s.KeepsStore (s.orphanRecord o) :=
  .of_put (p := .entry) (by simp) rfl ((s.checked_recipe _ _).trans (Record.addReasonIf_recipe _ _ _))

theorem State.keepsStore_orphanExpiry : s.KeepsStore s.orphanExpiry := by
  unfold State.orphanExpiry
  split
  · split
    · exact .refl s
    · exact (s.keepsStore_orphanRecord _).trans (State.keepsStore_starts _)
  · exact .refl s

theorem State.keepsStore_takeOffer (t : Telegram) : s.KeepsStore (s.takeOffer t) := by
  unfold State.takeOffer
  split
  · exact .refl s
  split
  · exact .of_fields (by simp) (by simp)
  dsimp only
  have hanswered : s.KeepsStore ((if !s.isRepeat t.src (byteAt t.payload 0) (offerTraveller t.payload).serial
      then s.appendArrival t else s).post t.src kindAccept
      (answerPayload (byteAt t.payload 0) (offerTraveller t.payload).serial)) := by
    split <;> exact .of_fields (by simp) (by simp)
  split
  · exact hanswered.trans (State.keepsStore_matchEntry _ _)
  · exact hanswered

/-! ## Diversions (R168 to R171, R179, R180) -/

theorem State.keepsStore_diversionTest : s.KeepsStore s.diversionTest := by
  unfold State.diversionTest
  split
  · split
    · exact (s.keepsStore_leave .exit).trans (.of_fields (by simp [State.completeDiversion]) (by simp [State.completeDiversion]))
    · exact .refl s
  · exact .refl s

theorem State.keepsStore_rackEdge (t : Fin 8) (b : Bool) : s.KeepsStore (s.rackEdge t b) := by
  unfold State.rackEdge
  split
  · exact s.keepsStore_diversionTest
  split
  · exact .of_fields (by simp) (by simp)
  · exact .of_fields (by simp) (by simp)
  · exact .refl s
  · exact .refl s

theorem State.keepsStore_rackChange (r : Fin 8) (b : Bool) : s.KeepsStore (s.rackChange r b) := by
  have hlevel : s.KeepsStore (s.setRackLevel r b) := .of_fields (by simp) (by simp)
  unfold State.rackChange
  dsimp only
  split
  · split
    · exact hlevel.trans ((State.keepsStore_rackEdge _ _ _).trans (State.keepsStore_settle _))
    · exact hlevel
  · exact .refl s

/-! ## Moves and edges (R13 to R16, R32, R33) -/

/-- A move carries the board at its from-position, whatever it is bound to. -/
theorem State.keepsStore_carryOver (m : ConvMove) : s.KeepsStore (s.carryOver m) := by
  refine .of_fewer rfl rfl fun p i h => ?_
  rw [State.carryOver, recipesOf_put, recipesOf_put, PerPos.get_put, PerPos.get_put] at h
  split at h
  · cases h
  split at h
  · exact ⟨moveSource m, by rw [get_recipesOf]; exact h⟩
  · exact ⟨p, h⟩

theorem State.keepsStore_completeMove (m : ConvMove) : s.KeepsStore (s.completeMove m) := by
  cases m with
  | toTransport => exact s.keepsStore_carryOver _
  | toSpray =>
    exact (s.keepsStore_carryOver .toSpray).trans (.of_same (by simp [State.completeMove]) (by simp [State.completeMove]))
  | toGate =>
    unfold State.completeMove
    dsimp only
    refine State.KeepsStore.trans ?_ (State.keepsStore_carryOver _ _)
    split
    · exact .of_same (by simp) (by simp)
    · exact .refl s

theorem State.keepsStore_strayOccupied (p : Position) : s.KeepsStore (s.strayOccupied p) := by
  unfold State.strayOccupied
  split
  · split
    · split
      · exact .of_fields rfl rfl
      · exact .refl s
    · exact s.keepsStore_makeStranded p
  · exact .refl s

theorem State.keepsStore_moveTest (m : ConvMove) : s.KeepsStore (s.moveTest m) := by
  unfold State.moveTest
  dsimp only
  split
  · split
    · exact (s.keepsStore_completeMove m).trans (State.keepsStore_strayOccupied _ _)
    · exact s.keepsStore_completeMove m
  · exact .refl s

theorem State.keepsStore_moveTests (p : Position) : s.KeepsStore (s.moveTests p) := by
  unfold State.moveTests
  split
  · exact s.keepsStore_moveTest _
  · exact (s.keepsStore_moveTest _).trans (State.keepsStore_moveTest _ _)
  · exact (s.keepsStore_moveTest _).trans (State.keepsStore_moveTest _ _)
  · exact s.keepsStore_moveTest _
  all_goals exact .refl s

theorem State.keepsStore_takeReceived (t : Telegram) : s.KeepsStore (s.takeReceived t) := by
  unfold State.takeReceived
  split
  · split
    · split
      · exact s.keepsStore_departClean
      · exact .of_same (by simp) (by simp)
    · exact .refl s
  · exact .refl s

theorem State.keepsStore_exitEdge (r : Record) (b : Bool) : s.KeepsStore (s.exitEdge r b) := by
  unfold State.exitEdge
  split
  · exact s.keepsStore_diversionTest
  · exact .refl s
  · exact .of_same (by simp) (s.recipesOf_setHandoff _)
  · exact .refl s
  · unfold State.exitCleared
    split
    · exact s.keepsStore_departClean
    · exact .of_same (by simp) (by simp)
  · exact .refl s
  · exact s.keepsStore_removeLifted _

theorem State.keepsStore_occupiedEdge (p : Position) : s.KeepsStore (s.occupiedEdge p) := by
  unfold State.occupiedEdge
  split
  · exact s.keepsStore_moveTests p
  split
  · exact .refl s
  split
  · exact s.keepsStore_exitEdge _ _
  · exact s.keepsStore_strayOccupied _

theorem State.keepsStore_lifted (p : Position) : s.KeepsStore (s.lifted p) := by
  unfold State.lifted
  split
  · split
    · exact .of_fields rfl rfl
    · exact .refl s
  · exact s.keepsStore_removeLifted p

theorem State.keepsStore_emptyEdge (p : Position) : s.KeepsStore (s.emptyEdge p) := by
  have hstop : s.KeepsStore (s.raiseStop p) := .of_fields (by simp) (by simp)
  unfold State.emptyEdge
  dsimp only
  split
  · exact hstop.trans (State.keepsStore_moveTests _ _)
  split
  · exact hstop
  split
  · exact hstop.trans (State.keepsStore_exitEdge _ _ _)
  · exact hstop.trans (State.keepsStore_lifted _ _)

theorem State.keepsStore_transferExpiry : s.KeepsStore s.transferExpiry := by
  unfold State.transferExpiry
  split
  · exact .refl s
  split
  · split
    · exact .refl s
    · exact (s.keepsStore_dropUnconfirmed _ _).trans (State.keepsStore_settle _)
  · exact .refl s

/-! ## The end of an index (R138) -/

/-- An index carries each board one place on, whatever it is bound to. -/
theorem State.keepsStore_shiftTunnel : s.KeepsStore s.shiftTunnel := by
  have stood {q : Position} {i : Fin 12} (h : (s.table.get q).bind (·.recipe) = some i) :
      ∃ q, (recipesOf s.table).get q = some i := ⟨q, by rw [get_recipesOf]; exact h⟩
  refine .of_fewer rfl rfl fun p i h => ?_
  rw [get_recipesOf] at h
  cases p with
  | entry => exact stood (q := .entry) h
  | transport => exact stood (q := .transport) h
  | spray => exact stood (q := .spray) h
  | gate =>
    simp only [State.shiftTunnel, PerPos.get] at h
    split at h
    · cases h
    · exact stood (q := .gate) h
  | tunnel0 =>
    simp only [State.shiftTunnel, PerPos.get] at h
    split at h
    · exact stood (q := .gate) h
    · cases h
  | tunnel1 => exact stood (q := .tunnel0) h
  | tunnel2 => exact stood (q := .tunnel1) h
  | tunnel3 => exact stood (q := .tunnel2) h
  | tunnel4 => exact stood (q := .tunnel3) h
  | tunnel5 => exact stood (q := .tunnel4) h
  | exit =>
    simp only [State.shiftTunnel, PerPos.get] at h
    split at h
    next r hr => exact stood (q := .tunnel5) (by rw [show s.table.get .tunnel5 = some r from hr]; exact h)
    · exact stood (q := .exit) h

theorem State.keepsStore_comparePosition (p : Position) : s.KeepsStore (s.comparePosition p) := by
  unfold State.comparePosition
  split
  · split
    · exact s.keepsStore_makeStranded p
    · exact .refl s
  split
  · exact s.keepsStore_removeLifted p
  · exact .refl s

theorem State.keepsStore_compareCovered : s.KeepsStore s.compareCovered := by
  unfold State.compareCovered
  generalize coveredPositions s.tunnel.carriesGate = l
  induction l generalizing s with
  | nil => exact .refl s
  | cons p l ih => exact (s.keepsStore_comparePosition p).trans (ih _)

theorem State.keepsStore_endIndex : s.KeepsStore s.endIndex := by
  have hshift : s.KeepsStore s.shiftTunnel.compareCovered.reloadDwell :=
    s.keepsStore_shiftTunnel.trans ((State.keepsStore_compareCovered _).trans (.of_fields (by simp) (by simp)))
  unfold State.endIndex
  dsimp only
  split
  · exact hshift.trans (.of_same (by simp) (by simp))
  · exact hshift

/-! ## The supply view and the link -/

theorem State.keepsStore_afterView : s.KeepsStore s.afterView :=
  State.KeepsStore.after (State.keepsStore_starts _) (by simp) (by simp)

theorem State.keepsStore_takeSupplyClaim (b : Byte) (p : List Byte) : s.KeepsStore (s.takeSupplyClaim b p) := by
  unfold State.takeSupplyClaim
  split
  · exact State.KeepsStore.after (State.keepsStore_afterView _) rfl rfl
  · exact .refl s

theorem State.keepsStore_takeSupplyDone (b : Byte) (p : List Byte) : s.KeepsStore (s.takeSupplyDone b p) := by
  unfold State.takeSupplyDone
  split
  · exact State.KeepsStore.after (State.keepsStore_afterView _) rfl rfl
  · exact .refl s

theorem State.keepsStore_viewAged (v : List ClaimEntry) : s.KeepsStore (s.viewAged v) := by
  unfold State.viewAged
  dsimp only
  refine State.KeepsStore.trans ?_ (State.keepsStore_afterView _)
  split
  · exact .of_fields (by simp) (by simp)
  · exact .of_fields rfl rfl

theorem State.keepsStore_clash : s.KeepsStore s.clash := by
  unfold State.clash
  split
  · split
    · exact State.KeepsStore.after (State.keepsStore_starts _) rfl rfl
    · exact .of_fields rfl rfl
  · exact .refl s

theorem State.keepsStore_endSendOf (o : Option OutEntry) (b : Bool) : s.KeepsStore (s.endSendOf o b) := by
  have hreport (u : State) (e : OutEntry) : u.KeepsStore (u.sendReport e b) := by
    unfold State.sendReport
    split
    · exact .of_same (by simp) (by simp)
    split
    · exact .of_fields (by simp) (by simp)
    split
    · exact State.KeepsStore.after (State.keepsStore_starts _) (by simp) (by simp)
    split
    · exact State.KeepsStore.after (State.keepsStore_starts _) (by simp) (by simp)
    · exact .refl u
  unfold State.endSendOf
  split
  · exact State.KeepsStore.after (hreport _ _) rfl rfl
  · exact .refl s

theorem State.keepsStore_goodTelegram (e : HeardEvent) : s.KeepsStore (s.goodTelegram e) := by
  have hview (u : State) (t : Telegram) : u.KeepsStore (u.toView t) := by
    unfold State.toView State.when
    split
    · split
      · exact u.keepsStore_takeSupplyClaim _ _
      · exact u.keepsStore_takeSupplyDone _ _
    · exact .refl u
  have htake (u : State) (t : Telegram) : u.KeepsStore (u.takeGood t) := by
    unfold State.takeGood
    split
    · exact .refl u
    split
    · exact hview u t
    · exact .of_fields rfl rfl
  unfold State.goodTelegram
  split
  · exact .of_fields (by simp) (by simp)
  · split
    · exact .of_fields rfl rfl
    · exact .refl s
  · split
    · split
      · exact .of_fields rfl rfl
      · exact State.KeepsStore.trans (t := s.closeSlot) (.of_fields rfl rfl) (htake _ _)
    · exact .refl s

/-! ## Reset, load, and the end of the drive hold -/

theorem State.keepsStore_cold : s.KeepsStore s.cold := by
  intro _
  have hslot (k : Fin 8) : s.cold.store.slots[k] = { active := none, staged := none } := by
    simp [State.cold, State.reset, Store.reset]
  refine (State.storeLaw_iff _).2
    ⟨⟨fun k i h => ?_, fun k i h => ?_, fun k l i h => ?_, fun k l i h => ?_⟩, fun p i h => ?_⟩
  · rw [hslot] at h; cases h
  · rw [hslot] at h; cases h
  · rw [hslot] at h; cases h
  · rw [hslot] at h; cases h
  · cases p <;> cases h

theorem State.keepsStore_load (im : List Byte) : s.KeepsStore (s.load im) := by
  unfold State.load
  split <;> exact .of_fields rfl rfl

theorem State.keepsStore_endHold : s.KeepsStore s.endHold :=
  State.KeepsStore.trans (t := s.liftHold.resumeIndex.enterHeld.postDueOffer) (.of_same (by simp) (by simp))
    (State.keepsStore_starts _)

end

/-! ## The wrappers of the commands -/

section
variable {s : State}

theorem State.KeepsStore.of_when {c : Bool} {f : State → State} (h : s.KeepsStore (f s)) : s.KeepsStore (s.when c f) := by
  unfold State.when
  split
  · exact h
  · exact .refl s

theorem State.KeepsStore.of_live {f : State → State} (h : s.KeepsStore (f s)) : s.KeepsStore (s.live f) := by
  unfold State.live
  split
  · exact h
  · exact .refl s

theorem State.KeepsStore.of_hand {kind : Byte} {f : State → Telegram → State} (h : ∀ (u : State) t, u.KeepsStore (f u t)) :
    s.KeepsStore (s.hand kind f) := by
  unfold State.hand
  split
  · exact State.KeepsStore.after (h _ _) rfl rfl
  · exact .refl s

end

/-! ## The law after every step -/

/-- Every command keeps the law of the store. -/
theorem exec_keepsStore (c : Instr) (s : State) : ∃ t, exec c s = .next t ∧ s.KeepsStore t := by
  have live {f : State → State} (h : ∀ u : State, u.KeepsStore (f u)) : s.KeepsStore (s.live f) := .of_live (h s)
  have whenDo {b : Bool} {f : State → State} (h : ∀ u : State, u.KeepsStore (f u)) : s.KeepsStore (s.when b f) :=
    .of_when (h s)
  have hand {k : Byte} {f : State → Telegram → State} (h : ∀ (u : State) t, u.KeepsStore (f u t)) : s.KeepsStore (s.hand k f) :=
    .of_hand h
  have same {f : State → State} (hs : ∀ u, (f u).store = u.store) (ht : ∀ u, recipesOf (f u).table = recipesOf u.table)
      (u : State) : u.KeepsStore (f u) := .of_same (hs u) (ht u)
  cases c with
  | coldReset => exact ⟨_, rfl, s.keepsStore_cold⟩
  | configurationLoad im => exact ⟨_, rfl, whenDo fun u => u.keepsStore_load im⟩
  | clearOutScan ps rs => exact ⟨_, rfl, whenDo fun u => State.KeepsStore.after (State.keepsStore_scan _) (by simp) (by simp)⟩
  | occupiedEdge p =>
    refine ⟨_, rfl, whenDo fun u => ?_⟩
    dsimp only
    split
    · exact State.KeepsStore.after ((State.keepsStore_occupiedEdge _ p).trans (State.keepsStore_settle _)) (by simp) (by simp)
    · exact .of_fields (by simp) (by simp)
  | emptyEdge p =>
    refine ⟨_, rfl, whenDo fun u => ?_⟩
    dsimp only
    split
    · exact State.KeepsStore.after ((State.keepsStore_emptyEdge _ p).trans (State.keepsStore_settle _)) (by simp) (by simp)
    · exact .of_fields (by simp) (by simp)
  | moveStart m =>
    refine ⟨_, rfl, live fun u => ?_⟩
    cases m with
    | toTransport => exact u.keepsStore_tryToTransport
    | toSpray => exact .of_fields (by simp [State.tryMove]) (by simp [State.tryMove])
    | toGate => exact .of_fields (by simp [State.tryMove]) (by simp [State.tryMove])
  | idReadAnswer k a => exact ⟨_, rfl, whenDo fun u => (u.keepsStore_endEntryRead _).trans (State.keepsStore_starts _)⟩
  | entryReadTimeout => exact ⟨_, rfl, whenDo fun u => (u.keepsStore_endEntryRead _).trans (State.keepsStore_starts _)⟩
  | orphanWaitExpiry => exact ⟨_, rfl, live State.keepsStore_orphanExpiry⟩
  | offer => exact ⟨_, rfl, hand fun u t => (u.keepsStore_takeOffer t).trans (State.keepsStore_starts _)⟩
  | accept => exact ⟨_, rfl, hand fun u t => .of_same (by simp) (by simp)⟩
  | decline => exact ⟨_, rfl, hand fun u t => .of_same (by simp) (by simp)⟩
  | received => exact ⟨_, rfl, hand fun u t => (u.keepsStore_takeReceived t).trans (State.keepsStore_settle _)⟩
  | answerWaitExpiry => exact ⟨_, rfl, live (same (by simp) (by simp))⟩
  | reOfferWaitExpiry => exact ⟨_, rfl, live (same (by simp) (by simp))⟩
  | upstreamTransferTimeout => exact ⟨_, rfl, live State.keepsStore_transferExpiry⟩
  | downstreamTransferTimeout i => exact ⟨_, rfl, whenDo (same (by simp) (by simp))⟩
  | receivedRepost => exact ⟨_, rfl, live (same (by simp) (by simp))⟩
  | recipePart => exact ⟨_, rfl, hand State.keepsStore_takeRecipePart⟩
  | recipeActivate => exact ⟨_, rfl, hand State.keepsStore_takeActivate⟩
  | recipeDrop => exact ⟨_, rfl, hand State.keepsStore_takeDrop⟩
  | transportEncoderCount dir datum => exact ⟨_, rfl, whenDo (same (by simp) (by simp))⟩
  | claimRequest => exact ⟨_, rfl, live (same (by simp) (by simp))⟩
  | passStart => exact ⟨_, rfl, live (same (by simp) (by simp))⟩
  | sprayEncoderCount dir rising n =>
    refine ⟨_, rfl, live fun u => ?_⟩
    dsimp only
    split
    · exact .of_same (by simp) (by simp)
    · exact .of_fields rfl rfl
  | passStallTimeout => exact ⟨_, rfl, whenDo (same (by simp) (by simp))⟩
  | speedWindowEnd => exact ⟨_, rfl, live (same (fun _ => rfl) fun _ => rfl)⟩
  | purgeClaimRequest => exact ⟨_, rfl, live (same (by simp) (by simp))⟩
  | purgeTimerExpiry => exact ⟨_, rfl, whenDo fun u => State.KeepsStore.after (State.keepsStore_starts _) (by simp) (by simp)⟩
  | supplyClaim b p => exact ⟨_, rfl, whenDo fun u => u.keepsStore_takeSupplyClaim b p⟩
  | supplyDone b p => exact ⟨_, rfl, whenDo fun u => u.keepsStore_takeSupplyDone b p⟩
  | ownClaimReadback b => exact ⟨_, rfl, s.keepsStore_endSendOf _ b⟩
  | ownDoneReadback b => exact ⟨_, rfl, s.keepsStore_endSendOf _ b⟩
  | supplyTick => exact ⟨_, rfl, live fun u => u.keepsStore_viewAged _⟩
  | claimEntryExpiry b => exact ⟨_, rfl, live fun u => u.keepsStore_viewAged _⟩
  | claimGranted => exact ⟨_, rfl, live State.keepsStore_afterView⟩
  | learningTimeEnd => exact ⟨_, rfl, whenDo fun u => State.KeepsStore.after (State.keepsStore_afterView _) rfl rfl⟩
  | reClaimTimerExpiry => exact ⟨_, rfl, whenDo (same (fun _ => rfl) fun _ => rfl)⟩
  | cureTick => exact ⟨_, rfl, live (same (by simp) (by simp))⟩
  | potLifeExpiry => exact ⟨_, rfl, live (same (by simp) fun u => u.recipesOf_mapRecords fun p r => by simp)⟩
  | dwellExpiry => exact ⟨_, rfl, whenDo (same (by simp) (by simp))⟩
  | indexStart => exact ⟨_, rfl, live (same (by simp) (by simp))⟩
  | indexDone =>
    refine ⟨_, rfl, whenDo fun u => ?_⟩
    dsimp only
    split
    · exact State.KeepsStore.after ((State.keepsStore_endIndex _).trans (State.keepsStore_settle _)) rfl rfl
    · exact .of_fields rfl rfl
  | indexTimeout => exact ⟨_, rfl, whenDo (same (by simp) (by simp))⟩
  | probeReadDone z k a => exact ⟨_, rfl, whenDo (same (by simp) (by simp))⟩
  | probeReadTimeout => exact ⟨_, rfl, live (same (by simp) (by simp))⟩
  | diversionStart => exact ⟨_, rfl, live (same (by simp) (by simp))⟩
  | rackOccupiedEdge r => exact ⟨_, rfl, live fun u => u.keepsStore_rackChange r true⟩
  | rackEmptyEdge r => exact ⟨_, rfl, live fun u => u.keepsStore_rackChange r false⟩
  | release => exact ⟨_, rfl, hand fun u t => .of_fields (by simp) (by simp)⟩
  | lotHold =>
    exact ⟨_, rfl, hand fun u t =>
      State.KeepsStore.trans (t := u.takeLotHold t) (.of_same (by simp) (by simp)) (State.keepsStore_starts _)⟩
  | lotLift => exact ⟨_, rfl, hand fun u t => .of_fields (by simp) (by simp)⟩
  | watchClear => exact ⟨_, rfl, hand fun u t => .of_fields (by simp) (by simp)⟩
  | statusQuery => exact ⟨_, rfl, hand fun u t => .of_fields (by simp) (by simp)⟩
  | guardOpening => exact ⟨_, rfl, live (same (by simp) (by simp))⟩
  | guardClosing => exact ⟨_, rfl, live fun u => by dsimp only; split <;> exact .of_fields rfl rfl⟩
  | settleTimeExpiry => exact ⟨_, rfl, whenDo State.keepsStore_endHold⟩
  | guardFirstLevel b =>
    refine ⟨_, rfl, whenDo fun u => ?_⟩
    dsimp only
    split <;> exact .of_same (by simp) (by simp)
  | linkIdle => exact ⟨_, rfl, live (same (by simp) (by simp))⟩
  | sendStart n => exact ⟨_, rfl, live (same (by simp) (by simp))⟩
  | clash => exact ⟨_, rfl, live State.keepsStore_clash⟩
  | sendEnd b => exact ⟨_, rfl, s.keepsStore_endSendOf _ b⟩
  | telegramTaken e => exact ⟨_, rfl, live fun u => u.keepsStore_goodTelegram e⟩
  | faultyTelegram e => exact ⟨_, rfl, live (same (by simp) (by simp))⟩
  | telegramAbandoned => exact ⟨_, rfl, whenDo (same (fun _ => rfl) fun _ => rfl)⟩
  | heldTelegramEntered => exact ⟨_, rfl, live (same (fun _ => rfl) fun _ => rfl)⟩
  | cellSecondsTick => exact ⟨_, rfl, .of_fields rfl rfl⟩
  | maskChannelEdge k b => exact ⟨_, rfl, live (same (fun _ => rfl) fun _ => rfl)⟩
  | startBitHeard => exact ⟨_, rfl, live (same (by simp) (by simp))⟩

/-- Settles O60: every command keeps the law, and so does a millisecond. -/
theorem recipeReferencesStand : Obligations.RecipeReferencesStand := by
  intro s t hs h
  unfold step at h
  split at h
  · cases h
    exact State.KeepsStore.of_same (t := s.idleMs) (by simp) (by simp) hs
  next c rest _ =>
    obtain ⟨u, hu, hkeeps⟩ := exec_keepsStore c { s with pending := rest }
    cases hu.symm.trans h
    exact hkeeps hs

end Sys2Proof.Machine

end

section

namespace Sys2Proof.Machine

/-! ## The recipe telegrams handed to the store (R212) -/

section
variable {s : State} {g : Telegram} {rest : List Telegram} {kind : Byte}

/-- A head of a kind that the board tracker does not own waits for no held answer. -/
theorem State.hand_untracked (f : State → Telegram → State) (hl : s.loaded = true) (hg : s.link.inbound = g :: rest)
    (hk : g.kind = kind) (ht : trackerKind kind = false) : s.hand kind f = f { s with link := s.link.popInbound } g := by
  simp [State.hand, Link.headOf, hl, hg, hk, ht]

theorem State.exec_recipePart (hl : s.loaded = true) (hg : s.link.inbound = g :: rest) (hk : g.kind = kindRecipePart) :
    exec .recipePart s = .next (State.takeRecipePart { s with link := s.link.popInbound } g) :=
  congrArg Host.Outcome.next (State.hand_untracked State.takeRecipePart hl hg hk rfl)

theorem State.exec_recipeActivate (hl : s.loaded = true) (hg : s.link.inbound = g :: rest) (hk : g.kind = kindRecipeActivate) :
    exec .recipeActivate s = .next (State.takeActivate { s with link := s.link.popInbound } g) :=
  congrArg Host.Outcome.next (State.hand_untracked State.takeActivate hl hg hk rfl)

theorem State.exec_recipeDrop (hl : s.loaded = true) (hg : s.link.inbound = g :: rest) (hk : g.kind = kindRecipeDrop) :
    exec .recipeDrop s = .next (State.takeDrop { s with link := s.link.popInbound } g) :=
  congrArg Host.Outcome.next (State.hand_untracked State.takeDrop hl hg hk rfl)

end

/-! ## The slot a telegram names (R50, R57, R58) -/

theorem slotOf_eq_none {b : Byte} (h : 8 ≤ b.toNat) : slotOf b = none := dif_neg (by omega)

theorem slotOf_eq_some {b : Byte} {k : Fin 8} (h : b.toNat = k.val) : slotOf b = some k := by
  rw [slotOf, dif_pos (h ▸ k.isLt)]
  exact congrArg some (Fin.ext h)

/-- A slot is echoed as it was read. -/
theorem byteOf_of_toNat {b : Byte} {n : Nat} (h : b.toNat = n) : byteOf n = b := by
  rw [← h, byteOf, BitVec.ofNat_toNat, BitVec.setWidth_eq]

/-! ## The fragments (R50 to R52) -/

theorem partFits_iff (p : List Byte) : partFits p = true ↔ 2 ≤ p.length ∧ p.length ≤ 62 ∧ byteAt p 1 &&& 0x70 = 0 := by
  simp only [partFits, Bool.and_eq_true, decide_eq_true_eq, and_assoc]

section
variable (s : State) (t : Telegram)

/-- A payload that does not fit, but holds the slot byte, is answered MALFORMED with it. -/
theorem State.takeRecipePart_malformed (h : ¬ partFits t.payload = true) (hp : 1 ≤ t.payload.length) :
    s.takeRecipePart t = s.recipeAnswer t.src (byteAt t.payload 0) .malformed [] := by
  have hfree : withFree t.payload 1 s.free = t.payload := by
    rw [withFree, Nat.sub_eq_zero_of_le hp]
    exact List.append_nil _
  have hcount : s.free + (1 - t.payload.length) = s.free := by omega
  rw [State.takeRecipePart, if_pos (by simpa using h), hfree, hcount]

/-- An empty payload holds no slot byte: the byte echoed is a free value (log 15). -/
theorem State.takeRecipePart_empty (h : t.payload.length = 0) : s.takeRecipePart t =
    State.recipeAnswer { s with free := s.free + 1 } t.src (Config.freeByte s.free) .malformed [] := by
  have hnil := List.length_eq_zero_iff.1 h
  rw [State.takeRecipePart, hnil]
  exact if_pos (by decide)

theorem State.takeRecipePart_badSlot (h : partFits t.payload = true) (hb : 8 ≤ (byteAt t.payload 0).toNat) :
    s.takeRecipePart t = s.recipeAnswer t.src (byteAt t.payload 0) .badSlot [] := by
  rw [State.takeRecipePart, if_neg (by simp [h]), slotOf_eq_none hb]

theorem State.takeRecipePart_fragment (h : partFits t.payload = true) {k : Fin 8} (hk : (byteAt t.payload 0).toNat = k.val) :
    s.takeRecipePart t = s.takeFragment t.src k ((byteAt t.payload 1).toNat % 16) ((byteAt t.payload 1).getLsbD 7)
      (t.payload.drop 2) := by
  rw [State.takeRecipePart, if_neg (by simp [h]), slotOf_eq_some hk]

end

section
variable {s : State} {dst : Byte} {k j : Fin 8} {n m : Nat} {last : Bool} {data buf : List Byte}

theorem State.takeFragment_zero : s.takeFragment dst k 0 last data =
    (if s.assemblyOpen then s.breakAssembly else s).takeData dst k 0 last data := if_pos rfl

theorem State.takeFragment_idle (hn : n ≠ 0) (h : s.store.assembler = .idle) :
    s.takeFragment dst k n last data = s.recipeAnswer dst (byteOf k.val) .notAssembling [byteOf n, 0, 0] := by
  rw [State.takeFragment, if_neg hn, h]

theorem State.takeFragment_otherSlot (hn : n ≠ 0) (h : s.store.assembler = .assembling j m buf) (hj : j ≠ k) :
    s.takeFragment dst k n last data = s.recipeAnswer dst (byteOf k.val) .notAssembling [byteOf n, 1, byteOf j.val] := by
  rw [State.takeFragment, if_neg hn, h]
  exact if_pos hj

theorem State.takeFragment_outOfSequence (hn : n ≠ 0) (h : s.store.assembler = .assembling k m buf) (hm : n ≠ m) :
    s.takeFragment dst k n last data =
      s.breakAssembly.recipeAnswer dst (byteOf k.val) .assemblyBroken [byteOf n, byteOf m] := by
  rw [State.takeFragment, if_neg hn, h]
  exact (if_neg (by simp)).trans (if_neg hm)

theorem State.takeFragment_next (hn : n ≠ 0) (h : s.store.assembler = .assembling k n buf) :
    s.takeFragment dst k n last data = s.takeData dst k n last (buf ++ data) := by
  rw [State.takeFragment, if_neg hn, h]
  exact (if_neg (by simp)).trans (if_pos rfl)

theorem State.takeData_last : s.takeData dst k n true data = (s.setAssembler .idle).commit dst k data := rfl

theorem State.takeData_fifteen : s.takeData dst k 15 false data =
    s.breakAssembly.recipeAnswer dst (byteOf k.val) .assemblyBroken [15, 15] := rfl

theorem State.takeData_waits (hn : n ≠ 15) : s.takeData dst k n false data = s.setAssembler (.assembling k (n + 1) data) :=
  (if_neg (by simp)).trans (if_neg hn)

theorem State.assemblyOpen_idle (h : s.store.assembler = .idle) : s.assemblyOpen = false := by rw [State.assemblyOpen, h]

theorem State.assemblyOpen_assembling (h : s.store.assembler = .assembling j m buf) : s.assemblyOpen = true := by
  rw [State.assemblyOpen, h]

end

/-- Settles O20: the form and the slot of the telegram, then the fragment by its number and the assembler's state. -/
theorem recipePartAssembles : Obligations.RecipePartAssembles := by
  intro s g rest hl hg hkind p n last fits popped broken waits answer
  have hexec : exec .recipePart s = .next (popped.takeRecipePart g) := State.exec_recipePart hl hg hkind
  rw [hexec]
  refine ⟨fun h hp => ?_, fun hp => ⟨Config.freeByte s.free, ?_⟩, fun h hb => ?_, fun k h hk => ?_⟩
  · exact congrArg _ (popped.takeRecipePart_malformed g (fun hf => h ((partFits_iff _).1 hf)) hp)
  · exact congrArg _ (popped.takeRecipePart_empty g hp)
  · exact congrArg _ (popped.takeRecipePart_badSlot g ((partFits_iff _).2 h) hb)
  have hfragment : popped.takeRecipePart g = popped.takeFragment g.src k n last (p.drop 2) :=
    popped.takeRecipePart_fragment g ((partFits_iff _).2 h) hk
  have hecho : byteOf k.val = byteAt p 0 := byteOf_of_toNat hk
  have hanswer (u : State) (c : RecipeCode) (more : List Byte) :
      u.recipeAnswer g.src (byteOf k.val) c more = answer u (c.code :: more) := by rw [hecho]; rfl
  rw [hfragment]
  refine ⟨fun hn ha => ?_, fun j m buf hn ha hj => ?_, fun m buf hn ha hm => ?_,
    fun buf hn ha hlast => ⟨fun h15 => ?_, fun h15 => ?_⟩, fun hn hlast => ⟨fun ha => ?_, fun j m buf ha => ?_⟩⟩
  · rw [State.takeFragment_idle (s := popped) hn ha, hanswer]
    rfl
  · rw [State.takeFragment_otherSlot (s := popped) hn ha hj, hanswer]
    rfl
  · rw [State.takeFragment_outOfSequence (s := popped) hn ha hm, hanswer]
    rfl
  · rw [State.takeFragment_next (s := popped) hn ha, hlast, h15, State.takeData_fifteen, hanswer]
    rfl
  · rw [State.takeFragment_next (s := popped) hn ha, hlast, State.takeData_waits h15]
    rfl
  · rw [hn, hlast, State.takeFragment_zero, State.assemblyOpen_idle (s := popped) ha]
    rfl
  · rw [hn, hlast, State.takeFragment_zero, State.assemblyOpen_assembling (s := popped) ha]
    rfl

/-! ## Activation and drop (R57, R58) -/

theorem Store.crcOf_eq {st : Store} {i : Fin 12} {rc : Recipe} (h : st.records[i].recipe = some rc) :
    (st.crcOf i).getD 0 = rc.crc := by
  rw [Store.crcOf, h]
  rfl

/-- The cell that an active record's retirement leaves, and the code it is answered with. -/
theorem retired_active (rc : Recipe) (n : Nat) :
    retired (.active rc) n = (if 0 < n then .retiring rc else .free) ∧
      retiredCode (retired (.active rc) n) = if 0 < n then 1 else 0 := by
  have h : retired (.active rc) n = if 0 < n then .retiring rc else .free := rfl
  rw [h]
  refine ⟨rfl, ?_⟩
  split <;> rfl

section
variable (s : State) {t : Telegram}

theorem State.takeActivate_misfit (h : t.payload.length ≠ 1) : s.takeActivate t = s := if_pos (by simp [slotFits, h])

theorem State.takeDrop_misfit (h : t.payload.length ≠ 1) : s.takeDrop t = s := if_pos (by simp [slotFits, h])

section
variable (hp : t.payload.length = 1)
include hp

theorem State.takeActivate_badSlot (hb : 8 ≤ (byteAt t.payload 0).toNat) :
    s.takeActivate t = s.recipeAnswer t.src (byteAt t.payload 0) .badSlot [] := by
  rw [State.takeActivate, if_neg (by simp [slotFits, hp])]
  simp only [slotOf_eq_none hb]

theorem State.takeDrop_badSlot (hb : 8 ≤ (byteAt t.payload 0).toNat) :
    s.takeDrop t = s.recipeAnswer t.src (byteAt t.payload 0) .badSlot [] := by
  rw [State.takeDrop, if_neg (by simp [slotFits, hp])]
  simp only [slotOf_eq_none hb]

variable {k : Fin 8} (hk : (byteAt t.payload 0).toNat = k.val)
include hk

theorem State.takeActivate_nothing (h : s.store.slots[k].staged = none) :
    s.takeActivate t = s.recipeAnswer t.src (byteAt t.payload 0) .nothingStaged [] := by
  rw [State.takeActivate, if_neg (by simp [slotFits, hp])]
  simp only [slotOf_eq_some hk, h]

theorem State.takeDrop_nothing (h : s.store.slots[k].active = none) :
    s.takeDrop t = s.recipeAnswer t.src (byteAt t.payload 0) .nothingActive [] := by
  rw [State.takeDrop, if_neg (by simp [slotFits, hp])]
  simp only [slotOf_eq_some hk, h]

/-- The active record taken away from its slot (R58). -/
theorem State.takeDrop_active {old : Fin 12} {ro : Recipe} (h : s.store.slots[k].active = some old)
    (hr : s.store.records[old] = .active ro) : s.takeDrop t =
      State.recipeAnswer { s with
        store := (s.store.setRecord old (if 0 < s.refCount old then .retiring ro else .free)).setSlot k
          { s.store.slots[k] with active := none } }
        t.src (byteAt t.payload 0) .dropped (be16 ro.crc ++ [if 0 < s.refCount old then 1 else 0]) := by
  have hcrc : (s.store.crcOf old).getD 0 = ro.crc := Store.crcOf_eq (by rw [hr]; rfl)
  obtain ⟨hcell, hcode⟩ := retired_active ro (s.refCount old)
  rw [State.takeDrop, if_neg (by simp [slotFits, hp])]
  simp only [slotOf_eq_some hk, h, hr, hcrc, hcode]
  rw [hcell]

/-- The staged record made the active one of a slot that has none (R57). -/
theorem State.takeActivate_first {i : Fin 12} {rc : Recipe} (h : s.store.slots[k].staged = some i)
    (hr : s.store.records[i] = .staged rc) (hnone : s.store.slots[k].active = none) : s.takeActivate t =
      State.recipeAnswer { s with
        store := (s.store.setRecord i (.active rc)).setSlot k { active := some i, staged := none } }
        t.src (byteAt t.payload 0) .activated (byteOf i.val :: (be16 rc.crc ++ [0, 0, 0, 0])) := by
  have hcrc : (((s.store.setRecord i (.active rc)).setSlot k { active := some i, staged := none }).crcOf i).getD 0 = rc.crc :=
    Store.crcOf_eq (by rw [Store.records_setSlot, Store.records_setRecord, if_pos rfl]; rfl)
  rw [State.takeActivate, if_neg (by simp [slotFits, hp])]
  simp only [slotOf_eq_some hk, h, hr, hnone, show activated (.staged rc) = .active rc from rfl, hcrc]

/-- The staged record made the active one in the place of another (R57). -/
theorem State.takeActivate_swap {i old : Fin 12} {rc ro : Recipe} (h : s.store.slots[k].staged = some i)
    (hr : s.store.records[i] = .staged rc) (hold : s.store.slots[k].active = some old) (ho : s.store.records[old] = .active ro) :
    s.takeActivate t = State.recipeAnswer { s with
        store := ((s.store.setRecord i (.active rc)).setSlot k { active := some i, staged := none }).setRecord old
          (if 0 < s.refCount old then .retiring ro else .free) }
        t.src (byteAt t.payload 0) .activated
        (byteOf i.val :: (be16 rc.crc ++ [1] ++ be16 ro.crc ++ [if 0 < s.refCount old then 1 else 0])) := by
  have hcrc : (((s.store.setRecord i (.active rc)).setSlot k { active := some i, staged := none }).crcOf i).getD 0 = rc.crc :=
    Store.crcOf_eq (by rw [Store.records_setSlot, Store.records_setRecord, if_pos rfl]; rfl)
  have hcrcOld : (s.store.crcOf old).getD 0 = ro.crc := Store.crcOf_eq (by rw [ho]; rfl)
  obtain ⟨hcell, hcode⟩ := retired_active ro (s.refCount old)
  rw [State.takeActivate, if_neg (by simp [slotFits, hp])]
  simp only [slotOf_eq_some hk, h, hr, hold, ho, show activated (.staged rc) = .active rc from rfl, hcrc, hcrcOld, hcode]
  rw [hcell]

end

end

/-- Settles O23: the form and the slot, and the swap and the drop. -/
theorem recipeActivateAndDrop : Obligations.RecipeActivateAndDrop := by
  intro s g rest hl hg popped b answer away
  have hactivate (hk : g.kind = kindRecipeActivate) : exec .recipeActivate s = .next (popped.takeActivate g) :=
    State.exec_recipeActivate hl hg hk
  have hdrop (hk : g.kind = kindRecipeDrop) : exec .recipeDrop s = .next (popped.takeDrop g) :=
    State.exec_recipeDrop hl hg hk
  refine ⟨fun hp => ⟨fun hk => ?_, fun hk => ?_⟩, fun hp hb => ⟨fun hk => ?_, fun hk => ?_⟩, fun k hp hb =>
    ⟨fun hk hs => ?_, fun hk hs => ?_, fun i rc hk hs hr => ⟨fun ha => ?_, fun old ro _ ha ho => ?_⟩, fun old ro hk ha ho => ?_⟩⟩
  · rw [hactivate hk, popped.takeActivate_misfit hp]
  · rw [hdrop hk, popped.takeDrop_misfit hp]
  · rw [hactivate hk, popped.takeActivate_badSlot hp hb]
    rfl
  · rw [hdrop hk, popped.takeDrop_badSlot hp hb]
    rfl
  · rw [hactivate hk, popped.takeActivate_nothing hp hb hs]
    rfl
  · rw [hdrop hk, popped.takeDrop_nothing hp hb hs]
    rfl
  · rw [hactivate hk, popped.takeActivate_first hp hb hs hr ha]
    rfl
  · rw [hactivate hk, popped.takeActivate_swap hp hb hs hr ha ho]
    rfl
  · rw [hdrop hk, popped.takeDrop_active hp hb ha ho]
    rfl

end Sys2Proof.Machine

end

section

namespace Sys2Proof.Machine

/-! ## The form of an image (R53) -/

theorem halfAt_toNat (p : List Byte) (i : Nat) : (halfAt p i).toNat = 256 * (byteAt p i).toNat + (byteAt p (i + 1)).toNat := by
  have hlow := (byteAt p (i + 1)).isLt
  rw [halfAt, BitVec.toNat_append, Nat.shiftLeft_eq, Nat.mul_comm, ← Nat.two_pow_add_eq_or_of_lt hlow]

theorem imageFormOk_iff (im : List Byte) : imageFormOk im = true ↔ 36 ≤ im.length ∧ imageSegments im ≤ 64 ∧ imageZones im ≤ 16 ∧
    im.length = 36 + 8 * imageSegments im + 9 * imageZones im ∧ crc16 (im.take (im.length - 2)) = imageCrc im := by
  simp only [imageFormOk, Bool.and_eq_true, decide_eq_true_eq]
  constructor
  · rintro ⟨⟨⟨⟨_, hs⟩, hz⟩, hl⟩, hc⟩
    exact ⟨by omega, hs, hz, hl, hc⟩
  · rintro ⟨h, hs, hz, hl, hc⟩
    exact ⟨⟨⟨⟨by omega, hs⟩, hz⟩, hl⟩, hc⟩

/-! ## The clamps of R55 -/

theorem clampInt_eq {lo hi : Int} (h : lo ≤ hi) (n : Int) : clampInt lo hi n = if n < lo then lo else if hi < n then hi else n := by
  unfold clampInt
  split
  · omega
  · split <;> omega

theorem clamp_eq {lo hi : Nat} (h : lo ≤ hi) (n : Nat) : clamp lo hi n = if n < lo then lo else if hi < n then hi else n := by
  unfold clamp
  split
  · omega
  · split <;> omega

theorem clampPitch_eq (p : Nat) : clampPitch p = if p < 4 then 4 else p - p % 2 := by
  unfold clampPitch
  split <;> omega

/-- What the clamp set tells of a pitch: it is odd or below 4. -/
theorem clampPitch_ne_iff (p : Nat) : clampPitch p ≠ p ↔ p % 2 = 1 ∨ p < 4 := by
  rw [clampPitch_eq]
  split <;> omega

/-! ## The record of an image (R46, R47) -/

theorem clampSegment_rate (g : RawSegment) :
    (g.mode = 1 → (clampSegment g).rate = .spray g.flowOrPitch) ∧
      (g.mode = 2 → (clampSegment g).rate = .jet (clampPitch g.flowOrPitch) g.dotVolume) :=
  ⟨fun h => if_pos h, fun h => if_neg (by omega)⟩

theorem cleanZone_kind_iff (z : RawZone) : (cleanZone z).kind = .noCoat ↔ z.kind = 1 := by
  unfold cleanZone
  dsimp only
  split <;> simp [*]

theorem eq_of_getElem?_map_range {α : Type} {f : Nat → α} {n k : Nat} {x : α} (h : ((List.range n).map f)[k]? = some x) :
    x = f k := by
  obtain ⟨_, hx⟩ := List.getElem?_eq_some_iff.1 h
  rw [← hx, List.getElem_map, List.getElem_range]

/-- Settles O22: each field from its bytes, and the segments and zones one by one. -/
theorem recipeRecordFromImage : Obligations.RecipeRecordFromImage := by
  intro im hform b h t near rc
  obtain ⟨-, -, -, -, hcrc⟩ := (imageFormOk_iff im).1 hform
  have hhalf (i : Nat) : (halfAt im i).toNat = h i := halfAt_toNat im i
  have hcap (hi n : Nat) : min n hi = near 0 hi n := by
    unfold near
    split
    · omega
    · split <;> omega
  have hside (n : Nat) : (n = 1 → sideOfCode n = .top) ∧ (n = 2 → sideOfCode n = .bottom) ∧ (n = 3 → sideOfCode n = .either) :=
    ⟨by rintro rfl; rfl, by rintro rfl; rfl, by rintro rfl; rfl⟩
  have htRef : rc.tRef = if t 18 < 400 then 400 else if 2000 < t 18 then 2000 else t 18 := clampInt_eq (by omega) _
  have htOn : rc.tOn = if rc.tRef < t 20 then rc.tRef else t 20 := by
    show min (t 20) rc.tRef = _
    split <;> omega
  have htMax : rc.tMax = if t 22 < rc.tRef then rc.tRef else t 22 := by
    show max (t 22) rc.tRef = _
    split <;> omega
  have hpass : rc.passLimit = near 1 600 (h 32) := (clamp_eq (by omega) _).trans (by rw [hhalf])
  obtain ⟨htop, hbottom, heither⟩ := hside (b 4)
  refine ⟨rfl, rfl, htop, hbottom, heither, rfl, rfl, hhalf 7, hhalf 9, hcap _ _, ?_, ?_, htRef, htOn, htMax, hhalf 24, hhalf 26,
    ?_, ?_, hpass, ?_, ?_, hcrc.symm, fun k g hg => ?_, fun k z hz => ?_⟩
  · exact (hcap _ _).trans (by rw [hhalf])
  · exact (hcap _ _).trans (by rw [hhalf])
  · exact (hcap _ _).trans (by rw [hhalf])
  · exact (hcap _ _).trans (by rw [hhalf])
  · simp [rc, recipeOf, b, imageSegments]
  · simp [rc, recipeOf, b, imageZones]
  · have hg' : g = clampSegment (rawSegment im k) := eq_of_getElem?_map_range (f := fun k => clampSegment (rawSegment im k)) hg
    obtain ⟨hspray, hjet⟩ := clampSegment_rate (rawSegment im k)
    rw [hg']
    refine ⟨rfl, hhalf _, hhalf _, hspray, fun hmode => (hjet hmode).trans ?_⟩
    rw [clampPitch_eq]
    rfl
  · have hz' : z = cleanZone (rawZone im k) := eq_of_getElem?_map_range (f := fun k => cleanZone (rawZone im k)) hz
    rw [hz']
    exact ⟨cleanZone_kind_iff _, hhalf _, hhalf _, hhalf _, hhalf _⟩

end Sys2Proof.Machine

end

section

namespace Sys2Proof.Machine

/-! ## The content checks of an image (R54) -/

@[simp] theorem firstFailing_nil : firstFailing [] = none := rfl

@[simp] theorem firstFailing_cons (p : Bool) (c : CheckCode) (l : List (Bool × CheckCode)) :
    firstFailing ((p, c) :: l) = if p = true then some c else firstFailing l := by
  cases p <;> rfl

/-- The first check of segment `j` that fails: the segments before it are those it may overlap. -/
def segmentFaultAt (valveCount : Nat) (im : List Byte) (j : Nat) : Option CheckCode :=
  segmentFault valveCount ((List.range j).map (rawSegment im)) (rawSegment im j)

theorem segmentsFault_range' (valveCount : Nat) (im : List Byte) (m k : Nat) :
    segmentsFault valveCount ((List.range k).map (rawSegment im)) ((List.range' k m).map (rawSegment im)) k =
      (List.range' k m).findSome? fun j => (segmentFaultAt valveCount im j).map fun c => (j, c) := by
  induction m generalizing k with
  | zero => rfl
  | succ m ih =>
    have hnext : (List.range k).map (rawSegment im) ++ [rawSegment im k] = (List.range (k + 1)).map (rawSegment im) := by
      rw [List.range_succ, List.map_append, List.map_singleton]
    rw [List.range'_succ, List.map_cons, List.findSome?_cons, segmentsFault, hnext, ih]
    unfold segmentFaultAt
    cases segmentFault valveCount ((List.range k).map (rawSegment im)) (rawSegment im k) <;> rfl

theorem zonesFault_range' (im : List Byte) (m k : Nat) : zonesFault ((List.range' k m).map (rawZone im)) k =
    (List.range' k m).findSome? fun j => (zoneFault (rawZone im j)).map fun c => (64 + j, c) := by
  induction m generalizing k with
  | zero => rfl
  | succ m ih =>
    rw [List.range'_succ, List.map_cons, List.findSome?_cons, zonesFault, ih]
    cases zoneFault (rawZone im k) <;> rfl

/-- The number that a search from the lowest finds. -/
theorem findSome?_range_of_lowest {α : Type} {f : Nat → Option α} {n j : Nat} {a : α} (hj : j < n) (ha : f j = some a)
    (hlow : ∀ i, i < j → f i = none) : (List.range n).findSome? f = some a := by
  obtain ⟨m, rfl⟩ : ∃ m, n = j + (m + 1) := ⟨n - j - 1, by omega⟩
  have hbefore : (List.range j).findSome? f = none := List.findSome?_eq_none_iff.2 fun i hi => hlow i (List.mem_range.1 hi)
  rw [List.range_add, List.findSome?_append, hbefore, List.range_succ_eq_map, List.map_cons, List.findSome?_cons, Nat.add_zero, ha]
  rfl

theorem findSome?_range_eq_none {α : Type} {f : Nat → Option α} {n : Nat} (h : ∀ i, i < n → f i = none) :
    (List.range n).findSome? f = none :=
  List.findSome?_eq_none_iff.2 fun i hi => h i (List.mem_range.1 hi)

section
variable {v : Nat} {im : List Byte} {j : Nat} {c : CheckCode}

/-- The content check: the scalars, then the segments and then the zones, each by its index. -/
theorem contentFault_eq (v : Nat) (im : List Byte) : contentFault v im =
    match scalarFault im with
    | some c => some (255, c)
    | none =>
      match (List.range (imageSegments im)).findSome? fun j => (segmentFaultAt v im j).map fun c => (j, c) with
      | some f => some f
      | none => (List.range (imageZones im)).findSome? fun j => (zoneFault (rawZone im j)).map fun c => (64 + j, c) := by
  have hsegments := segmentsFault_range' v im (imageSegments im) 0
  have hzones := zonesFault_range' im (imageZones im) 0
  rw [← List.range_eq_range'] at hsegments hzones
  unfold contentFault
  rw [← hsegments, ← hzones]
  rfl

theorem contentFault_scalar (h : scalarFault im = some c) : contentFault v im = some (255, c) := by
  rw [contentFault_eq, h]

theorem contentFault_segment (h : scalarFault im = none) (hj : j < imageSegments im) (hlow : ∀ i, i < j → segmentFaultAt v im i = none)
    (hc : segmentFaultAt v im j = some c) : contentFault v im = some (j, c) := by
  rw [contentFault_eq, h, findSome?_range_of_lowest hj (by rw [hc]; rfl) fun i hi => by rw [hlow i hi]; rfl]

theorem contentFault_segmentsPass (h : scalarFault im = none) (hs : ∀ i, i < imageSegments im → segmentFaultAt v im i = none) :
    contentFault v im =
      (List.range (imageZones im)).findSome? fun j => (zoneFault (rawZone im j)).map fun c => (64 + j, c) := by
  rw [contentFault_eq, h, findSome?_range_eq_none fun i hi => by rw [hs i hi]; rfl]

theorem contentFault_zone (h : scalarFault im = none) (hs : ∀ i, i < imageSegments im → segmentFaultAt v im i = none)
    (hj : j < imageZones im) (hlow : ∀ i, i < j → zoneFault (rawZone im i) = none) (hc : zoneFault (rawZone im j) = some c) :
    contentFault v im = some (64 + j, c) := by
  rw [contentFault_segmentsPass h hs]
  exact findSome?_range_of_lowest hj (by rw [hc]; rfl) fun i hi => by rw [hlow i hi]; rfl

theorem contentFault_none (h : scalarFault im = none) (hs : ∀ i, i < imageSegments im → segmentFaultAt v im i = none)
    (hz : ∀ i, i < imageZones im → zoneFault (rawZone im i) = none) : contentFault v im = none := by
  rw [contentFault_segmentsPass h hs]
  exact findSome?_range_eq_none fun i hi => by rw [hz i hi]; rfl

end

/-! ### The checks by the image's bytes -/

section
variable (im : List Byte)

theorem scalarFault_code : (scalarFault im).map CheckCode.code =
    let b (i : Nat) : Nat := (byteAt im i).toNat
    let h (i : Nat) : Nat := 256 * b i + b (i + 1)
    if 4 < b 5 then some 1
    else if b 4 = 0 ∨ 3 < b 4 then some 2
    else if 8191 < h 7 ∨ 8191 < h 9 then some 3
    else if h 9 < h 7 then some 4
    else if h 16 < h 14 then some 5
    else if h 26 < h 24 then some 6
    else if h 30 ≤ h 28 then some 7
    else none := by
  simp only [scalarFault, firstFailing_cons, firstFailing_nil, decide_eq_true_eq, halfAt_toNat,
    apply_ite (Option.map CheckCode.code), Option.map_some, Option.map_none, CheckCode.code]

theorem zoneFault_code (j : Nat) : (zoneFault (rawZone im j)).map CheckCode.code =
    let b (i : Nat) : Nat := (byteAt im i).toNat
    let h (i : Nat) : Nat := 256 * b i + b (i + 1)
    let i := 34 + 8 * b 12 + 9 * j
    if b i ≠ 1 ∧ b i ≠ 2 then some 13
    else if 8191 < h (i + 1) ∨ 8191 < h (i + 3) ∨ 8191 < h (i + 5) ∨ 8191 < h (i + 7) then some 3
    else if h (i + 3) < h (i + 1) ∨ h (i + 7) < h (i + 5) then some 14
    else none := by
  simp only [zoneFault, rawZone, imageSegments, firstFailing_cons, firstFailing_nil, decide_eq_true_eq, halfAt_toNat,
    apply_ite (Option.map CheckCode.code), Option.map_some, Option.map_none, CheckCode.code]

end

end Sys2Proof.Machine

end

section

namespace Sys2Proof.Machine

/-! ### A segment's checks by the image's bytes (R54) -/

theorem eq_ite_iff_ite {α : Type} {p : Prop} [Decidable p] {o a b : α} :
    (o = if p then a else b) ↔ if p then o = a else o = b := by split <;> rfl

section
variable (im : List Byte) (j : Nat)

/-- A segment overlaps or touches one before it. -/
theorem any_segmentsTouch_iff : ((List.range j).map (rawSegment im)).any (segmentsTouch (rawSegment im j)) = true ↔
    ∃ i, i < j ∧ (rawSegment im i).valve = (rawSegment im j).valve ∧ (rawSegment im j).xOpen ≤ (rawSegment im i).xClose ∧
      (rawSegment im i).xOpen ≤ (rawSegment im j).xClose := by
  simp only [List.any_map, List.any_eq_true, List.mem_range, Function.comp_apply, segmentsTouch, Bool.and_eq_true,
    Bool.not_eq_true', decide_eq_true_eq, decide_eq_false_iff_not, Nat.not_lt, and_assoc,
    eq_comm (a := (rawSegment im j).valve)]

theorem segmentFaultAt_code (v : Nat) (o : Option Byte) : o = (segmentFaultAt v im j).map CheckCode.code ↔
    let b (i : Nat) : Nat := (byteAt im i).toNat
    let h (i : Nat) : Nat := 256 * b i + b (i + 1)
    let seg (j : Nat) : Nat := 34 + 8 * j
    let overlaps (j : Nat) : Prop := ∃ i, i < j ∧ b (seg i) = b (seg j) ∧ h (seg j + 2) ≤ h (seg i + 4) ∧ h (seg i + 2) ≤ h (seg j + 4)
    if v ≤ b (seg j) then o = some 8
    else if 8191 < h (seg j + 2) ∨ 8191 < h (seg j + 4) then o = some 3
    else if h (seg j + 4) ≤ h (seg j + 2) then o = some 9
    else if b (seg j + 1) ≠ 1 ∧ b (seg j + 1) ≠ 2 then o = some 10
    else if b (seg j + 1) = 1 ∧ b (seg j + 6) = 0 ∨ b (seg j + 1) = 2 ∧ b (seg j + 7) = 0 then o = some 11
    else overlaps j ∧ o = some 12 ∨ ¬ overlaps j ∧ o = none := by
  have hoverlap : (if ((List.range j).map (rawSegment im)).any (segmentsTouch (rawSegment im j)) = true then o = some 12
      else o = none) ↔ _ := ite_prop_iff_or.trans (by rw [any_segmentsTouch_iff])
  simp only [segmentFaultAt, segmentFault, firstFailing_cons, firstFailing_nil, apply_ite (Option.map CheckCode.code),
    Option.map_some, Option.map_none, CheckCode.code, eq_ite_iff_ite,
    hoverlap]
  simp only [rawSegment, halfAt_toNat, decide_eq_true_eq]

end

/-! ## The clamp set (R55) -/

/-- The flags of the clamp set, in the bit order of section 11.6. -/
def clampFlags (im : List Byte) : List Bool :=
  let r := recipeOf im
  [decide (r.tRef ≠ (halfAt im 18).toInt), decide (r.tOn ≠ (halfAt im 20).toInt), decide (r.tMax ≠ (halfAt im 22).toInt),
    decide (r.clearance ≠ (byteAt im 11).toNat), decide (r.hMin ≠ (halfAt im 14).toNat), decide (r.hMax ≠ (halfAt im 16).toNat),
    decide (r.flashMin ≠ (halfAt im 28).toNat), decide (r.potMax ≠ (halfAt im 30).toNat),
    decide (r.passLimit ≠ (halfAt im 32).toNat),
    (List.range (imageSegments im)).any fun k =>
      decide ((rawSegment im k).mode = 2) && decide (clampPitch (rawSegment im k).flowOrPitch ≠ (rawSegment im k).flowOrPitch)]

/-- The clamp set as one field. -/
def clampBits (im : List Byte) : Half := flagByte ((clampFlags im).drop 8) ++ flagByte ((clampFlags im).take 8)

theorem be16_append (a b : Byte) : be16 (a ++ b) = [a, b] := by
  unfold be16
  congr 1
  · refine BitVec.eq_of_getElem_eq fun i hi => ?_
    rw [BitVec.getElem_extractLsb', BitVec.getLsbD_append, if_neg (by omega), Nat.add_sub_cancel_left,
      BitVec.getLsbD_eq_getElem hi]
  · congr 1
    refine BitVec.eq_of_getElem_eq fun i hi => ?_
    rw [BitVec.getElem_extractLsb', BitVec.getLsbD_append, Nat.zero_add, if_pos hi, BitVec.getLsbD_eq_getElem hi]

theorem clampSet_eq (im : List Byte) : clampSet im = be16 (clampBits im) := by
  rw [clampBits, be16_append]
  rfl

theorem getLsbD_clampBits (im : List Byte) {j : Nat} (hj : j < 16) :
    (clampBits im).getLsbD j = (clampFlags im).getD j false := by
  rw [clampBits, BitVec.getLsbD_append]
  split
  · next h => rw [getLsbD_flagByte _ h, List.getD_eq_getElem?_getD, List.getElem?_take_of_lt h, List.getD_eq_getElem?_getD]
  · next h =>
    rw [getLsbD_flagByte _ (by omega), List.getD_eq_getElem?_getD, List.getElem?_drop, List.getD_eq_getElem?_getD]
    congr 2
    omega

theorem getD_ten_flags (f0 f1 f2 f3 f4 f5 f6 f7 f8 f9 : Bool) (j : Nat) :
    [f0, f1, f2, f3, f4, f5, f6, f7, f8, f9].getD j false = true ↔
      j = 0 ∧ f0 = true ∨ j = 1 ∧ f1 = true ∨ j = 2 ∧ f2 = true ∨ j = 3 ∧ f3 = true ∨ j = 4 ∧ f4 = true ∨ j = 5 ∧ f5 = true ∨
        j = 6 ∧ f6 = true ∨ j = 7 ∧ f7 = true ∨ j = 8 ∧ f8 = true ∨ j = 9 ∧ f9 = true := by
  rcases j with _ | _ | _ | _ | _ | _ | _ | _ | _ | _ | j <;> simp

theorem clampInt_ne_iff {lo hi : Int} (h : lo ≤ hi) (n : Int) : clampInt lo hi n ≠ n ↔ n < lo ∨ hi < n := by
  rw [clampInt_eq h]
  split
  · omega
  · split <;> omega

theorem clampPass_ne_iff (n : Nat) : clamp 1 600 n ≠ n ↔ n = 0 ∨ 600 < n := by
  rw [clamp_eq (by omega)]
  split
  · omega
  · split <;> omega

/-- Each flag of the clamp set tells that its field is out of its range (R55). -/
theorem getLsbD_clampBits_iff (im : List Byte) {j : Nat} (hj : j < 16) :
    let b (i : Nat) : Nat := (byteAt im i).toNat
    let h (i : Nat) : Nat := 256 * b i + b (i + 1)
    let temp (i : Nat) : Int := (halfAt im i).toInt
    let seg (j : Nat) : Nat := 34 + 8 * j
    let tRef : Int := if temp 18 < 400 then 400 else if 2000 < temp 18 then 2000 else temp 18
    (clampBits im).getLsbD j = true ↔ j = 0 ∧ (temp 18 < 400 ∨ 2000 < temp 18) ∨ j = 1 ∧ tRef < temp 20 ∨ j = 2 ∧ temp 22 < tRef ∨
      j = 3 ∧ 100 < b 11 ∨ j = 4 ∧ 1023 < h 14 ∨ j = 5 ∧ 1023 < h 16 ∨ j = 6 ∧ 1800 < h 28 ∨ j = 7 ∧ 7200 < h 30 ∨
      j = 8 ∧ (h 32 = 0 ∨ 600 < h 32) ∨
      j = 9 ∧ ∃ k, k < b 12 ∧ b (seg k + 1) = 2 ∧ (b (seg k + 6) % 2 = 1 ∨ b (seg k + 6) < 4) := by
  intro b h temp seg tRef
  have htRef : clampInt 400 2000 (temp 18) = tRef := clampInt_eq (by omega) _
  have hcap (n hi : Nat) : min n hi ≠ n ↔ hi < n := by omega
  have htOn : min (temp 20) tRef ≠ temp 20 ↔ tRef < temp 20 := by omega
  have htMax : max (temp 22) tRef ≠ temp 22 ↔ temp 22 < tRef := by omega
  have hhalf (i : Nat) : (halfAt im i).toNat = h i := halfAt_toNat im i
  rw [getLsbD_clampBits im hj, clampFlags, getD_ten_flags]
  simp only [recipeOf, decide_eq_true_eq, List.any_eq_true, List.mem_range, Bool.and_eq_true, rawSegment, imageSegments,
    clampPitch_ne_iff, hcap, clampPass_ne_iff, hhalf]
  rw [clampInt_ne_iff (by omega), htRef, htOn, htMax]

end Sys2Proof.Machine

end

section

namespace Sys2Proof.Machine

/-! ## The lowest FREE record (R56) -/

theorem Store.lowestFree_eq_none {st : Store} (h : ∀ i : Fin 12, st.records[i] ≠ .free) : st.lowestFree = none :=
  List.find?_eq_none.2 fun i _ hi => h i ((RecipeCell.isFree_iff _).1 hi)

/-- The records before one in the list are those of lower number. -/
theorem recordNumbers_split (i : Fin 12) : ∃ before after, recordNumbers = before ++ i :: after ∧ ∀ j ∈ before, j < i := by
  refine ⟨recordNumbers.take i.val, recordNumbers.drop (i.val + 1), ?_⟩
  revert i
  decide

theorem Store.lowestFree_eq_some {st : Store} {i : Fin 12} (hi : st.records[i] = .free)
    (hlow : ∀ j : Fin 12, j < i → st.records[j] ≠ .free) : st.lowestFree = some i := by
  obtain ⟨before, after, hsplit, hbefore⟩ := recordNumbers_split i
  refine List.find?_eq_some_iff_append.2 ⟨(RecipeCell.isFree_iff _).2 hi, before, after, hsplit, fun j hj => ?_⟩
  have hbusy : st.records[j].isFree ≠ true := fun hf => hlow j (hbefore j hj) ((RecipeCell.isFree_iff _).1 hf)
  rw [Bool.eq_false_of_not_eq_true hbusy]
  rfl

/-! ## The commit (R53 to R56) -/

section
variable {s : State} {dst : Byte} {k : Fin 8} {im : List Byte}

theorem State.commit_badForm (h : ¬ imageFormOk im = true) :
    s.commit dst k im = s.recipeAnswer dst (byteOf k.val) .badCheck (badCheckFields im) := by
  rw [State.commit, if_pos (by simpa using h)]

section
variable (hform : imageFormOk im = true)
include hform

theorem State.commit_badContent {item : Nat} {c : CheckCode} (h : contentFault s.cfg.valveCount im = some (item, c)) :
    s.commit dst k im = s.recipeAnswer dst (byteOf k.val) .badContent [byteOf item, c.code] := by
  rw [State.commit, if_neg (by simp [hform]), h]

theorem State.commit_noRoom (h : contentFault s.cfg.valveCount im = none) (hfull : s.store.lowestFree = none) :
    s.commit dst k im = s.recipeAnswer dst (byteOf k.val) .noRoom [byteOf s.store.countRetiring] := by
  rw [State.commit, if_neg (by simp [hform]), h, hfull]

theorem State.commit_staged {i : Fin 12} (h : contentFault s.cfg.valveCount im = none) (hi : s.store.lowestFree = some i) :
    s.commit dst k im = State.recipeAnswer { s with store := s.store.stage k i (recipeOf im) } dst (byteOf k.val) .staged
      (byteOf i.val :: (be16 (imageCrc im) ++ be16 (clampBits im))) := by
  rw [State.commit, if_neg (by simp [hform]), h, hi, clampSet_eq]

end

/-- The last fragment in sequence commits; fragment 0 first breaks an assembly in progress (R51). -/
theorem State.takeFragment_last {n : Nat} {data buf : List Byte}
    (h : n = 0 ∧ buf = [] ∨ n ≠ 0 ∧ s.store.assembler = .assembling k n buf) :
    s.takeFragment dst k n true data = State.commit { s with
      link := { s.link with
        assemblyBroken := if n = 0 ∧ s.store.assembler ≠ .idle then true else s.link.assemblyBroken }
      store := { s.store with assembler := .idle } } dst k (buf ++ data) := by
  rcases h with ⟨rfl, rfl⟩ | ⟨hn, ha⟩
  · rw [State.takeFragment_zero, State.takeData_last]
    cases ha : s.store.assembler with
    | idle =>
      rw [State.assemblyOpen_idle ha]
      simp [State.setAssembler]
    | assembling j m old =>
      rw [State.assemblyOpen_assembling ha]
      simp [State.setAssembler, State.breakAssembly]
  · rw [State.takeFragment_next hn ha, State.takeData_last, if_neg (fun h0 => hn h0.1)]
    rfl

end

/-- Settles O21: the form, the first content check that fails, and the staging with its clamp set. -/
theorem recipeCommitStages : Obligations.RecipeCommitStages := by
  intro s g rest k buf hl hg hkind p n im b h temp form scalars seg overlaps segment zone goodTo tRef clamps popped
    hlen hlen' hbits hk hlast hseq answer
  have hexec : exec .recipePart s = .next (popped.commit g.src k im) := by
    rw [State.exec_recipePart hl hg hkind,
      State.takeRecipePart_fragment _ _ ((partFits_iff _).2 ⟨hlen, hlen', hbits⟩) hk, hlast]
    exact congrArg _ (State.takeFragment_last hseq)
  have hanswer (u : State) (c : RecipeCode) (more : List Byte) :
      u.recipeAnswer g.src (byteOf k.val) c more = answer u (c.code :: more) := by rw [byteOf_of_toNat hk]; rfl
  have hform : imageFormOk im = true ↔ form := by
    rw [imageFormOk_iff, ← BitVec.toNat_inj, imageCrc, halfAt_toNat]
    rfl
  have hscalars : (scalarFault im).map CheckCode.code = scalars := scalarFault_code im
  have hsegment (j : Nat) (o : Option Byte) : o = (segmentFaultAt s.cfg.valveCount im j).map CheckCode.code ↔ segment j o :=
    segmentFaultAt_code im j s.cfg.valveCount o
  have hzone (j : Nat) : (zoneFault (rawZone im j)).map CheckCode.code = zone j := zoneFault_code im j
  have hgood {m : Nat} (hm : goodTo m) : scalarFault im = none ∧ ∀ j, j < m → segmentFaultAt s.cfg.valveCount im j = none :=
    ⟨Option.map_eq_none_iff.1 (hscalars.trans hm.1), fun j hj => Option.map_eq_none_iff.1 ((hsegment j none).2 (hm.2 j hj)).symm⟩
  have hzoneNone {m : Nat} (hm : ∀ j, j < m → zone j = none) (j : Nat) (hj : j < m) : zoneFault (rawZone im j) = none :=
    Option.map_eq_none_iff.1 ((hzone j).trans (hm j hj))
  have hcontent (hf : form) {item : Nat} {c : CheckCode} (hc : contentFault s.cfg.valveCount im = some (item, c)) :
      exec .recipePart s = .next (answer popped [3, byteOf item, c.code]) := by
    rw [hexec, State.commit_badContent (s := popped) (hform.2 hf) hc, hanswer]
    rfl
  refine ⟨fun hf => ?_, fun hf => ⟨fun c hc => ?_, fun j c hj hm hc => ?_, fun j c hj hm hlow hc => ?_⟩, fun hf hm hz =>
    ⟨fun hfull => ?_, fun i hi hlow hne => ?_⟩⟩
  · rw [hexec, State.commit_badForm (fun hok => hf (hform.1 hok)), hanswer]
    rfl
  · obtain ⟨c, hfault, rfl⟩ := Option.map_eq_some_iff.1 (hscalars.trans hc)
    exact hcontent hf (contentFault_scalar hfault)
  · obtain ⟨c, hfault, rfl⟩ := Option.map_eq_some_iff.1 ((hsegment j (some c)).2 hc).symm
    obtain ⟨hs, hbefore⟩ := hgood hm
    exact hcontent hf (contentFault_segment hs hj hbefore hfault)
  · obtain ⟨c, hfault, rfl⟩ := Option.map_eq_some_iff.1 ((hzone j).trans hc)
    obtain ⟨hs, hsegments⟩ := hgood hm
    exact hcontent hf (contentFault_zone hs hsegments hj (hzoneNone hlow) hfault)
  · obtain ⟨hs, hsegments⟩ := hgood hm
    rw [hexec, State.commit_noRoom (s := popped) (hform.2 hf) (contentFault_none hs hsegments (hzoneNone hz))
      (Store.lowestFree_eq_none hfull), hanswer]
    rfl
  · obtain ⟨hs, hsegments⟩ := hgood hm
    have hnext : exec .recipePart s = .next (answer { popped with store := popped.store.stage k i (recipeOf im) }
        (1 :: byteOf i.val :: (be16 (imageCrc im) ++ be16 (clampBits im)))) := by
      rw [hexec, State.commit_staged (s := popped) (hform.2 hf) (contentFault_none hs hsegments (hzoneNone hz))
        (Store.lowestFree_eq_some hi hlow), hanswer]
      rfl
    refine ⟨popped.store.stage k i (recipeOf im), clampBits im, hnext, fun j hj => getLsbD_clampBits_iff im hj, fun j => ?_,
      fun l => Store.slots_stage _ k l i _, Store.assembler_stage _ k i _⟩
    rw [Store.records_stage]
    by_cases hji : j = i
    · rw [hji, if_pos rfl, if_pos rfl]
      exact if_neg hne
    · rw [if_neg hji, if_neg hji]

end Sys2Proof.Machine

end

section

namespace Sys2Proof.Machine

/-! ## New verdicts and the reasons they bring (R74, R75, R77, R78) -/

/-- Some zone takes a verdict that it did not have. -/
def Turns (us vs : List Verdict) (v : Verdict) : Prop :=
  ∃ (k : Nat) (w : Verdict), us[k]? = some w ∧ w ≠ v ∧ vs[k]? = some v

theorem any_zip_turns (us vs : List Verdict) (v : Verdict) :
    ((us.zip vs).any fun p => p.1 != v && p.2 == v) = true ↔ Turns us vs v := by
  simp only [List.any_eq_true, List.mem_iff_getElem?, List.getElem?_zip_eq_some, Bool.and_eq_true, bne_iff_ne, beq_iff_eq]
  constructor
  · rintro ⟨⟨w, u⟩, ⟨k, hw, hu⟩, hne, rfl⟩
    exact ⟨k, w, hw, hne, hu⟩
  · rintro ⟨k, w, hw, hne, hu⟩
    exact ⟨(w, v), ⟨k, hw, hu⟩, hne, rfl⟩

section
variable (r : Record) (vs : List Verdict)

/-- New verdicts change the verdicts and the reasons alone. -/
theorem Record.withVerdicts_eq : r.withVerdicts vs =
    { r with verdicts := vs, trav := { r.trav with reasons := (r.withVerdicts vs).trav.reasons } } := by
  unfold Record.withVerdicts Record.addReasonIf
  dsimp only
  split <;> split <;> rfl

@[simp] theorem Record.withVerdicts_verdicts : (r.withVerdicts vs).verdicts = vs := by
  rw [Record.withVerdicts_eq]

theorem Record.withVerdicts_hasReason (x : Reason) : hasReason (r.withVerdicts vs).trav.reasons x = true ↔
    hasReason r.trav.reasons x = true ∨ Turns r.verdicts vs .missing ∧ x = .maskMissing ∨
      Turns r.verdicts vs .uncheckable ∧ x = .maskUnchecked := by
  unfold Record.withVerdicts
  rw [Record.hasReason_addReasonIf, Record.hasReason_addReasonIf, any_zip_turns, any_zip_turns, or_assoc]

theorem Record.withVerdicts_maskMissing : hasReason (r.withVerdicts vs).trav.reasons .maskMissing = true ↔
    hasReason r.trav.reasons .maskMissing = true ∨ Turns r.verdicts vs .missing := by
  simp [Record.withVerdicts_hasReason]

theorem Record.withVerdicts_maskUnchecked : hasReason (r.withVerdicts vs).trav.reasons .maskUnchecked = true ↔
    hasReason r.trav.reasons .maskUnchecked = true ∨ Turns r.verdicts vs .uncheckable := by
  simp [Record.withVerdicts_hasReason]

theorem Record.withVerdicts_other {x : Reason} (hm : x ≠ .maskMissing) (hu : x ≠ .maskUnchecked) :
    hasReason (r.withVerdicts vs).trav.reasons x = hasReason r.trav.reasons x :=
  Bool.eq_iff_iff.2 (by simp [Record.withVerdicts_hasReason, hm, hu])

theorem Record.withVerdicts_nil : r.withVerdicts [] = { r with verdicts := [] } := by
  simp [Record.withVerdicts, Record.addReasonIf]

/-- A condition for a reason changes the reasons alone. -/
theorem Record.addReasonIf_eq (c : Bool) (x : Reason) : r.addReasonIf c x =
    { r with trav := { r.trav with reasons := (r.addReasonIf c x).trav.reasons } } := by
  cases c <;> rfl

end

/-! ## The zones of a record (R62) -/

section
variable {s : State} {r : Record} {rc : Recipe}

theorem State.zonesOf_bound (h : r.bound s.store = some rc) : s.zonesOf r = rc.zones := by
  simp [State.zonesOf, h]

theorem State.zonesOf_unbound (h : r.bound s.store = none) : s.zonesOf r = [] := by
  simp [State.zonesOf, h]

theorem Record.bound_of_no_recipe {st : Store} (h : r.recipe = none) : r.bound st = none := by
  simp [Record.bound, h]

theorem Record.recipe_isSome_of_bound {st : Store} (h : r.bound st = some rc) : r.recipe.isSome = true := by
  cases hr : r.recipe with
  | none => rw [Record.bound_of_no_recipe hr] at h; cases h
  | some i => rfl

/-- The verdicts given zone by zone, where the record holds one for each. -/
theorem getElem?_zipWith_some {f : BoardZone → Verdict → Verdict} {zs : List BoardZone} {us : List Verdict} {j : Nat}
    {u : Verdict} : (zs.zipWith f us)[j]? = some u ↔ ∃ z v, zs[j]? = some z ∧ us[j]? = some v ∧ f z v = u := by
  simp [List.getElem?_zipWith_eq_some]

theorem turns_zipWith_iff {f : BoardZone → Verdict → Verdict} {zs : List BoardZone} {us : List Verdict} {u : Verdict} :
    Turns us (zs.zipWith f us) u ↔
      ∃ (j : Nat) (z : BoardZone) (v : Verdict), zs[j]? = some z ∧ us[j]? = some v ∧ v ≠ u ∧ f z v = u := by
  simp only [Turns, getElem?_zipWith_some]
  constructor
  · rintro ⟨j, w, hw, hne, z, v, hz, hv, hf⟩
    obtain rfl := Option.some.inj (hv.symm.trans hw)
    exact ⟨j, z, v, hz, hv, hne, hf⟩
  · rintro ⟨j, z, v, hz, hv, hne, hf⟩
    exact ⟨j, v, hv, hne, z, v, hz, hv, hf⟩

/-! ## The close without a trailing edge (R78) -/

theorem unjudged_iff (v : Verdict) : v.unjudged = true ↔ v = .pending ∨ v = .watching := by
  cases v <;> simp [Verdict.unjudged]

theorem cutVerdict_eq (z : BoardZone) (v : Verdict) :
    cutVerdict z v = if z.kind = .masked ∧ (v = .pending ∨ v = .watching) then .uncheckable else v := by
  unfold cutVerdict
  cases z.kind <;> cases v <;> rfl

variable (s r)

theorem State.closeCut_eq (l : Option Half) : s.closeCut r l = { r with
    verdicts := (s.zonesOf r).zipWith cutVerdict r.verdicts
    trav := { r.trav with length := l, reasons := (s.closeCut r l).trav.reasons } } := by
  unfold State.closeCut
  dsimp only
  rw [Record.addReasonIf_eq, Record.withVerdicts_eq]

theorem State.closeCut_verdicts (l : Option Half) :
    (s.closeCut r l).verdicts = (s.zonesOf r).zipWith cutVerdict r.verdicts := by
  rw [State.closeCut_eq]

theorem State.closeCut_hasReason (l : Option Half) (x : Reason) : hasReason (s.closeCut r l).trav.reasons x = true ↔
    hasReason r.trav.reasons x = true ∨
      x = .maskUnchecked ∧ Turns r.verdicts ((s.zonesOf r).zipWith cutVerdict r.verdicts) .uncheckable ∨
      x = .length ∧ r.recipe.isSome = true := by
  have hmissing : ¬ Turns r.verdicts ((s.zonesOf r).zipWith cutVerdict r.verdicts) .missing := by
    rw [turns_zipWith_iff]
    rintro ⟨j, z, v, -, -, hne, hf⟩
    rw [cutVerdict_eq] at hf
    split at hf
    · cases hf
    · exact hne hf
  unfold State.closeCut
  rw [Record.hasReason_addReasonIf, Record.withVerdicts_hasReason]
  simp only [hmissing, false_and, false_or, or_assoc, and_comm]

/-- A record without a recipe has no zones, and a close adds no reason to it. -/
theorem State.closeCut_no_recipe (l : Option Half) (h : r.recipe = none) :
    s.closeCut r l = { r with verdicts := [], trav := { r.trav with length := l } } := by
  unfold State.closeCut
  rw [State.zonesOf_unbound (Record.bound_of_no_recipe h), h, List.zipWith_nil_left]
  dsimp only
  rw [Record.withVerdicts_nil]
  rfl

variable {s r}

theorem State.closeCut_verdict (hb : r.bound s.store = some rc) (l : Option Half) {j : Nat} {z : BoardZone} {v : Verdict}
    (hz : rc.zones[j]? = some z) (hv : r.verdicts[j]? = some v) : (s.closeCut r l).verdicts[j]? =
      some (if z.kind = .masked ∧ (v = .pending ∨ v = .watching) then .uncheckable else v) := by
  rw [State.closeCut_verdicts, State.zonesOf_bound hb]
  exact getElem?_zipWith_some.2 ⟨z, v, hz, hv, cutVerdict_eq z v⟩

theorem State.closeCut_length (hb : r.recipe.isSome = true) (l : Option Half) :
    hasReason (s.closeCut r l).trav.reasons .length = true :=
  (s.closeCut_hasReason r l _).2 (.inr (.inr ⟨rfl, hb⟩))

theorem State.closeCut_maskUnchecked (hb : r.bound s.store = some rc) (l : Option Half) :
    hasReason (s.closeCut r l).trav.reasons .maskUnchecked = true ↔ hasReason r.trav.reasons .maskUnchecked = true ∨
      ∃ (j : Nat) (z : BoardZone) (v : Verdict), rc.zones[j]? = some z ∧ r.verdicts[j]? = some v ∧ z.kind = .masked ∧
        (v = .pending ∨ v = .watching) := by
  have hcut (z : BoardZone) (v : Verdict) : v ≠ .uncheckable ∧ cutVerdict z v = .uncheckable ↔
      z.kind = .masked ∧ (v = .pending ∨ v = .watching) := by
    rw [cutVerdict_eq]
    split
    next h => simp only [h, and_self, and_true, iff_true]; rintro rfl; simp at h
    next h => simp [h]
  simp [State.closeCut_hasReason, turns_zipWith_iff, State.zonesOf_bound hb, hcut]

theorem State.closeCut_other (l : Option Half) {x : Reason} (hl : x ≠ .length) (hu : x ≠ .maskUnchecked) :
    hasReason (s.closeCut r l).trav.reasons x = hasReason r.trav.reasons x :=
  Bool.eq_iff_iff.2 (by simp [State.closeCut_hasReason, hl, hu])

end

/-! ## The candidate (R68) -/

section
variable {s : State} {q : Position} {r : Record}

theorem State.candidate_at (hc : s.mask.cand = some q) (hr : s.table.get q = some r) : s.candidate = some r := by
  simp [State.candidate, hc, hr]

theorem State.setCandidate_at (hc : s.mask.cand = some q) (m : Record) : s.setCandidate m = s.putRecord q m := by
  simp [State.setCandidate, hc]

theorem State.closeWith_at (hc : s.mask.cand = some q) (hr : s.table.get q = some r) (f : Record → Record) :
    s.closeWith f = { s with table := s.table.put q (some (f r)), mask := { s.mask with phase := .closed } } := by
  unfold State.closeWith
  rw [State.candidate_at hc hr]
  simp only [State.setCandidate_at hc]
  rfl

/-- A transport encoder count that the mask checker takes (R83). -/
theorem State.exec_transportEncoderCount (ht : s.tracking = true) (dir : Direction) (datum : Bool) :
    exec (.transportEncoderCount dir datum) s = .next (s.transportCount dir datum) := by
  show Host.Outcome.next (s.when s.tracking _) = _
  rw [ht, State.when_true]

theorem State.transportCount_forward (hp : s.mask.phase = .measuring) (datum : Bool) :
    s.transportCount .forward datum = s.countForward datum := by
  simp [State.transportCount, hp]

theorem State.transportCount_reverse (hp : s.mask.phase = .measuring) (datum : Bool) :
    s.transportCount .reverse datum = s.countReverse := by
  simp [State.transportCount, hp]

end

end Sys2Proof.Machine

end

section

namespace Sys2Proof.Machine

/-! ## A zone at a sampling count (R71 to R75) -/

/-- A channel qualifies for a zone where it is fitted and its centre lies within the zone less the inset in y (R71). -/
theorem qualifies_iff (c : CellCfg) (z : BoardZone) (k : Nat) : qualifies c z k = true ↔ k < c.maskCount ∧
    z.y0 + c.inset ≤ c.maskY0 + k * c.maskPitch ∧ c.maskY0 + k * c.maskPitch + c.inset ≤ z.y1 := by
  simp only [qualifies, Bool.and_eq_true, decide_eq_true_eq, and_assoc]
  refine and_congr_right fun _ => and_congr (by norm_cast) ?_
  rw [le_sub_iff_add_le]
  norm_cast

/-- A qualifying channel of the zone does not read present (R72). -/
def State.absentAt (s : State) (z : BoardZone) : Prop :=
  ∃ c : Fin 32, qualifies s.cfg z c.val = true ∧ s.inputs.mask[c].level ≠ some true

section
variable {s : State} {x : Int} {seen mark : Bool} {z : BoardZone} {v w : Verdict}

theorem State.maskAbsent_iff : s.maskAbsent z = true ↔ s.absentAt z := by
  simp [State.maskAbsent, State.absentAt, channels, State.maskPresent]

/-- A NO_COAT zone is not judged. -/
theorem State.sampleZone_noCoat (h : z.kind = .noCoat) : s.sampleZone x seen z v mark = (v, mark) := by
  simp [State.sampleZone, h]

/-- A verdict given stands. -/
theorem State.sampleZone_judged (h : v = .verified ∨ v = .missing ∨ v = .uncheckable) :
    s.sampleZone x seen z v mark = (v, mark) := by
  rcases h with rfl | rfl | rfl <;> cases hk : z.kind <;> simp [State.sampleZone, hk, Verdict.unjudged]

/-- The count reads the channels of a zone that stands `w`: the datum sample is occupied, the zone is WATCHING and x lies in its
window (R73, step 2). -/
def State.reads (s : State) (x : Int) (seen : Bool) (z : BoardZone) (w : Verdict) : Prop :=
  seen = true ∧ w = .watching ∧ (z.x0 : Int) + s.cfg.inset ≤ x ∧ x ≤ (z.x1 : Int) - s.cfg.inset

theorem State.reads_iff : (seen && watched s.cfg.inset x z w) = true ↔ s.reads x seen z w := by
  simp only [watched, Bool.and_eq_true, beq_iff_eq, decide_eq_true_eq, and_assoc]
  rfl

/-- An unjudged MASKED zone: the steps of R73 with their tests. -/
theorem State.sampleZone_masked (hk : z.kind = .masked) (hv : v = .pending ∨ v = .watching)
    (hw : w = if v = .pending ∧ x = (z.x0 : Int) + s.cfg.inset then .watching else v) : s.sampleZone x seen z v mark =
      (stepDone s.cfg.inset x z (mark || (seen && watched s.cfg.inset x z w))
        (if (seen && watched s.cfg.inset x z w) = true ∧ s.maskAbsent z = true then .missing else w),
       mark || (seen && watched s.cfg.inset x z w)) := by
  have hstep : stepWatch s.cfg.inset x z v = w := by
    rw [hw, stepWatch, windowStart]
    simp only [and_comm]
  unfold State.sampleZone
  rw [hk, (unjudged_iff v).2 hv]
  simp only [hstep]

variable (hk : z.kind = .masked) (hv : v = .pending ∨ v = .watching)
  (hw : w = if v = .pending ∧ x = (z.x0 : Int) + s.cfg.inset then .watching else v)
include hk hv hw

theorem State.sampleZone_mark_of_read (h : s.reads x seen z w) : (s.sampleZone x seen z v mark).2 = true := by
  rw [State.sampleZone_masked hk hv hw, State.reads_iff.2 h, Bool.or_true]

theorem State.sampleZone_mark_of_not_read (h : ¬ s.reads x seen z w) : (s.sampleZone x seen z v mark).2 = mark := by
  rw [State.sampleZone_masked hk hv hw, Bool.eq_false_iff.2 (mt State.reads_iff.1 h), Bool.or_false]

theorem State.sampleZone_missing (h : s.reads x seen z w) (ha : s.absentAt z) :
    (s.sampleZone x seen z v mark).1 = .missing := by
  rw [State.sampleZone_masked hk hv hw, if_pos ⟨State.reads_iff.2 h, State.maskAbsent_iff.2 ha⟩]
  simp [stepDone]

/-- At its window's end a WATCHING zone that no channel misses is VERIFIED where it was sampled. -/
theorem State.sampleZone_end (hn : ¬ (s.reads x seen z w ∧ s.absentAt z)) (hww : w = .watching)
    (he : x = (z.x1 : Int) - s.cfg.inset) :
    (s.reads x seen z w ∨ mark = true → (s.sampleZone x seen z v mark).1 = .verified) ∧
      (¬ s.reads x seen z w → mark = false → (s.sampleZone x seen z v mark).1 = .uncheckable) := by
  rw [← State.reads_iff, ← State.maskAbsent_iff] at hn
  rw [State.sampleZone_masked hk hv hw, if_neg hn, ← State.reads_iff, stepDone, if_pos ⟨hww, he⟩]
  constructor
  · rintro (h | h) <;> rw [h] <;> simp
  · intro h hm
    rw [hm, Bool.eq_false_iff.2 h]
    rfl

theorem State.sampleZone_waits (hn : ¬ (s.reads x seen z w ∧ s.absentAt z))
    (hww : w ≠ .watching ∨ x ≠ (z.x1 : Int) - s.cfg.inset) :
    (s.sampleZone x seen z v mark).1 = w := by
  rw [← State.reads_iff, ← State.maskAbsent_iff] at hn
  rw [State.sampleZone_masked hk hv hw, if_neg hn, stepDone, if_neg fun h => hww.elim (· h.1) (· h.2)]

end

/-- With the datum empty nothing is read, and no zone becomes MISSING. -/
theorem State.sampleZone_missing_iff_of_unseen {s : State} {x : Int} {z : BoardZone} {v : Verdict} {mark : Bool} :
    (s.sampleZone x false z v mark).1 = .missing ↔ v = .missing := by
  cases hk : z.kind with
  | noCoat => rw [State.sampleZone_noCoat hk]
  | masked =>
    by_cases hv : v = .pending ∨ v = .watching
    · have hne : v ≠ .missing := by rintro rfl; simp at hv
      rw [State.sampleZone_masked hk hv rfl]
      simp only [hne, iff_false, Bool.false_and, Bool.or_false, Bool.false_eq_true, false_and, if_false, stepDone]
      grind
    · rw [State.sampleZone_judged (by cases v <;> simp_all)]

/-! ## The zones at a sampling count -/

/-- The zones of a record after a sampling count, each with its verdict and its mark. -/
def State.judged (s : State) (x : Int) (seen : Bool) (r : Record) : List (Verdict × Bool) :=
  (List.range (s.zonesOf r).length).map fun k =>
    match (s.zonesOf r)[k]? with
    | some z => s.sampleZone x seen z (r.verdicts.getD k .pending) (s.mask.sampled.getD k false)
    | none => (.pending, false)

section
variable {s : State} {q : Position} {r : Record} {x : Int} {seen : Bool}

theorem State.getElem?_judged {k : Nat} {p : Verdict × Bool} : (s.judged x seen r)[k]? = some p ↔
    ∃ z, (s.zonesOf r)[k]? = some z ∧
      s.sampleZone x seen z (r.verdicts.getD k .pending) (s.mask.sampled.getD k false) = p := by
  unfold State.judged
  by_cases hk : k < (s.zonesOf r).length
  · simp [hk]
  · simp [hk]

/-- A zone that holds a verdict is judged from it. -/
theorem State.judged_zone {k : Nat} {z : BoardZone} {v : Verdict} (hz : (s.zonesOf r)[k]? = some z)
    (hv : r.verdicts[k]? = some v) :
    (s.judged x seen r)[k]? = some (s.sampleZone x seen z v (s.mask.sampled.getD k false)) :=
  State.getElem?_judged.2 ⟨z, hz, by rw [List.getD_eq_getElem?_getD, hv]; rfl⟩

theorem State.judged_unbound (h : r.bound s.store = none) : s.judged x seen r = [] := by
  rw [State.judged, State.zonesOf_unbound h]
  rfl

/-- The whole state after the zones of the candidate are sampled. -/
theorem State.sampleZones_at (hc : s.mask.cand = some q) (hr : s.table.get q = some r) : s.sampleZones x seen = { s with
    table := s.table.put q (some (r.withVerdicts ((s.judged x seen r).map (·.1))))
    mask := { s.mask with sampled := (s.judged x seen r).map (·.2) } } := by
  unfold State.sampleZones
  rw [State.candidate_at hc hr]
  simp only [State.setCandidate_at hc]
  rfl

/-- A verdict that a count gives is given to a MASKED zone that had another. -/
theorem State.turns_judged_iff (u : Verdict) : Turns r.verdicts ((s.judged x seen r).map (·.1)) u ↔
    ∃ (k : Nat) (z : BoardZone) (w : Verdict), (s.zonesOf r)[k]? = some z ∧ z.kind = .masked ∧ r.verdicts[k]? = some w ∧ w ≠ u ∧
      ((s.judged x seen r).map (·.1))[k]? = some u := by
  constructor
  · rintro ⟨k, w, hw, hne, hu⟩
    have hu' := hu
    rw [List.getElem?_map, Option.map_eq_some_iff] at hu
    obtain ⟨p, hp, rfl⟩ := hu
    obtain ⟨z, hz, rfl⟩ := State.getElem?_judged.1 hp
    refine ⟨k, z, w, hz, ?_, hw, hne, hu'⟩
    cases hk : z.kind with
    | masked => rfl
    | noCoat =>
      rw [State.sampleZone_noCoat hk, List.getD_eq_getElem?_getD, hw] at hne
      exact absurd rfl hne
  · rintro ⟨k, z, w, -, -, hw, hne, hu⟩
    exact ⟨k, w, hw, hne, hu⟩

/-- What the sampling gives a zone that holds a verdict, and its mark. -/
theorem State.sampled_zone {rc : Recipe} (hb : r.bound s.store = some rc) {k : Nat} {z : BoardZone} {v : Verdict}
    (hz : rc.zones[k]? = some z) (hv : r.verdicts[k]? = some v) :
    (r.withVerdicts ((s.judged x seen r).map (·.1))).verdicts[k]? =
        some (s.sampleZone x seen z v (s.mask.sampled.getD k false)).1 ∧
      ((s.judged x seen r).map (·.2))[k]? = some (s.sampleZone x seen z v (s.mask.sampled.getD k false)).2 := by
  rw [Record.withVerdicts_verdicts, List.getElem?_map, List.getElem?_map, State.judged_zone (State.zonesOf_bound hb ▸ hz) hv]
  exact ⟨rfl, rfl⟩

/-- A sample that does not confirm a change to empty leaves the accepted level occupied (R69). -/
theorem MaskChecker.accepted_of_occupied {m : MaskChecker} {d : Bool} (ha : m.accepted = some true)
    (hd : d = true ∨ m.lastSample ≠ some false) : (if m.lastSample = some d then some d else m.accepted) = m.accepted := by
  cases d <;> grind

/-- A new-ground count at which the board still covers the datum: the zones are judged (R73). -/
theorem State.countForward_judges {d : Bool} (hx : s.mask.high < s.mask.x + 1) (ho : s.mask.x + 1 ≠ 8192)
    (ha : s.mask.accepted = some true) (hd : d = true ∨ s.mask.lastSample ≠ some false) : s.countForward d =
      State.sampleZones { s with mask := { s.mask with x := s.mask.x + 1, high := s.mask.x + 1, lastSample := some d } }
        (s.mask.x + 1) d := by
  unfold State.countForward MaskChecker.sampleDatum
  dsimp only
  rw [if_neg (by omega), if_neg ho, MaskChecker.accepted_of_occupied ha hd]
  exact if_neg fun h => by simp [ha] at h

/-- A new-ground count at the trailing edge: the zones are judged, and the measurement closes (R73, R76). -/
theorem State.countForward_trailing (hx : s.mask.high < s.mask.x + 1) (ho : s.mask.x + 1 ≠ 8192)
    (ha : s.mask.accepted = some true) (hl : s.mask.lastSample = some false) : s.countForward false =
      (State.sampleZones { s with mask := { s.mask with
        x := s.mask.x + 1, high := s.mask.x + 1, lastSample := some false, accepted := some false } }
        (s.mask.x + 1) false).trailingEdge (s.mask.x + 1) := by
  unfold State.countForward MaskChecker.sampleDatum
  dsimp only
  rw [if_neg (by omega), if_neg ho, if_pos hl]
  exact if_pos ⟨ha, rfl⟩

end

/-- Settles O26: the state after the zones are sampled, then each zone by its verdict and its window, then the reasons. -/
theorem zonesJudgedAtSamplingCount : Obligations.ZonesJudgedAtSamplingCount := by
  refine ⟨qualifies_iff, ?_⟩
  intro s q r rc d ht hp hc hr hb hx ho ha hd x became
  let s1 : State := { s with mask := { s.mask with x := x, high := x, lastSample := some d } }
  let vs := (s1.judged x d r).map (·.1)
  have hturns (v : Verdict) : Turns r.verdicts vs v ↔ became (r.withVerdicts vs) v := by
    rw [State.turns_judged_iff, State.zonesOf_bound (s := s1) hb]
    simp only [became, Record.withVerdicts_verdicts, vs]
  refine ⟨_, r.withVerdicts vs, by
    rw [State.exec_transportEncoderCount ht, State.transportCount_forward hp, State.countForward_judges hx ho ha hd,
      State.sampleZones_at (s := s1) hc hr], rfl,
    by rw [Record.withVerdicts_verdicts]; exact r.withVerdicts_eq vs, fun k z v hz hv => ?_,
    by rw [Record.withVerdicts_maskMissing, hturns], by rw [Record.withVerdicts_maskUnchecked, hturns],
    fun y => r.withVerdicts_other vs⟩
  obtain ⟨hverdict, hmark⟩ := State.sampled_zone (s := s1) (x := x) (seen := d) hb hz hv
  refine ⟨fun h => ?_, fun w hk hu hw => ⟨fun h => ?_, fun h => ?_, fun h ha => ?_,
    fun hn hww he => ⟨fun h => ?_, fun h hm => ?_⟩, fun hn hww => ?_⟩⟩
  · have hsame : s1.sampleZone x d z v (s.mask.sampled.getD k false) = (v, s.mask.sampled.getD k false) := by
      rcases h with h | h | h | h
      · exact State.sampleZone_judged (.inl h)
      · exact State.sampleZone_judged (.inr (.inl h))
      · exact State.sampleZone_judged (.inr (.inr h))
      · exact State.sampleZone_noCoat h
    exact ⟨hverdict.trans (by rw [hsame]), hmark.trans (by rw [hsame])⟩
  · exact hmark.trans (congrArg some (State.sampleZone_mark_of_read hk hu hw h))
  · exact hmark.trans (congrArg some (State.sampleZone_mark_of_not_read hk hu hw h))
  · exact hverdict.trans (congrArg some (State.sampleZone_missing hk hu hw h ha))
  · exact hverdict.trans (congrArg some ((State.sampleZone_end hk hu hw hn hww he).1 h))
  · exact hverdict.trans (congrArg some ((State.sampleZone_end hk hu hw hn hww he).2 h hm))
  · exact hverdict.trans (congrArg some (State.sampleZone_waits hk hu hw hn hww))

end Sys2Proof.Machine

end

section

namespace Sys2Proof.Machine

/-! ## The trailing edge (R76, R77, R79) -/

theorem trailingVerdict_eq (n : Nat) (z : BoardZone) (v : Verdict) : trailingVerdict n z v =
    if z.kind = .masked ∧ n < z.x1 ∧ (v = .pending ∨ v = .watching ∨ v = .verified) then .uncheckable else v := by
  unfold trailingVerdict
  cases z.kind <;> cases v <;> simp

theorem Record.bound_withVerdicts (r : Record) (vs : List Verdict) (st : Store) : (r.withVerdicts vs).bound st = r.bound st := by
  simp [Record.bound]

section
variable {s : State} {r : Record} {rc : Recipe} {n : Nat}

theorem State.closeTrailing_eq (s : State) (r : Record) (n : Nat) : s.closeTrailing r n = { r with
    verdicts := (s.zonesOf r).zipWith (trailingVerdict n) r.verdicts
    trav := { r.trav with length := some (BitVec.ofNat 16 n), reasons := (s.closeTrailing r n).trav.reasons } } := by
  unfold State.closeTrailing
  dsimp only
  rw [Record.addReasonIf_eq, Record.withVerdicts_eq]

theorem State.closeTrailing_unbound (h : r.bound s.store = none) : s.closeTrailing r n =
    { r with verdicts := [], trav := { r.trav with length := some (BitVec.ofNat 16 n) } } := by
  unfold State.closeTrailing
  rw [State.zonesOf_unbound h, h, List.zipWith_nil_left]
  dsimp only
  rw [Record.withVerdicts_nil]
  rfl

theorem State.closeTrailing_hasReason (hb : r.bound s.store = some rc) (x : Reason) :
    hasReason (s.closeTrailing r n).trav.reasons x = true ↔ hasReason r.trav.reasons x = true ∨
      x = .maskUnchecked ∧ Turns r.verdicts (s.closeTrailing r n).verdicts .uncheckable ∨
      x = .length ∧ (n < rc.lenMin ∨ rc.lenMax < n) := by
  have hmissing : ¬ Turns r.verdicts ((s.zonesOf r).zipWith (trailingVerdict n) r.verdicts) .missing := by
    rw [turns_zipWith_iff]
    rintro ⟨j, z, v, -, -, hne, hf⟩
    rw [trailingVerdict_eq] at hf
    split at hf
    · cases hf
    · exact hne hf
  rw [State.closeTrailing_eq s r n]
  unfold State.closeTrailing
  dsimp only
  rw [hb, Record.hasReason_addReasonIf, Record.withVerdicts_hasReason]
  simp only [hmissing, false_and, false_or, or_assoc, and_comm, decide_eq_true_eq]

end

/-! ## The count of the trailing edge -/

section
variable {s : State} {r : Record} {rc : Recipe} {x : Int} {n : Nat}

theorem State.not_turns_judged_missing : ¬ Turns r.verdicts ((s.judged x false r).map (·.1)) .missing := by
  rw [State.turns_judged_iff]
  rintro ⟨k, z, w, hz, -, hw, hne, hm⟩
  rw [List.getElem?_map, State.judged_zone hz hw] at hm
  exact hne (State.sampleZone_missing_iff_of_unseen.1 (Option.some.inj hm))

/-- The record closed at the trailing edge, its zones judged at that count. -/
def State.trailed (s : State) (x : Int) (n : Nat) (r : Record) : Record :=
  s.closeTrailing (r.withVerdicts ((s.judged x false r).map (·.1))) n

theorem State.trailed_bound (h : r.bound s.store = some rc) :
    (r.withVerdicts ((s.judged x false r).map (·.1))).bound s.store = some rc := by
  rw [Record.bound_withVerdicts, h]

theorem State.trailed_length : (s.trailed x n r).trav.length = some (BitVec.ofNat 16 n) := by
  rw [State.trailed, State.closeTrailing_eq]

theorem State.trailed_spray : (s.trailed x n r).spray = r.spray := by
  rw [State.trailed, State.closeTrailing_eq, Record.withVerdicts_eq]

theorem State.trailed_recipe : (s.trailed x n r).recipe = r.recipe := by
  rw [State.trailed, State.closeTrailing_recipe, Record.withVerdicts_recipe]

theorem State.trailed_unbound (h : r.bound s.store = none) : (s.trailed x n r).trav.reasons = r.trav.reasons := by
  rw [State.trailed, State.closeTrailing_unbound (by rw [Record.bound_withVerdicts, h]), State.judged_unbound h, List.map_nil,
    Record.withVerdicts_nil]

/-- A zone at the trailing edge: the verdict of the count, and over it that of the close. -/
theorem State.getElem?_trailed (hb : r.bound s.store = some rc) {k : Nat} {u : Verdict} :
    (s.trailed x n r).verdicts[k]? = some u ↔ ∃ z, rc.zones[k]? = some z ∧
      trailingVerdict n z (s.sampleZone x false z (r.verdicts.getD k .pending) (s.mask.sampled.getD k false)).1 = u := by
  rw [State.trailed, State.closeTrailing_eq, State.zonesOf_bound (State.trailed_bound hb), Record.withVerdicts_verdicts]
  simp only [getElem?_zipWith_some, List.getElem?_map, Option.map_eq_some_iff, State.getElem?_judged, State.zonesOf_bound hb]
  constructor
  · rintro ⟨z, -, hz, ⟨-, ⟨z', hz', rfl⟩, rfl⟩, rfl⟩
    obtain rfl := Option.some.inj (hz.symm.trans hz')
    exact ⟨z, hz, rfl⟩
  · rintro ⟨z, hz, rfl⟩
    exact ⟨z, _, hz, ⟨_, ⟨z, hz, rfl⟩, rfl⟩, rfl⟩

theorem State.trailed_zone (hb : r.bound s.store = some rc) {k : Nat} {z : BoardZone} {v : Verdict} (hz : rc.zones[k]? = some z)
    (hv : r.verdicts[k]? = some v) : (s.trailed x n r).verdicts[k]? =
      some (trailingVerdict n z (s.sampleZone x false z v (s.mask.sampled.getD k false)).1) :=
  (State.getElem?_trailed hb).2 ⟨z, hz, by rw [List.getD_eq_getElem?_getD, hv]; rfl⟩

/-- An unjudged or VERIFIED zone that runs past the length ends UNCHECKABLE, at the count or at the close. -/
theorem State.trailed_past (hb : r.bound s.store = some rc) {k : Nat} {z : BoardZone} {v : Verdict} (hz : rc.zones[k]? = some z)
    (hv : r.verdicts[k]? = some v) (hk : z.kind = .masked) (hn : n < z.x1) (h : v = .pending ∨ v = .watching ∨ v = .verified) :
    (s.trailed x n r).verdicts[k]? = some .uncheckable := by
  rw [State.trailed_zone hb hz hv, trailingVerdict_eq]
  have hm : (s.sampleZone x false z v (s.mask.sampled.getD k false)).1 ≠ .missing := by
    rw [Ne, State.sampleZone_missing_iff_of_unseen]
    rintro rfl
    simp at h
  generalize (s.sampleZone x false z v (s.mask.sampled.getD k false)).1 = u at hm
  cases u <;> simp_all

/-- A verdict that neither the count nor the close may change stands. -/
theorem State.trailed_stands (hb : r.bound s.store = some rc) {k : Nat} {z : BoardZone} {v : Verdict} (hz : rc.zones[k]? = some z)
    (hv : r.verdicts[k]? = some v)
    (h : z.kind = .noCoat ∨ v = .missing ∨ v = .uncheckable ∨ v = .verified ∧ z.x1 ≤ n) :
    (s.trailed x n r).verdicts[k]? = some v := by
  have hsame : s.sampleZone x false z v (s.mask.sampled.getD k false) = (v, s.mask.sampled.getD k false) := by
    rcases h with h | h | h | ⟨h, -⟩
    · exact State.sampleZone_noCoat h
    · exact State.sampleZone_judged (.inr (.inl h))
    · exact State.sampleZone_judged (.inr (.inr h))
    · exact State.sampleZone_judged (.inl h)
  rw [State.trailed_zone hb hz hv, hsame, trailingVerdict_eq, if_neg]
  rintro ⟨hk, hn, hw⟩
  rcases h with h | rfl | rfl | ⟨-, h⟩
  · simp [hk] at h
  · simp at hw
  · simp at hw
  · omega

theorem State.trailed_hasReason (hb : r.bound s.store = some rc) (y : Reason) :
    hasReason (s.trailed x n r).trav.reasons y = true ↔ hasReason r.trav.reasons y = true ∨
      y = .maskUnchecked ∧ (Turns r.verdicts ((s.judged x false r).map (·.1)) .uncheckable ∨
        Turns ((s.judged x false r).map (·.1)) (s.trailed x n r).verdicts .uncheckable) ∨
      y = .length ∧ (n < rc.lenMin ∨ rc.lenMax < n) := by
  rw [State.trailed, State.closeTrailing_hasReason (State.trailed_bound hb), Record.withVerdicts_hasReason,
    Record.withVerdicts_verdicts]
  simp only [State.not_turns_judged_missing, false_and, false_or]
  tauto

theorem State.trailed_hasReason_length (hb : r.bound s.store = some rc) :
    hasReason (s.trailed x n r).trav.reasons .length = true ↔
      hasReason r.trav.reasons .length = true ∨ n < rc.lenMin ∨ rc.lenMax < n := by
  simp [State.trailed_hasReason hb]

theorem State.trailed_other (hb : r.bound s.store = some rc) {y : Reason} (hl : y ≠ .length) (hu : y ≠ .maskUnchecked) :
    hasReason (s.trailed x n r).trav.reasons y = hasReason r.trav.reasons y :=
  Bool.eq_iff_iff.2 (by simp [State.trailed_hasReason hb, hl, hu])

/-- A zone that ends UNCHECKABLE and did not stand so brings MASK_UNCHECKED, whichever of the two steps made it so. -/
theorem State.trailed_unchecked (hb : r.bound s.store = some rc) {k : Nat} {v : Verdict} (hv : r.verdicts[k]? = some v)
    (hne : v ≠ .uncheckable) (h : (s.trailed x n r).verdicts[k]? = some .uncheckable) :
    hasReason (s.trailed x n r).trav.reasons .maskUnchecked = true := by
  obtain ⟨z, hz, -⟩ := (State.getElem?_trailed hb).1 h
  have hj : ((s.judged x false r).map (·.1))[k]? = some (s.sampleZone x false z v (s.mask.sampled.getD k false)).1 := by
    rw [List.getElem?_map, State.judged_zone (State.zonesOf_bound hb ▸ hz) hv]
    rfl
  refine (State.trailed_hasReason hb _).2 (.inr (.inl ⟨rfl, ?_⟩))
  by_cases hu : (s.sampleZone x false z v (s.mask.sampled.getD k false)).1 = .uncheckable
  · exact .inl ⟨k, v, hv, hne, hj.trans (congrArg some hu)⟩
  · exact .inr ⟨k, _, hj, hu, h⟩

/-- MASK_UNCHECKED comes with a MASKED zone that ends UNCHECKABLE and did not stand so. -/
theorem State.exists_of_trailed_unchecked (hb : r.bound s.store = some rc)
    (h : hasReason (s.trailed x n r).trav.reasons .maskUnchecked = true) : hasReason r.trav.reasons .maskUnchecked = true ∨
      ∃ (j : Nat) (z : BoardZone) (v : Verdict), rc.zones[j]? = some z ∧ z.kind = .masked ∧
        (s.trailed x n r).verdicts[j]? = some .uncheckable ∧ r.verdicts.getD j .pending = v ∧ v ≠ .uncheckable := by
  rcases (State.trailed_hasReason hb _).1 h with h | ⟨-, h | ⟨k, u, hu, hne, hm⟩⟩ | ⟨h, -⟩
  · exact .inl h
  · obtain ⟨k, z, w, hz, hk, hw, hne, hu⟩ := (State.turns_judged_iff _).1 h
    rw [State.zonesOf_bound hb] at hz
    refine .inr ⟨k, z, w, hz, hk, ?_, by rw [List.getD_eq_getElem?_getD, hw]; rfl, hne⟩
    rw [List.getElem?_map, State.judged_zone (State.zonesOf_bound hb ▸ hz) hw] at hu
    have hzone : (s.sampleZone x false z w (s.mask.sampled.getD k false)).1 = .uncheckable := Option.some.inj hu
    rw [State.trailed_zone hb hz hw, hzone, trailingVerdict_eq, if_neg (by simp)]
  · obtain ⟨z, hz, hf⟩ := (State.getElem?_trailed hb).1 hm
    rw [List.getElem?_map, Option.map_eq_some_iff] at hu
    obtain ⟨p, hp, rfl⟩ := hu
    obtain ⟨z', hz', rfl⟩ := State.getElem?_judged.1 hp
    rw [State.zonesOf_bound hb, hz] at hz'
    obtain rfl := Option.some.inj hz'
    refine .inr ⟨k, z, _, hz, ?_, hm, rfl, fun hv => hne ?_⟩
    · cases hk : z.kind with
      | masked => rfl
      | noCoat => rw [trailingVerdict_eq, if_neg (by simp [hk])] at hf; exact absurd hf hne
    · rw [State.sampleZone_judged (.inr (.inr hv)), hv]
  · cases h

end

/-! ## The four ends of a count in a measurement -/

section
variable {s : State} {q : Position} {r : Record}

theorem State.countForward_below (hx : s.mask.x + 1 ≤ s.mask.high) (d : Bool) :
    s.countForward d = { s with mask := { s.mask with x := s.mask.x + 1 } } := if_pos hx

theorem State.countReverse_near (hx : s.mask.high - (s.mask.x - 1) ≤ 64) :
    s.countReverse = { s with mask := { s.mask with x := s.mask.x - 1 } } := if_neg (by exact not_lt.2 hx)

/-- BROKEN (R78). -/
theorem State.countReverse_broken (hx : 64 < s.mask.high - (s.mask.x - 1)) (hc : s.mask.cand = some q)
    (hr : s.table.get q = some r) : s.countReverse = { s with
      table := s.table.put q (some (s.closeCut r r.trav.length))
      mask := { s.mask with phase := .closed, x := s.mask.x - 1 } } :=
  (if_pos hx).trans (State.closeWith_at (s := { s with mask := { s.mask with x := s.mask.x - 1 } }) hc hr _)

/-- OVERRUN (R78). -/
theorem State.countForward_overrun (hx : s.mask.high < s.mask.x + 1) (ho : s.mask.x + 1 = 8192) (hc : s.mask.cand = some q)
    (hr : s.table.get q = some r) (d : Bool) : s.countForward d = { s with
      table := s.table.put q (some (s.closeCut r (some 8191)))
      mask := { s.mask with phase := .closed } } := by
  unfold State.countForward
  dsimp only
  rw [if_neg (by omega), if_pos ho]
  exact State.closeWith_at hc hr _

/-- The trailing edge: the sampled zones, then the close over them. -/
theorem State.countForward_trailed (hx : s.mask.high < s.mask.x + 1) (ho : s.mask.x + 1 ≠ 8192) (ha : s.mask.accepted = some true)
    (hl : s.mask.lastSample = some false) (hc : s.mask.cand = some q) (hr : s.table.get q = some r) :
    s.countForward false = { s with
      table := s.table.put q (some (s.trailed (s.mask.x + 1) s.mask.x.toNat r))
      mask := { s.mask with
        phase := .closed
        x := s.mask.x + 1
        high := s.mask.x + 1
        lastSample := some false
        accepted := some false
        sampled := (s.judged (s.mask.x + 1) false r).map (·.2) } } := by
  rw [State.countForward_trailing hx ho ha hl, State.sampleZones_at (q := q) (r := r) (by exact hc) (by exact hr),
    State.trailingEdge, add_sub_cancel_right]
  refine (State.closeWith_at (q := q) (by exact hc) (PerPos.get_put_self _ _ _) _).trans ?_
  rw [PerPos.put_put]
  rfl

end

/-- Settles O25: x alone below the high mark, the closes without a trailing edge by one record, and the trailing edge. -/
theorem measurementCountsAndCloses : Obligations.MeasurementCountsAndCloses := by
  intro s q r ht hp hc hr
  have hforward (d : Bool) : exec (.transportEncoderCount .forward d) s = .next (s.countForward d) := by
    rw [State.exec_transportEncoderCount ht, State.transportCount_forward hp]
  have hreverse (d : Bool) : exec (.transportEncoderCount .reverse d) s = .next s.countReverse := by
    rw [State.exec_transportEncoderCount ht, State.transportCount_reverse hp]
  refine ⟨fun d hx => ?_, fun d hx => ?_, ?_, fun hx ho h0 ha hl => ?_⟩
  · rw [hforward, State.countForward_below hx]
  · rw [hreverse, State.countReverse_near hx]
  · rintro c dir d x len hcase rfl
    refine ⟨s.closeCut r len, ?_, by rw [State.closeCut_eq], by rw [State.closeCut_eq], State.closeCut_recipe _ _ _,
      fun hi => State.closeCut_length hi _, fun hn => by rw [State.closeCut_no_recipe _ _ _ hn],
      fun rc hb => ⟨fun j z v => State.closeCut_verdict hb len, State.closeCut_maskUnchecked hb len,
        fun y => State.closeCut_other len⟩⟩
    rcases hcase with ⟨rfl, hx, rfl, rfl⟩ | ⟨rfl, hx, ho, rfl, rfl⟩
    · rw [hreverse, State.countReverse_broken hx hc hr]
    · rw [hforward, State.countForward_overrun hx ho hc hr]
  · have hn : ((s.mask.x.toNat : Nat) : Int) = s.mask.x := Int.toNat_of_nonneg h0
    refine ⟨s.trailed (s.mask.x + 1) s.mask.x.toNat r, _, (hforward false).trans
      (congrArg _ (State.countForward_trailed hx ho ha hl hc hr)), rfl, ?_, State.trailed_spray, State.trailed_recipe,
      State.trailed_unbound, fun rc hb => ⟨?_, fun j z v hz hv => ⟨fun hk hlt h => ?_, fun h => ?_⟩,
        State.exists_of_trailed_unchecked hb, fun y => State.trailed_other hb⟩⟩
    · rw [State.trailed_length, ← BitVec.ofInt_natCast, hn]
    · rw [State.trailed_hasReason_length hb]
      exact or_congr_right (by omega)
    · have hu := State.trailed_past (s := s) (x := s.mask.x + 1) hb hz hv hk (n := s.mask.x.toNat) (by omega) h
      exact ⟨hu, State.trailed_unchecked hb hv (by rintro rfl; simp at h) hu⟩
    · exact State.trailed_stands hb hz hv (h.imp_right (.imp_right (.imp_right (.imp_right (by omega)))))

end Sys2Proof.Machine

end

section

namespace Sys2Proof.Machine

/-! ## The zones at the opening count (R70) -/

/-- A zone that no channel can check, or that is too narrow for its window (R70). -/
def State.barred (s : State) (z : BoardZone) : Prop :=
  (∀ c : Fin 32, qualifies s.cfg z c.val = false) ∨ (z.x1 : Int) - z.x0 ≤ 2 * s.cfg.inset

/-- The record whose zones are classified at the opening count (R70). -/
def State.classified (s : State) (r : Record) : Record := r.withVerdicts ((s.zonesOf r).zipWith s.openVerdict r.verdicts)

/-- The zones at the opening count: classified, and then judged at x = 1 with no mark set. -/
def State.openZones (s : State) (r : Record) : List (Verdict × Bool) :=
  State.judged { s with mask := { s.mask with sampled := (s.zonesOf r).map fun _ => false } } 1 true (s.classified r)

/-- The record at the end of the opening count. -/
def State.opened (s : State) (r : Record) : Record := (s.classified r).withVerdicts ((s.openZones r).map (·.1))

section
variable {s : State} {r : Record} {rc : Recipe} {z : BoardZone} {v : Verdict} {k : Nat}

theorem State.barred_iff :
    ((channels.all fun k => !qualifies s.cfg z k.val) = true ∨ (z.x1 : Int) - z.x0 ≤ 2 * s.cfg.inset) ↔ s.barred z := by
  simp [State.barred, channels]

theorem State.openVerdict_noCoat (h : z.kind = .noCoat) : s.openVerdict z v = v := by
  simp [State.openVerdict, h]

theorem State.openVerdict_barred (hk : z.kind = .masked) (h : s.barred z) : s.openVerdict z v = .uncheckable := by
  unfold State.openVerdict
  rw [hk]
  exact if_pos (State.barred_iff.2 h)

theorem State.openVerdict_checkable (h : ¬ s.barred z) : s.openVerdict z v = v := by
  unfold State.openVerdict
  cases z.kind with
  | noCoat => rfl
  | masked => exact if_neg (mt State.barred_iff.1 h)

theorem State.openVerdict_cases (s : State) (z : BoardZone) (v : Verdict) :
    s.openVerdict z v = v ∨ z.kind = .masked ∧ s.openVerdict z v = .uncheckable := by
  cases hk : z.kind with
  | noCoat => exact .inl (State.openVerdict_noCoat hk)
  | masked =>
    by_cases h : s.barred z
    · exact .inr ⟨rfl, State.openVerdict_barred hk h⟩
    · exact .inl (State.openVerdict_checkable h)

theorem State.classified_bound (st : Store) : (s.classified r).bound st = r.bound st := Record.bound_withVerdicts _ _ _

theorem State.zonesOf_classified : s.zonesOf (s.classified r) = s.zonesOf r := by
  simp only [State.zonesOf, State.classified_bound]

theorem State.getElem?_classified {y : Verdict} (hz : (s.zonesOf r)[k]? = some z) :
    (s.classified r).verdicts[k]? = some y ↔ ∃ v, r.verdicts[k]? = some v ∧ s.openVerdict z v = y := by
  rw [State.classified, Record.withVerdicts_verdicts, getElem?_zipWith_some]
  simp [hz]

/-- What the opening count gives a zone that holds a verdict. -/
theorem State.openZones_zone (hz : (s.zonesOf r)[k]? = some z) (hv : r.verdicts[k]? = some v) :
    (s.openZones r)[k]? = some (s.sampleZone 1 true z (s.openVerdict z v) false) := by
  have hmark : ((s.zonesOf r).map fun _ => false).getD k false = false := by
    rw [List.getD_eq_getElem?_getD, List.getElem?_map, hz]
    rfl
  have hclass : (s.classified r).verdicts[k]? = some (s.openVerdict z v) := (State.getElem?_classified hz).2 ⟨v, hv, rfl⟩
  refine (State.judged_zone (s := { s with mask := _ }) (State.zonesOf_classified ▸ hz) hclass).trans ?_
  dsimp only
  rw [hmark]
  rfl

/-- A verdict that the classification gives stands through the sampling. -/
theorem State.openZones_judged (hz : (s.zonesOf r)[k]? = some z) (hv : r.verdicts[k]? = some v)
    (h : s.openVerdict z v = .verified ∨ s.openVerdict z v = .missing ∨ s.openVerdict z v = .uncheckable) :
    (s.openZones r)[k]? = some (s.openVerdict z v, false) := by
  rw [State.openZones_zone hz hv, State.sampleZone_judged h]

theorem State.opened_verdicts : (s.opened r).verdicts = (s.openZones r).map (·.1) := Record.withVerdicts_verdicts _ _

theorem State.opened_eq (s : State) (r : Record) : s.opened r =
    { r with verdicts := (s.opened r).verdicts, trav := { r.trav with reasons := (s.opened r).trav.reasons } } := by
  rw [State.opened_verdicts]
  unfold State.opened
  rw [Record.withVerdicts_eq]
  unfold State.classified
  rw [Record.withVerdicts_eq r]

theorem State.openZones_unbound (h : r.bound s.store = none) : s.openZones r = [] :=
  State.judged_unbound (by rw [State.classified_bound]; exact h)

theorem State.opened_unbound (h : r.bound s.store = none) : s.opened r = { r with verdicts := [] } := by
  rw [State.opened, State.openZones_unbound h, List.map_nil, Record.withVerdicts_nil, State.classified, State.zonesOf_unbound h,
    List.zipWith_nil_left, Record.withVerdicts_nil]

/-- A MASKED zone that did not have the verdict has it after the opening count. -/
def State.opensAs (s : State) (r : Record) (u : Verdict) : Prop :=
  ∃ (k : Nat) (z : BoardZone) (w : Verdict), (s.zonesOf r)[k]? = some z ∧ z.kind = .masked ∧ r.verdicts[k]? = some w ∧ w ≠ u ∧
    (s.opened r).verdicts[k]? = some u

/-- A zone becomes MISSING or UNCHECKABLE in the classification or in the sampling, and neither takes such a verdict back. -/
theorem State.turns_opened_iff {u : Verdict} (hu : u = .missing ∨ u = .uncheckable) :
    Turns r.verdicts (s.classified r).verdicts u ∨ Turns (s.classified r).verdicts ((s.openZones r).map (·.1)) u ↔
      s.opensAs r u := by
  have hends {k : Nat} {z : BoardZone} {w : Verdict} (hz : (s.zonesOf r)[k]? = some z) (hw : r.verdicts[k]? = some w)
      (h : s.openVerdict z w = .missing ∨ s.openVerdict z w = .uncheckable) :
      ((s.openZones r).map (·.1))[k]? = some (s.openVerdict z w) := by
    rw [List.getElem?_map, State.openZones_judged hz hw (.inr h)]
    rfl
  unfold State.opensAs
  rw [State.opened_verdicts]
  constructor
  · rintro (h | h)
    · rw [State.classified, Record.withVerdicts_verdicts, turns_zipWith_iff] at h
      obtain ⟨k, z, w, hz, hw, hne, ho⟩ := h
      have hk : z.kind = .masked := (s.openVerdict_cases z w).elim (fun h => absurd (h.symm.trans ho) hne) (·.1)
      exact ⟨k, z, w, hz, hk, hw, hne, (hends hz hw (ho ▸ hu)).trans (congrArg some ho)⟩
    · obtain ⟨k, z, y, hz, hk, hy, hne, hm⟩ := (State.turns_judged_iff (s := { s with mask := _ }) u).1 h
      replace hz : (s.zonesOf r)[k]? = some z := State.zonesOf_classified ▸ hz
      obtain ⟨w, hw, rfl⟩ := (State.getElem?_classified hz).1 hy
      refine ⟨k, z, w, hz, hk, hw, ?_, hm⟩
      rintro rfl
      have ho : s.openVerdict z w = .uncheckable := (s.openVerdict_cases z w).elim (fun h => absurd h hne) (·.2)
      exact hne (Option.some.inj ((hends hz hw (.inr ho)).symm.trans hm))
  · rintro ⟨k, z, w, hz, -, hw, hne, hm⟩
    have hy : (s.classified r).verdicts[k]? = some (s.openVerdict z w) := (State.getElem?_classified hz).2 ⟨w, hw, rfl⟩
    by_cases ho : s.openVerdict z w = u
    · exact .inl ⟨k, w, hw, hne, hy.trans (congrArg some ho)⟩
    · exact .inr ⟨k, _, hy, ho, hm⟩

theorem State.opened_maskMissing : hasReason (s.opened r).trav.reasons .maskMissing = true ↔
    hasReason r.trav.reasons .maskMissing = true ∨ s.opensAs r .missing := by
  rw [← State.turns_opened_iff (.inl rfl), State.opened, Record.withVerdicts_maskMissing]
  conv_lhs => rw [State.classified, Record.withVerdicts_maskMissing, or_assoc]
  simp only [State.classified, Record.withVerdicts_verdicts]

theorem State.opened_maskUnchecked : hasReason (s.opened r).trav.reasons .maskUnchecked = true ↔
    hasReason r.trav.reasons .maskUnchecked = true ∨ s.opensAs r .uncheckable := by
  rw [← State.turns_opened_iff (.inr rfl), State.opened, Record.withVerdicts_maskUnchecked]
  conv_lhs => rw [State.classified, Record.withVerdicts_maskUnchecked, or_assoc]
  simp only [State.classified, Record.withVerdicts_verdicts]

theorem State.opened_other {y : Reason} (hm : y ≠ .maskMissing) (hu : y ≠ .maskUnchecked) :
    hasReason (s.opened r).trav.reasons y = hasReason r.trav.reasons y :=
  (Record.withVerdicts_other _ _ hm hu).trans (Record.withVerdicts_other _ _ hm hu)

end

/-! ## Counts outside a measurement (R69) -/

section
variable {s : State} {q : Position} {r : Record}

theorem State.transportCount_outside (hp : s.mask.phase ≠ .measuring) (d : Bool) :
    s.transportCount .reverse d = s ∧ s.transportCount .forward d = s.countOutside d := by
  unfold State.transportCount
  cases h : s.mask.phase with
  | measuring => exact absurd h hp
  | idle => exact ⟨rfl, rfl⟩
  | armed => exact ⟨rfl, rfl⟩
  | closed => exact ⟨rfl, rfl⟩

/-- A count that does not bring the leading edge samples the datum alone. -/
theorem State.countOutside_samples {d : Bool}
    (h : ¬ (s.mask.phase = .armed ∧ s.mask.accepted = some false ∧ s.mask.lastSample = some true ∧ d = true)) :
    s.countOutside d = { s with mask := { s.mask with
      lastSample := some d
      accepted := if s.mask.lastSample = some d then some d else s.mask.accepted } } := by
  refine if_neg fun ⟨hp, ha, he⟩ => h ⟨hp, ha, ?_⟩
  simp only [MaskChecker.sampleDatum, ha] at he
  split at he
  next hl => obtain rfl := Option.some.inj he; exact ⟨hl, rfl⟩
  · cases he

/-- The leading edge: the candidate's zones are classified and judged at x = 1. -/
theorem State.countOutside_opens (hp : s.mask.phase = .armed) (ha : s.mask.accepted = some false)
    (hl : s.mask.lastSample = some true) (hc : s.mask.cand = some q) (hr : s.table.get q = some r) :
    s.countOutside true = { s with
      table := s.table.put q (some (s.opened r))
      mask := { s.mask with
        phase := .measuring
        x := 1
        high := 1
        lastSample := some true
        accepted := some true
        sampled := (s.openZones r).map (·.2) } } := by
  let s0 : State := { s with mask := { s.mask with
    phase := .measuring, x := 1, high := 1, lastSample := some true, accepted := some true } }
  have hdatum : s.mask.sampleDatum true = { s.mask with lastSample := some true, accepted := some true } := by
    rw [MaskChecker.sampleDatum, if_pos hl]
  have hopen : s.countOutside true = s0.classify.sampleZones 1 true := by
    unfold State.countOutside
    rw [hdatum]
    exact if_pos ⟨hp, ha, rfl⟩
  have hclass : s0.classify = { s0 with
      table := s.table.put q (some (s.classified r))
      mask := { s0.mask with sampled := (s.zonesOf r).map fun _ => false } } := by
    unfold State.classify
    rw [State.candidate_at (s := s0) hc hr]
    dsimp only
    rw [State.setCandidate_at (s := s0) hc]
    rfl
  rw [hopen, hclass, State.sampleZones_at (q := q) (r := s.classified r) (by exact hc) (PerPos.get_put_self _ _ _)]
  simp only [PerPos.put_put]
  rfl

end

/-- Settles O24: a count that samples the datum alone, and the opening by its classification and its sampling. -/
theorem datumSampledOutsideMeasurement : Obligations.DatumSampledOutsideMeasurement := by
  refine ⟨qualifies_iff, fun s d ht hp => ⟨?_, fun h => ?_⟩, fun s q r ht hp ha hl hc hr => ?_, fun s d e _ hs => ?_,
    fun s k b hl => ?_⟩
  · rw [State.exec_transportEncoderCount ht, (State.transportCount_outside hp d).1]
  · rw [State.exec_transportEncoderCount ht, (State.transportCount_outside hp d).2, State.countOutside_samples h]
  · refine ⟨_, s.opened r, by rw [State.exec_transportEncoderCount ht, (State.transportCount_outside (by simp [hp]) true).2,
      State.countOutside_opens hp ha hl hc hr], rfl, s.opened_eq r,
      fun hb => ⟨State.opened_unbound hb, by dsimp only; rw [State.openZones_unbound hb]; rfl⟩, ?_⟩
    intro rc hb became
    have hzones : s.zonesOf r = rc.zones := State.zonesOf_bound hb
    refine ⟨fun k z v hz hv => ?_, by rw [State.opened_maskMissing, State.opensAs, hzones],
      by rw [State.opened_maskUnchecked, State.opensAs, hzones], fun y => State.opened_other⟩
    have hzone {p : Verdict × Bool} (h : s.sampleZone 1 true z (s.openVerdict z v) false = p) :
        (s.opened r).verdicts[k]? = some p.1 ∧ ((s.openZones r).map (·.2))[k]? = some p.2 := by
      rw [State.opened_verdicts, List.getElem?_map, List.getElem?_map, State.openZones_zone (hzones ▸ hz) hv, h]
      exact ⟨rfl, rfl⟩
    intro starts ends barred absent
    refine ⟨fun hk => ?_, fun hk h => ?_, fun hk h hj => ?_, fun w hk h hu hw => ?_⟩
    · exact hzone ((State.sampleZone_noCoat hk).trans (by rw [State.openVerdict_noCoat hk]))
    · have ho : s.openVerdict z v = .uncheckable := State.openVerdict_barred hk h
      exact hzone (by rw [ho, State.sampleZone_judged (.inr (.inr rfl))])
    · have ho : s.openVerdict z v = v := State.openVerdict_checkable h
      exact hzone (by rw [ho, State.sampleZone_judged hj])
    · have ho : s.openVerdict z v = v := State.openVerdict_checkable h
      obtain ⟨hverdict, hmark⟩ := hzone rfl
      rw [ho] at hverdict hmark
      have hw' : w = if v = .pending ∧ (1 : Int) = (z.x0 : Int) + s.cfg.inset then .watching else v := by
        rw [hw]
        simp only [starts, eq_comm]
      refine ⟨fun hd => ?_, fun hd => ?_, fun hd habs => ?_,
        fun hn hww he => ⟨fun hd => ?_, fun hd => ?_⟩, fun hn hww => ?_⟩
      · exact hmark.trans (congrArg some (State.sampleZone_mark_of_read hk hu hw' ⟨rfl, hd⟩))
      · exact hmark.trans (congrArg some (State.sampleZone_mark_of_not_read hk hu hw' fun h => hd h.2))
      · exact hverdict.trans (congrArg some (State.sampleZone_missing hk hu hw' ⟨rfl, hd⟩ habs))
      · exact hverdict.trans (congrArg some
          ((State.sampleZone_end hk hu hw' (fun h => hn ⟨h.1.2, h.2⟩) hww he.symm).1 (.inl ⟨rfl, hd⟩)))
      · exact hverdict.trans (congrArg some
          ((State.sampleZone_end hk hu hw' (fun h => hn ⟨h.1.2, h.2⟩) hww he.symm).2 (fun h => hd h.2) rfl))
      · exact hverdict.trans (congrArg some
          (State.sampleZone_waits hk hu hw' (fun h => hn ⟨h.1.2, h.2⟩) (hww.imp_right Ne.symm)))
  · show Host.Outcome.next (s.when s.tracking _) = _
    rw [show s.tracking = false by simp [State.tracking, hs], State.when_false]
  · show Host.Outcome.next (s.live _) = _
    rw [State.live_of_loaded hl]
    rfl

end Sys2Proof.Machine

end

section

namespace Sys2Proof.Machine

/-! ## What a zone shuts for a valve (R89) -/

/-- A zone of the recipe shuts an x of a segment: a NO_COAT zone, and where `masked` holds also a MASKED zone that is not
VERIFIED, widened by its guard (R89, R91). -/
def Recipe.shuts (c : CellCfg) (rc : Recipe) (vs : List Verdict) (masked : Bool) (g : Segment) (k x : Nat) : Prop :=
  g.xOpen ≤ x ∧ x < g.xClose ∧ ∃ z gd, rc.zones[k]? = some z ∧
    (z.kind = .noCoat ∧ gd = rc.clearance ∨
      masked = true ∧ z.kind = .masked ∧ vs.getD k .pending ≠ .verified ∧ gd = rc.clearance + c.maskGuard) ∧
    2 * (c.valveY0 + g.valve * c.valvePitch : Int) - c.swath ≤ 2 * ((z.y1 : Int) + gd) ∧
    2 * ((z.y0 : Int) - gd) ≤ 2 * (c.valveY0 + g.valve * c.valvePitch : Int) + c.swath ∧
    (z.x0 : Int) - gd ≤ (x : Int) ∧ (x : Int) ≤ (z.x1 : Int) + gd

section
variable {c : CellCfg} {clearance valve k : Nat} {z : BoardZone} {v : Verdict} {e : Exclusion}

theorem zoneGuard_eq_some {clearance maskGuard gd : Nat} : zoneGuard clearance maskGuard z v = some gd ↔
    z.kind = .noCoat ∧ gd = clearance ∨ z.kind = .masked ∧ v ≠ .verified ∧ gd = clearance + maskGuard := by
  unfold zoneGuard
  cases z.kind <;> cases v <;> simp [eq_comm]

theorem bandTouches_iff (c : CellCfg) (valve : Nat) (z : BoardZone) (gd : Nat) : bandTouches c valve z gd = true ↔
    2 * (c.valveY0 + valve * c.valvePitch : Int) - c.swath ≤ 2 * ((z.y1 : Int) + gd) ∧
      2 * ((z.y0 : Int) - gd) ≤ 2 * (c.valveY0 + valve * c.valvePitch : Int) + c.swath := by
  simp only [bandTouches, Bool.and_eq_true, decide_eq_true_eq]
  rw [valveCentre2]
  push_cast
  rfl

theorem exclusionOf_eq_some : exclusionOf c clearance valve k z v = some e ↔ ∃ gd, zoneGuard clearance c.maskGuard z v = some gd ∧
    bandTouches c valve z gd = true ∧
    e = { lo := (z.x0 : Int) - gd, hi := (z.x1 : Int) + gd, zone := k, noCoat := z.kind == .noCoat } := by
  unfold exclusionOf
  cases zoneGuard clearance c.maskGuard z v with
  | none => simp
  | some gd =>
    simp only [Option.some.injEq, exists_eq_left', Option.ite_none_right_eq_some]
    rw [eq_comm (a := e)]

theorem mem_exclusionsFrom {zs : List BoardZone} {vs : List Verdict} : e ∈ exclusionsFrom c clearance valve k zs vs ↔
    ∃ i z, zs[i]? = some z ∧ exclusionOf c clearance valve (k + i) z (vs.getD i .pending) = some e := by
  induction zs generalizing k vs with
  | nil => simp [exclusionsFrom]
  | cons z zs ih =>
    rw [exclusionsFrom, List.mem_append, Option.mem_toList, ih]
    have hhead : vs.headD .pending = vs.getD 0 .pending := by cases vs <;> rfl
    have htail (i : Nat) : vs.tail.getD i .pending = vs.getD (i + 1) .pending := by cases vs <;> rfl
    constructor
    · rintro (h | ⟨i, y, hy, h⟩)
      · exact ⟨0, z, rfl, hhead ▸ h⟩
      · exact ⟨i + 1, y, hy, by rw [← htail, ← Nat.add_assoc, Nat.add_right_comm]; exact h⟩
    · rintro ⟨i | i, y, hy, h⟩
      · obtain rfl := Option.some.inj hy
        exact .inl (hhead ▸ h)
      · exact .inr ⟨i, y, hy, by rw [htail, Nat.add_right_comm, Nat.add_assoc]; exact h⟩

/-- The exclusions of a valve stand in the order of their zones. -/
theorem pairwise_exclusionsFrom (zs : List BoardZone) (vs : List Verdict) :
    (exclusionsFrom c clearance valve k zs vs).Pairwise fun a b => a.zone < b.zone := by
  induction zs generalizing k vs with
  | nil => exact .nil
  | cons z zs ih =>
    refine List.pairwise_append.2 ⟨?_, ih _, fun a ha b hb => ?_⟩
    · cases exclusionOf c clearance valve k z (vs.headD .pending) <;> simp
    · obtain ⟨gd, -, -, rfl⟩ := exclusionOf_eq_some.1 (Option.mem_toList.1 ha)
      obtain ⟨i, y, -, hy⟩ := mem_exclusionsFrom.1 hb
      obtain ⟨gd', -, -, rfl⟩ := exclusionOf_eq_some.1 hy
      show k < k + 1 + i
      omega

end

/-- An x of a segment lies in an exclusion. -/
def Segment.shares (g : Segment) (e : Exclusion) (x : Nat) : Prop :=
  g.xOpen ≤ x ∧ x < g.xClose ∧ e.lo ≤ (x : Int) ∧ (x : Int) ≤ e.hi

/-- The exclusions of a valve, or those by NO_COAT zones alone. -/
def clipping (c : CellCfg) (rc : Recipe) (vs : List Verdict) (masked : Bool) (valve : Nat) : List Exclusion :=
  (exclusions c rc vs valve).filter fun e => masked || e.noCoat

theorem clipping_true (c : CellCfg) (rc : Recipe) (vs : List Verdict) (valve : Nat) :
    clipping c rc vs true valve = exclusions c rc vs valve := by
  simp [clipping]

theorem clipping_false (c : CellCfg) (rc : Recipe) (vs : List Verdict) (valve : Nat) :
    clipping c rc vs false valve = (exclusions c rc vs valve).filter (·.noCoat) := by
  simp [clipping]

/-- A zone shuts an x exactly where one of the exclusions it makes holds the x. -/
theorem Recipe.shuts_iff {c : CellCfg} {rc : Recipe} {vs : List Verdict} {masked : Bool} {g : Segment} {k x : Nat} :
    rc.shuts c vs masked g k x ↔ ∃ e ∈ clipping c rc vs masked g.valve, e.zone = k ∧ g.shares e x := by
  simp only [clipping, List.mem_filter, exclusions, mem_exclusionsFrom, Nat.zero_add, exclusionOf_eq_some, zoneGuard_eq_some,
    bandTouches_iff, Recipe.shuts, Segment.shares]
  constructor
  · rintro ⟨ho, hc, z, gd, hz, hk, hy1, hy0, hlo, hhi⟩
    refine ⟨_, ⟨⟨k, z, hz, gd, hk.imp_right (·.2), ⟨hy1, hy0⟩, rfl⟩, ?_⟩, rfl, ho, hc, hlo, hhi⟩
    rcases hk with ⟨hk, -⟩ | ⟨hm, -⟩
    · simp [hk]
    · simp [hm]
  · rintro ⟨e, ⟨⟨i, z, hz, gd, hk, ⟨hy1, hy0⟩, rfl⟩, hm⟩, rfl, ho, hc, hlo, hhi⟩
    refine ⟨ho, hc, z, gd, hz, hk.imp_right fun h => ⟨?_, h⟩, hy1, hy0, hlo, hhi⟩
    simpa [h.1] using hm

/-! ## The clip of a segment (R91) -/

/-- The lowest number with a property, if there is one. -/
def LowestOf (P : Nat → Prop) : Option Nat → Prop
  | none => ∀ y, ¬ P y
  | some x => P x ∧ ∀ y, P y → x ≤ y

theorem lowestOf_lowerOf {P Q : Nat → Prop} {a b : Option Nat} (ha : LowestOf P a) (hb : LowestOf Q b) :
    LowestOf (fun y => P y ∨ Q y) (lowerOf a b) := by
  cases a with
  | none =>
    have h : (fun y => P y ∨ Q y) = Q := funext fun y => by simp [ha y]
    rw [h]
    exact hb
  | some x =>
    cases b with
    | none =>
      have h : (fun y => P y ∨ Q y) = P := funext fun y => by simp [hb y]
      rw [h]
      exact ha
    | some y =>
      refine ⟨?_, fun n hn => hn.elim (fun h => (min_le_left x y).trans (ha.2 n h))
        fun h => (min_le_right x y).trans (hb.2 n h)⟩
      rcases min_choice x y with h | h
      · rw [h]; exact .inl ha.1
      · rw [h]; exact .inr hb.1

section
variable {g : Segment}

theorem lowestOf_firstShared (e : Exclusion) : LowestOf (g.shares e) (firstShared g e) := by
  unfold firstShared
  dsimp only
  split
  next h =>
    obtain ⟨hi, hc⟩ := h
    exact ⟨⟨by omega, by omega, by omega, by omega⟩, fun y ⟨ho, _, hl, _⟩ => by omega⟩
  next h => exact fun y ⟨ho, hc, hl, hi⟩ => h ⟨by omega, by omega⟩

theorem lowestOf_lowestShared (es : List Exclusion) : LowestOf (fun y => ∃ e ∈ es, g.shares e y) (lowestShared g es) := by
  have hfold (l : List Exclusion) : ∀ (P : Nat → Prop) (m : Option Nat), LowestOf P m →
      LowestOf (fun y => P y ∨ ∃ e ∈ l, g.shares e y) (l.foldl (fun m e => lowerOf m (firstShared g e)) m) := by
    induction l with
    | nil => intro P m h; simpa using h
    | cons e l ih =>
      intro P m h
      simpa [or_assoc] using ih _ _ (lowestOf_lowerOf h (lowestOf_firstShared e))
  simpa [lowestShared] using hfold es (fun _ => False) none fun _ => id

/-- Where exclusions in zone order hold an x, the lowest zone is named. -/
theorem zoneAt_lowest {es : List Exclusion} (hes : es.Pairwise fun a b => a.zone < b.zone) {x : Nat} {e : Exclusion} (he : e ∈ es)
    (hx : e.holds x = true) : (∃ d ∈ es, d.zone = zoneAt es x ∧ d.holds x = true) ∧
      ∀ d ∈ es, d.holds x = true → zoneAt es x ≤ d.zone := by
  obtain ⟨d, hd⟩ := Option.isSome_iff_exists.1 (List.find?_isSome (p := fun d => d.holds x).2 ⟨e, he, hx⟩)
  have hzone : zoneAt es x = d.zone := by simp [zoneAt, hd]
  obtain ⟨hholds, before, after, rfl, hbefore⟩ := List.find?_eq_some_iff_append.1 hd
  rw [hzone]
  refine ⟨⟨d, by simp, rfl, hholds⟩, fun b hb hbx => ?_⟩
  rcases List.mem_append.1 hb with h | h
  · exact absurd hbx (by simpa using hbefore b h)
  · rcases List.mem_cons.1 h with rfl | h
    · exact le_rfl
    · exact (List.rel_of_pairwise_cons (List.pairwise_append.1 hes).2.1 h).le

theorem Exclusion.holds_iff (e : Exclusion) (x : Nat) : e.holds x = true ↔ e.lo ≤ (x : Int) ∧ (x : Int) ≤ e.hi := by
  simp [Exclusion.holds]

theorem clipOf_eq_none {es : List Exclusion} : clipOf g es = none ↔ ∀ e ∈ es, ∀ x, ¬ g.shares e x := by
  have h := lowestOf_lowestShared (g := g) es
  rw [clipOf, Option.map_eq_none_iff]
  cases hm : lowestShared g es with
  | none =>
    rw [hm] at h
    exact ⟨fun _ e he x hx => h x ⟨e, he, hx⟩, fun _ => rfl⟩
  | some x =>
    rw [hm] at h
    obtain ⟨⟨e, he, hx⟩, -⟩ := h
    exact ⟨nofun, fun h => absurd hx (h e he x)⟩

/-- A clip names the valve, the lowest x that is shut and the lowest zone that shuts it. -/
theorem clipOf_eq_some {es : List Exclusion} (hes : es.Pairwise fun a b => a.zone < b.zone) {f : FirstClip}
    (hf : clipOf g es = some f) :
    f.valve = g.valve ∧ (∃ e ∈ es, e.zone = f.zone ∧ g.shares e f.x) ∧
      ∀ e ∈ es, ∀ x, g.shares e x → f.x ≤ x ∧ (x = f.x → f.zone ≤ e.zone) := by
  obtain ⟨x, hx, rfl⟩ := Option.map_eq_some_iff.1 hf
  have h := lowestOf_lowestShared (g := g) es
  rw [hx] at h
  obtain ⟨⟨e, he, ho, hc, hin⟩, hlow⟩ := h
  obtain ⟨⟨d, hd, hdz, hdx⟩, hzone⟩ := zoneAt_lowest hes he ((Exclusion.holds_iff e x).2 hin)
  refine ⟨rfl, ⟨d, hd, hdz, ho, hc, (Exclusion.holds_iff d x).1 hdx⟩, fun b hb y hy => ⟨hlow y ⟨b, hb, hy⟩, ?_⟩⟩
  rintro rfl
  exact hzone b hb ((Exclusion.holds_iff b _).2 hy.2.2)

end

/-! ## The clips of a recipe (R91) -/

section
variable {c : CellCfg} {rc : Recipe} {vs : List Verdict} {masked : Bool} {g : Segment}

theorem pairwise_clipping (valve : Nat) : (clipping c rc vs masked valve).Pairwise fun a b => a.zone < b.zone :=
  (pairwise_exclusionsFrom rc.zones vs).filter _

theorem clipOf_clipping_eq_none : clipOf g (clipping c rc vs masked g.valve) = none ↔ ∀ k x, ¬ rc.shuts c vs masked g k x := by
  simp only [clipOf_eq_none, Recipe.shuts_iff]
  exact ⟨fun h k x ⟨e, he, _, hx⟩ => h e he x hx, fun h e he x hx => h e.zone x ⟨e, he, rfl, hx⟩⟩

/-- The lowest-index segment that shares an x with an exclusion, and its clip. -/
def Recipe.lowestClip (c : CellCfg) (rc : Recipe) (vs : List Verdict) (masked : Bool) (j : Nat) (f : FirstClip) : Prop :=
  ∃ g, rc.segments[j]? = some g ∧ f.valve = g.valve ∧ rc.shuts c vs masked g f.zone f.x ∧
    (∀ k x, rc.shuts c vs masked g k x → f.x ≤ x ∧ (x = f.x → f.zone ≤ k)) ∧
    ∀ (i : Nat) h k x, i < j → rc.segments[i]? = some h → ¬ rc.shuts c vs masked h k x

theorem Recipe.lowestClip_of_first {j : Nat} {f : FirstClip} (hg : rc.segments[j]? = some g)
    (hf : clipOf g (clipping c rc vs masked g.valve) = some f)
    (hlow : ∀ (i : Nat) h, i < j → rc.segments[i]? = some h → clipOf h (clipping c rc vs masked h.valve) = none) :
    rc.lowestClip c vs masked j f := by
  obtain ⟨hv, ⟨e, he, hez, hex⟩, hleast⟩ := clipOf_eq_some (pairwise_clipping _) hf
  refine ⟨g, hg, hv, Recipe.shuts_iff.2 ⟨e, he, hez, hex⟩, fun k x h => ?_, fun i h k x hi hh =>
    clipOf_clipping_eq_none.1 (hlow i h hi hh) k x⟩
  obtain ⟨d, hd, rfl, hx⟩ := Recipe.shuts_iff.1 h
  exact hleast d hd x hx

/-- The clips stand for the segments that share an x with an exclusion, one for each. -/
theorem clipsOf_length {f : Segment → Option FirstClip} (gs : List Segment) : ∃ clipped : List Nat, clipped.Nodup ∧
    (∀ j, j ∈ clipped ↔ ∃ g, gs[j]? = some g ∧ f g ≠ none) ∧ (gs.filterMap f).length = clipped.length := by
  refine ⟨gs.findIdxs fun g => (f g).isSome, List.nodup_findIdxs, fun j => ?_, ?_⟩
  · simp only [List.mem_findIdxs_iff_exists_getElem_pos, List.getElem?_eq_some_iff, Option.isSome_iff_ne_none]
    exact ⟨fun ⟨hj, h⟩ => ⟨gs[j], ⟨hj, rfl⟩, h⟩, fun ⟨g, ⟨hj, hg⟩, h⟩ => ⟨hj, hg ▸ h⟩⟩
  · rw [List.length_findIdxs, List.length_filterMap_eq_countP]

/-- The first clip is that of the lowest-index segment with one. -/
theorem head?_clips {f : Segment → Option FirstClip} {gs : List Segment} {a : FirstClip} (h : (gs.filterMap f).head? = some a) :
    ∃ j g, gs[j]? = some g ∧ f g = some a ∧ ∀ (i : Nat) h, i < j → gs[i]? = some h → f h = none := by
  rw [List.head?_filterMap] at h
  obtain ⟨before, g, after, rfl, hg, hbefore⟩ := List.findSome?_eq_some_iff.1 h
  refine ⟨before.length, g, by simp, hg, fun i h hi hh => hbefore h ?_⟩
  rw [List.getElem?_append_left hi] at hh
  exact List.mem_of_getElem? hh

/-- The conflict is that of the lowest-index segment that a NO_COAT zone clips. -/
theorem conflictFrom_eq_some {ex : Nat → List Exclusion} {k : Nat} {gs : List Segment} {q : Conflict}
    (h : conflictFrom ex k gs = some q) : ∃ j g, q.segment = k + j ∧ gs[j]? = some g ∧
      clipOf g ((ex g.valve).filter (·.noCoat)) = some q.clip ∧
      ∀ (i : Nat) h, i < j → gs[i]? = some h → clipOf h ((ex h.valve).filter (·.noCoat)) = none := by
  induction gs generalizing k with
  | nil => cases h
  | cons g gs ih =>
    rw [conflictFrom] at h
    split at h
    next f hf =>
      obtain rfl := Option.some.inj h
      exact ⟨0, g, rfl, rfl, hf, fun i h hi => absurd hi (Nat.not_lt_zero i)⟩
    next hnone =>
      obtain ⟨j, d, hk, hd, hf, hlow⟩ := ih h
      refine ⟨j + 1, d, by omega, hd, hf, fun i b hi hb => ?_⟩
      cases i with
      | zero => obtain rfl := Option.some.inj hb; exact hnone
      | succ i => exact hlow i b (by omega) hb

theorem conflictFrom_eq_none {ex : Nat → List Exclusion} {k : Nat} {gs : List Segment} : conflictFrom ex k gs = none ↔
    ∀ g ∈ gs, clipOf g ((ex g.valve).filter (·.noCoat)) = none := by
  induction gs generalizing k with
  | nil => simp [conflictFrom]
  | cons g gs ih =>
    rw [conflictFrom, List.forall_mem_cons]
    split
    next f hf => simp [hf]
    next hnone => simp [hnone, ih]

theorem buildSchedule_clip : (buildSchedule c rc vs).clip.count = (clipsOf (exclusions c rc vs) rc.segments).length ∧
    (buildSchedule c rc vs).clip.first = (clipsOf (exclusions c rc vs) rc.segments).head? := ⟨rfl, rfl⟩

/-- The clips and the conflict of a schedule. -/
theorem buildSchedule_clips (c : CellCfg) (rc : Recipe) (vs : List Verdict) :
    (∃ clipped : List Nat, clipped.Nodup ∧
      (∀ j, j ∈ clipped ↔ ∃ g k x, rc.segments[j]? = some g ∧ rc.shuts c vs true g k x) ∧
      (buildSchedule c rc vs).clip.count = clipped.length) ∧
    ((buildSchedule c rc vs).clip.first = none ↔ (buildSchedule c rc vs).clip.count = 0) ∧
    (∀ f, (buildSchedule c rc vs).clip.first = some f → ∃ j, rc.lowestClip c vs true j f) ∧
    ((buildSchedule c rc vs).conflict = none ↔ ∀ (j : Nat) g k x, rc.segments[j]? = some g → ¬ rc.shuts c vs false g k x) ∧
    ∀ q, (buildSchedule c rc vs).conflict = some q → rc.lowestClip c vs false q.segment q.clip := by
  obtain ⟨hcount, hfirst⟩ := buildSchedule_clip (c := c) (rc := rc) (vs := vs)
  have hshut (g : Segment) : clipOf g (exclusions c rc vs g.valve) ≠ none ↔ ∃ k x, rc.shuts c vs true g k x := by
    rw [← clipping_true, Ne, clipOf_clipping_eq_none]
    push Not
    rfl
  refine ⟨?_, ?_, fun f hf => ?_, ?_, fun q hq => ?_⟩
  · obtain ⟨clipped, hnodup, hmem, hlen⟩ := clipsOf_length (f := fun g => clipOf g (exclusions c rc vs g.valve)) rc.segments
    refine ⟨clipped, hnodup, fun j => ?_, hcount.trans hlen⟩
    simp only [hmem, hshut, exists_and_left]
  · rw [hfirst, hcount, List.head?_eq_none_iff, List.length_eq_zero_iff]
  · obtain ⟨j, g, hg, hclip, hlow⟩ := head?_clips (hfirst ▸ hf)
    exact ⟨j, Recipe.lowestClip_of_first hg (by rw [clipping_true]; exact hclip) fun i h hi hh => by
      rw [clipping_true]; exact hlow i h hi hh⟩
  · rw [show (buildSchedule c rc vs).conflict = conflictFrom (exclusions c rc vs) 0 rc.segments from rfl, conflictFrom_eq_none]
    simp only [← clipping_false, clipOf_clipping_eq_none, List.mem_iff_getElem?]
    exact ⟨fun h j g k x hg => h g ⟨j, hg⟩ k x, fun h g ⟨j, hg⟩ k x => h j g k x hg⟩
  · obtain ⟨j, g, hj, hg, hclip, hlow⟩ := conflictFrom_eq_some (ex := exclusions c rc vs) (k := 0) hq
    rw [hj, Nat.zero_add]
    exact Recipe.lowestClip_of_first hg (by rw [clipping_false]; exact hclip) fun i h hi hh => by
      rw [clipping_false]; exact hlow i h hi hh

end

end Sys2Proof.Machine

end

section

namespace Sys2Proof.Machine

/-! ## Pre-spray reasons (R10) -/

theorem exists_reason_of_code {i : Nat} (hi : i < 20) : ∃ x : Reason, x.code = i := by
  have h : ∀ i : Fin 20, ∃ x ∈ reasonList, x.code = i.val := by decide
  obtain ⟨x, -, hx⟩ := h ⟨i, hi⟩
  exact ⟨x, hx⟩

/-- A set of reasons is empty where it holds none. -/
theorem reasons_eq_zero_iff (rs : Reasons) : rs = 0 ↔ ∀ x, hasReason rs x = false := by
  refine ⟨fun h x => h ▸ hasReason_zero x, fun h => BitVec.eq_of_getLsbD_eq fun i hi => ?_⟩
  obtain ⟨x, rfl⟩ := exists_reason_of_code hi
  exact (h x).trans (hasReason_zero x).symm

theorem Record.preSpray_iff (r : Record) : r.preSpray = true ↔
    ∃ x, x ≠ .maskMissing ∧ x ≠ .maskUnchecked ∧ hasReason r.trav.reasons x = true := by
  have hmask (x : Reason) : hasReason (reasonBit .maskMissing ||| reasonBit .maskUnchecked) x = true ↔
      x = .maskMissing ∨ x = .maskUnchecked := by
    have hset : reasonBit .maskMissing ||| reasonBit .maskUnchecked =
        Machine.addReason (Machine.addReason 0 .maskMissing) .maskUnchecked := by decide
    rw [hset, hasReason_addReason_iff, hasReason_addReason_iff, hasReason_zero]
    simp
  have hrest (x : Reason) :
      hasReason (r.trav.reasons &&& ~~~(reasonBit .maskMissing ||| reasonBit .maskUnchecked)) x = true ↔
        hasReason r.trav.reasons x = true ∧ x ≠ .maskMissing ∧ x ≠ .maskUnchecked := by
    rw [← not_or, ← hmask x]
    simp [hasReason, x.code_lt]
  rw [Record.preSpray, bne_iff_ne, Ne, reasons_eq_zero_iff]
  simp only [not_forall, Bool.not_eq_false, hrest]
  exact exists_congr fun x => ⟨fun ⟨h, hm, hu⟩ => ⟨hm, hu, h⟩, fun ⟨hm, hu, h⟩ => ⟨h, hm, hu⟩⟩

/-! ## The course of a record at its decision (R87) -/

section
variable {r : Record} {rc : Recipe}

theorem Record.course_preSpray (h : r.preSpray = true) (o : Option Recipe) : r.course o = .skip := if_pos h

theorem Record.course_done (h : r.preSpray = false) (hs : rc.step = 0 ∨ hasStep r.trav.stepsDone rc.step = true) :
    r.course (some rc) = .skip := by
  refine (if_neg (by simp [h])).trans ?_
  by_cases h0 : rc.step = 0
  · exact if_pos h0
  · exact (if_neg h0).trans (if_pos (hs.resolve_left h0))

theorem Record.course_missing (h : r.preSpray = false) (h0 : rc.step ≠ 0) (hs : hasStep r.trav.stepsDone rc.step = false)
    (hp : rc.prereq &&& ~~~r.trav.stepsDone ≠ 0) : r.course (some rc) = .skipMissing :=
  (if_neg (by simp [h])).trans ((if_neg h0).trans ((if_neg (by simp [hs])).trans (if_pos hp)))

theorem Record.course_wait (h : r.preSpray = false) (h0 : rc.step ≠ 0) (hs : hasStep r.trav.stepsDone rc.step = false)
    (hp : rc.prereq &&& ~~~r.trav.stepsDone = 0) : r.course (some rc) = .wait rc :=
  (if_neg (by simp [h])).trans ((if_neg h0).trans ((if_neg (by simp [hs])).trans (if_neg (not_not.2 hp))))

end

section
variable {s : State} {r : Record} (hr : s.table.spray = some r)
include hr

theorem State.sprayDecision_none (hn : r.spray ≠ .notDue) : s.sprayDecision = s := by
  unfold State.sprayDecision
  rw [hr]
  exact if_neg hn

variable (hn : r.spray = .notDue)
include hn

theorem State.sprayDecision_skip (h : r.course (r.bound s.store) = .skip) :
    s.sprayDecision = s.putRecord .spray { r with spray := .skipped } := by
  unfold State.sprayDecision
  rw [hr]
  dsimp only
  rw [if_pos hn, h]

theorem State.sprayDecision_missing (h : r.course (r.bound s.store) = .skipMissing) :
    s.sprayDecision = s.putRecord .spray ({ r with spray := .skipped }.addReason .stepMissing) := by
  unfold State.sprayDecision
  rw [hr]
  dsimp only
  rw [if_pos hn, h]

theorem State.sprayDecision_wait {rc : Recipe} (h : r.course (r.bound s.store) = .wait rc) :
    s.sprayDecision = s.startWaiting r rc := by
  unfold State.sprayDecision
  rw [hr]
  dsimp only
  rw [if_pos hn, h]

end

/-! ## The schedule begun (R87, R91, R92) -/

/-- NOTICE RECIPE_CONFLICT of a record, as it is posted (R91, R216). -/
def State.conflictLink (s : State) (r : Record) (rc : Recipe) (k : Conflict) : Link :=
  if s.cfg.terminal = 0 then s.link else s.link.post { postings := 1, tg :=
    { dst := s.cfg.terminal, src := s.cfg.station, kind := kindNotice, payload :=
      10 :: (if r.trav.serial.isSome then 1 else 0) :: (optWord r.trav.serial ++ be16 rc.crc ++
        [byteOf k.segment, byteOf k.clip.valve] ++ half16 k.clip.x ++ [byteOf k.clip.zone]) } }

section
variable {s : State} {r : Record} {rc : Recipe}

/-- The link after the notice of a conflict, if there is one. -/
theorem State.conflictNotice_eq (o : Option Conflict) :
    s.conflictNotice r rc o = { s with link := o.elim s.link (s.conflictLink r rc) } := by
  cases o with
  | none => rfl
  | some k =>
    unfold State.conflictNotice State.notice
    dsimp only [Option.elim_some]
    unfold State.conflictLink
    rw [flagByte_singleton]
    split <;> rfl

/-- The state with a record set WAITING_SUPPLY, before its clips are reported. -/
def State.scheduled (s : State) (r : Record) (rc : Recipe) : State := { s with
  table := { s.table with spray := some { r with
    spray := .waitingSupply
    clip := (buildSchedule s.cfg rc r.verdicts).clip
    trav := { r.trav with reasons :=
      if (buildSchedule s.cfg rc r.verdicts).full then addReason r.trav.reasons .scheduleFull else r.trav.reasons } } }
  spray := { s.spray with schedule := some (buildSchedule s.cfg rc r.verdicts).intervals, abort := none }
  link := (buildSchedule s.cfg rc r.verdicts).conflict.elim s.link (s.conflictLink r rc) }

/-- One CLIPPED event where a segment clips (R91). -/
theorem State.startWaiting_eq : s.startWaiting r rc =
    if (buildSchedule s.cfg rc r.verdicts).clip.count = 0 then s.scheduled r rc else (s.scheduled r rc).report .clipped 0 := by
  have hrecord (b : Built) : { r with spray := .waitingSupply, clip := b.clip }.addReasonIf b.full .scheduleFull =
      { r with
        spray := .waitingSupply
        clip := b.clip
        trav := { r.trav with reasons := if b.full then addReason r.trav.reasons .scheduleFull else r.trav.reasons } } := by
    cases h : b.full <;> rfl
  unfold State.startWaiting
  dsimp only
  rw [hrecord]
  by_cases h : (buildSchedule s.cfg rc r.verdicts).clip.count = 0
  · rw [if_pos h, if_neg (by omega), State.conflictNotice_eq]
    rfl
  · rw [if_neg h, if_pos (by omega), State.conflictNotice_eq]
    rfl

end

/-! ## The record that comes to SPRAY (R13, R68, R78) -/

/-- The record as it reaches SPRAY: a candidate is closed where its measurement is open. -/
def State.arrived (s : State) (r : Record) : Record := if s.mask.cand = some .transport then s.closeAtSpray r else r

/-- The state with a record come to rest at SPRAY, before its spray decision. -/
def State.restsAtSpray (s : State) (d : Record) : State := { s with
  table := { s.table with spray := some d, transport := none }
  tracker := { s.tracker with moves := { s.tracker.moves with toSpray := false } }
  mask := if s.mask.cand = some .transport then { s.mask with phase := .idle, cand := none, sampled := [] } else s.mask }

section
variable {s : State} {r : Record}

theorem State.arrived_open (hc : s.mask.cand = some .transport) (hp : s.mask.phase = .armed ∨ s.mask.phase = .measuring) :
    s.arrived r = s.closeCut r r.trav.length := by
  rw [State.arrived, if_pos hc, State.closeAtSpray]
  rcases hp with hp | hp <;> rw [hp]

theorem State.arrived_closed (h : ¬ (s.mask.cand = some .transport ∧ (s.mask.phase = .armed ∨ s.mask.phase = .measuring))) :
    s.arrived r = r := by
  unfold State.arrived
  split
  next hc =>
    unfold State.closeAtSpray
    cases hp : s.mask.phase with
    | armed => exact absurd ⟨hc, .inl hp⟩ h
    | measuring => exact absurd ⟨hc, .inr hp⟩ h
    | idle => rfl
    | closed => rfl
  · rfl

/-- A close changes neither the spray state nor the recipe. -/
theorem State.arrived_spray : (s.arrived r).spray = r.spray := by
  by_cases h : s.mask.cand = some .transport ∧ (s.mask.phase = .armed ∨ s.mask.phase = .measuring)
  · rw [State.arrived_open h.1 h.2, State.closeCut_eq]
  · rw [State.arrived_closed h]

/-- The move into SPRAY carries the record over and closes its measurement. -/
theorem State.candidateAtSpray_carryOver (hr : s.table.transport = some r) (hc : s.mask.cand ≠ some .spray) :
    (s.carryOver .toSpray).candidateAtSpray = s.restsAtSpray (s.arrived r) := by
  have hcarry : s.carryOver .toSpray = { s with
      table := { s.table with spray := some r, transport := none }
      tracker := { s.tracker with moves := { s.tracker.moves with toSpray := false } }
      mask := if s.mask.cand = some .transport then { s.mask with cand := some .spray } else s.mask } := by
    rw [← hr]
    rfl
  rw [hcarry]
  unfold State.candidateAtSpray State.restsAtSpray State.arrived
  by_cases h : s.mask.cand = some .transport
  · simp only [if_pos h]
    rfl
  · simp only [if_neg h, if_neg hc]

theorem State.completeMove_toSpray (hr : s.table.transport = some r) (hc : s.mask.cand ≠ some .spray) :
    s.completeMove .toSpray = (s.restsAtSpray (s.arrived r)).sprayDecision := by
  rw [← State.candidateAtSpray_carryOver hr hc]
  rfl

/-- The move into SPRAY made. -/
theorem State.moveTest_toSpray (hm : s.tracker.moves.toSpray = true) (ho : s.occupied .spray = true)
    (he : s.sensorEmpty .transport = true) : s.moveTest .toSpray = s.completeMove .toSpray :=
  State.moveTest_made (by simp [State.moveMade, State.underWay, moveDest, moveSource, hm, ho, he]) (by simp)

/-- At SPRAY's occupied edge the move out of SPRAY does not complete as well: its from-sensor stands occupied. -/
theorem State.occupiedEdge_spray (hm : s.tracker.moves.toSpray = true) (ho : s.occupied .spray = true)
    (he : s.sensorEmpty .transport = true) : s.occupiedEdge .spray = s.completeMove .toSpray := by
  have hother : (s.completeMove .toSpray).sensorEmpty .spray = false := by
    by_contra hc
    have hfree := State.occupied_of_sensorEmpty ((Bool.not_eq_false _).mp hc)
    simp only [State.occupied, State.completeMove_frame] at hfree ho
    rw [ho] at hfree
    cases hfree
  unfold State.occupiedEdge
  rw [if_pos (by simp [State.conveyed, hm])]
  show (s.moveTest .toSpray).moveTest .toGate = _
  rw [State.moveTest_toSpray hm ho he, State.moveTest_of_not_made (by simp [State.moveMade, moveSource, hother])]

/-- At TRANSPORT's empty edge the move out of ENTRY does not complete as well: its to-sensor stands empty. -/
theorem State.emptyEdge_transport (hm : s.tracker.moves.toSpray = true) (ho : s.occupied .spray = true)
    (he : s.sensorEmpty .transport = true) : s.emptyEdge .transport = s.completeMove .toSpray := by
  unfold State.emptyEdge
  dsimp only
  rw [if_pos (by simp [State.conveyed, State.raiseStop, hm])]
  show (s.moveTest .toTransport).moveTest .toSpray = _
  rw [State.moveTest_of_not_made (m := .toTransport) (by simp [State.moveMade, moveDest, State.occupied_of_sensorEmpty he]),
    State.moveTest_toSpray hm ho he]

/-- Either edge that completes the move into SPRAY (R13). -/
theorem State.exec_edge_toSpray {p : Position} {b : Bool} (ht : s.tracking = true) (hl : (s.inputs.pos.get p).level = some (!b))
    (hm : s.tracker.moves.toSpray = true)
    (hp : p = .spray ∧ b = true ∧ s.sensorEmpty .transport = true ∨ p = .transport ∧ b = false ∧ s.occupied .spray = true)
    (hr : s.table.transport = some r) (hc : s.mask.cand ≠ some .spray) : exec (edgeCommand p b) s =
      .next (((s.setLevel p b).restsAtSpray (s.arrived r)).sprayDecision).settle := by
  rcases hp with ⟨rfl, rfl, he⟩ | ⟨rfl, rfl, ho⟩
  · have hedge : (s.setLevel .spray true).occupiedEdge .spray = _ :=
      State.occupiedEdge_spray hm (by simp [State.occupied_setLevel]) (by simpa [State.sensorEmpty_setLevel] using he)
    show exec (.occupiedEdge .spray) s = _
    rw [State.exec_occupiedEdge ht (by simpa [State.sensorEmpty] using hl), hedge,
      State.completeMove_toSpray (s := s.setLevel .spray true) hr hc]
    rfl
  · have hedge : (s.setLevel .transport false).emptyEdge .transport = _ :=
      State.emptyEdge_transport hm (by simpa [State.occupied_setLevel] using ho) (by simp [State.sensorEmpty_setLevel])
    show exec (.emptyEdge .transport) s = _
    rw [State.exec_emptyEdge ht (by simpa [State.occupied] using hl), hedge,
      State.completeMove_toSpray (s := s.setLevel .transport false) hr hc]
    rfl

end

/-- Settles O11: the record as it reaches SPRAY, the decision by its course, and the clips of its schedule. -/
theorem sprayDecisionAtSpray : Obligations.SprayDecisionAtSpray := by
  refine ⟨?_, buildSchedule_clips⟩
  intro s p b r ht hl hm hp hr hc open' rests
  have hexec := State.exec_edge_toSpray ht hl hm hp hr hc
  refine ⟨s.arrived r, State.arrived_closed, fun ho => ?_, fun hn => ?_, fun hn => ⟨fun hx => ?_, fun hx rc hb => ?_⟩⟩
  · rw [State.arrived_open ho.1 ho.2]
    refine ⟨(s.closeCut_eq r _).trans (by rw [State.closeCut_verdicts]), fun hnone => ?_, fun rc hb =>
      ⟨fun j z v => State.closeCut_verdict hb _, State.closeCut_length (Record.recipe_isSome_of_bound hb) _,
        State.closeCut_maskUnchecked hb _, fun x => State.closeCut_other _⟩⟩
    rw [State.closeCut_no_recipe _ _ _ hnone]
    exact ⟨rfl, rfl⟩
  · rw [hexec, State.sprayDecision_none rfl (by rwa [State.arrived_spray])]
    rfl
  · rw [hexec, State.sprayDecision_skip rfl (State.arrived_spray.trans hn)
      (Record.course_preSpray ((Record.preSpray_iff _).2 hx) _)]
    rfl
  · have hpre : (s.arrived r).preSpray = false := by
      rw [← Bool.not_eq_true, Record.preSpray_iff]
      rintro ⟨x, hxm, hxu, h⟩
      rw [hx x hxm hxu] at h
      cases h
    have hbound : (s.arrived r).bound ((s.setLevel p b).restsAtSpray (s.arrived r)).store = some rc := hb
    refine ⟨fun hs => ?_, fun h0 hs hq => ?_, fun h0 hs hq => ?_⟩
    · rw [hexec, State.sprayDecision_skip rfl (State.arrived_spray.trans hn)
        (by rw [hbound, Record.course_done hpre hs])]
      rfl
    · rw [hexec, State.sprayDecision_missing rfl (State.arrived_spray.trans hn)
        (by rw [hbound, Record.course_missing hpre h0 hs hq])]
      rfl
    · intro built waits
      have hlink : built.conflict.elim s.link (s.conflictLink (s.arrived r) rc) = waits.link := by
        simp only [waits]
        cases built.conflict <;> rfl
      have hwaits : ((s.setLevel p b).restsAtSpray (s.arrived r)).scheduled (s.arrived r) rc = waits := by
        show { waits with link := built.conflict.elim s.link (s.conflictLink (s.arrived r) rc) } = waits
        rw [hlink]
      rw [hexec, State.sprayDecision_wait rfl (State.arrived_spray.trans hn)
        (by rw [hbound, Record.course_wait hpre h0 hs hq]), State.startWaiting_eq, hwaits]
      rfl

end Sys2Proof.Machine

end

section

namespace Sys2Proof.Machine

/-! ## The film of an interval (R106, R107) -/

theorem Interval.film_spray {i : Interval} {flow t dots : Nat} (hr : i.rate = .spray flow) (hp : i.progress = .closed t dots)
    (w : Nat) : i.film w = some (min (flow * t * 40 / ((i.xClose - i.xOpen) * w)) 1023) := by
  unfold Interval.film
  rw [hr, hp]

theorem Interval.film_jet {i : Interval} {pitch v t dots : Nat} (hr : i.rate = .jet pitch v) (hp : i.progress = .closed t dots)
    (w : Nat) : i.film w = some (min (dots * v * 400 / ((i.xClose - i.xOpen) * w)) 1023) := by
  unfold Interval.film
  rw [hr, hp]

theorem Interval.film_of_not_closed {i : Interval} (h : ∀ t d, i.progress ≠ .closed t d) (w : Nat) : i.film w = none := by
  unfold Interval.film
  cases hp : i.progress with
  | closed t d => exact absurd hp (h t d)
  | armed => rfl
  | due => rfl
  | lapsed _ => rfl
  | opened _ _ _ _ => rfl
  | passedOver => rfl

/-- At a constant speed the length cancels: it stands in the open time and in the divisor (R106). -/
theorem sprayFilm_constant_speed {flow t l w v : Nat} (hl : 0 < l) (hv : 0 < v) (h : v * t = 10 * l) :
    flow * t * 40 / (l * w) = 400 * flow / (v * w) :=
  calc flow * t * 40 / (l * w) = v * (flow * t * 40) / (v * (l * w)) := (Nat.mul_div_mul_left _ _ hv).symm
    _ = l * (400 * flow) / (l * (v * w)) := by
      congr 1
      · calc v * (flow * t * 40) = v * t * (flow * 40) := by ring
          _ = l * (400 * flow) := by rw [h]; ring
      · ring
    _ = 400 * flow / (v * w) := Nat.mul_div_mul_left _ _ hl

/-- Settles O29: the formula is the model's, its bounds are those of the factors, and at a constant speed the length cancels. -/
theorem sprayFilmFormula : Obligations.SprayFilmFormula := by
  refine ⟨fun w flow t dots i hr hp => Interval.film_spray hr hp w, fun flow t hf ht => ?_, fun l w hl hw => ?_,
    fun flow t l w v hl _ hv h => sprayFilm_constant_speed hl hv h⟩
  · calc flow * t * 40 ≤ 255 * (2 ^ 20 - 1) * 40 := Nat.mul_le_mul_right _ (Nat.mul_le_mul hf ht)
      _ < 2 ^ 36 := by decide
  · calc l * w ≤ 8191 * 1023 := Nat.mul_le_mul hl hw
      _ < 2 ^ 24 := by decide

/-! ## The switching of a JET interval (R97) -/

section
variable {c : CountAt} {i : Interval} {since left dots : Nat} {on : Bool}

theorem CountAt.closeDue_iff (c : CountAt) (i : Interval) :
    c.closeDue i = true ↔ c.stopToBar + i.xClose ≤ c.travelled + c.closeLead := decide_eq_true_iff

/-- A closing interval (R96, R105). -/
theorem Interval.fire_closes (hp : i.progress = .opened since on left dots) (hc : c.closeDue i = true) (waits : Bool) :
    i.fire c waits = ({ i with progress := .closed (openTime since c.now) dots }, 0) := by
  unfold Interval.fire
  rw [hp]
  exact if_pos hc

/-- An open interval at a count at which it does not close. -/
theorem Interval.fire_stays (hp : i.progress = .opened since on left dots) (hc : c.closeDue i = false) (waits : Bool) :
    i.fire c waits = ({ i with progress := (keepOpen c.mayOpen i.rate since on left dots).1 },
      (keepOpen c.mayOpen i.rate since on left dots).2) := by
  unfold Interval.fire
  rw [hp]
  exact if_neg (by simp [hc])

end

theorem keepOpen_counts (m : Bool) {pitch left : Nat} (h : 1 < left) (v since : Nat) (on : Bool) (dots : Nat) :
    keepOpen m (.jet pitch v) since on left dots = (.opened since on (left - 1) dots, 0) := if_pos h

theorem keepOpen_closes (m : Bool) {pitch left : Nat} (h : left ≤ 1) (v since dots : Nat) :
    keepOpen m (.jet pitch v) since true left dots = (.opened since false (pitch / 2) dots, 0) := if_neg (by omega)

theorem keepOpen_opens {pitch left : Nat} (h : left ≤ 1) (v since dots : Nat) :
    keepOpen true (.jet pitch v) since false left dots = (.opened since true (pitch / 2) (dots + 1), 1) := if_neg (by omega)

theorem keepOpen_held {pitch left : Nat} (h : left ≤ 1) (v since dots : Nat) :
    keepOpen false (.jet pitch v) since false left dots = (.opened since false (pitch / 2) dots, 0) := if_neg (by omega)

/-- The progress of a JET interval of pitch 2 x h that has been open for k counts (R97). -/
def jetAfter (since h k : Nat) : Progress := .opened since (decide (k / h % 2 = 0)) (h - k % h) (1 + k / (2 * h))

/-- A count inside a half pitch leaves the number of half pitches. -/
theorem div_succ_of_mod_lt {h k : Nat} (hk : 1 < h - k % h) : (k + 1) / h = k / h ∧ (k + 1) % h = k % h + 1 := by
  have hd := Nat.div_add_mod k h
  have hq : k + 1 = k % h + 1 + h * (k / h) := by omega
  constructor
  · rw [hq, Nat.add_mul_div_left _ _ (by omega), Nat.div_eq_of_lt (by omega), Nat.zero_add]
  · rw [hq, Nat.add_mul_mod_self_left, Nat.mod_eq_of_lt (by omega)]

/-- The last count of a half pitch ends it. -/
theorem div_succ_of_mod_last {h k : Nat} (hh : 0 < h) (hk : h - k % h ≤ 1) : (k + 1) / h = k / h + 1 ∧ (k + 1) % h = 0 := by
  have hd := Nat.div_add_mod k h
  have hm := Nat.mod_lt k hh
  have hq : k + 1 = h * (k / h + 1) := by rw [Nat.mul_add]; omega
  constructor
  · rw [hq, Nat.mul_div_cancel_left _ hh]
  · rw [hq, Nat.mul_mod_right]

/-- One more count with opens allowed: at the end of a half pitch the valve is switched, and each opening is a dot. -/
theorem keepOpen_jetAfter {h : Nat} (hh : 0 < h) (v since k : Nat) :
    (keepOpen true (.jet (2 * h) v) since (decide (k / h % 2 = 0)) (h - k % h) (1 + k / (2 * h))).1 = jetAfter since h (k + 1) := by
  have hhalf : 2 * h / 2 = h := Nat.mul_div_cancel_left _ (by decide)
  have hdots (m : Nat) : m / (2 * h) = m / h / 2 := by rw [Nat.div_div_eq_div_mul, Nat.mul_comm]
  unfold jetAfter
  simp only [hdots]
  by_cases hk : 1 < h - k % h
  · obtain ⟨hdiv, hmod⟩ := div_succ_of_mod_lt hk
    rw [keepOpen_counts true hk, hdiv, hmod, Nat.sub_sub]
  · obtain ⟨hdiv, hmod⟩ := div_succ_of_mod_last hh (Nat.le_of_not_lt hk)
    rw [hdiv, hmod]
    rcases Nat.mod_two_eq_zero_or_one (k / h) with he | ho
    · have hnext : (k / h + 1) % 2 ≠ 0 := by omega
      have hsame : (k / h + 1) / 2 = k / h / 2 := by omega
      rw [decide_eq_true he, keepOpen_closes true (Nat.le_of_not_lt hk), hhalf, hsame, decide_eq_false hnext]
      rfl
    · have hnext : (k / h + 1) % 2 = 0 := by omega
      have hmore : 1 + (k / h + 1) / 2 = 1 + k / h / 2 + 1 := by omega
      rw [decide_eq_false (by omega), keepOpen_opens (Nat.le_of_not_lt hk), hhalf, hmore, decide_eq_true hnext]
      rfl

/-- A JET interval over the counts at which it stays open, with opens allowed. -/
theorem Interval.foldl_fire_jet {c : Nat → CountAt} {i : Interval} {h v since : Nat} (hh : 0 < h) (hr : i.rate = .jet (2 * h) v)
    (hp : i.progress = .opened since true h 1) {k : Nat}
    (hc : ∀ j, j < k → (c j).mayOpen = true ∧ (c j).travelled + (c j).closeLead < (c j).stopToBar + i.xClose) :
    (List.range k).foldl (fun x j => (x.fire (c j) false).1) i = { i with progress := jetAfter since h k } := by
  induction k with
  | zero =>
    have h0 : jetAfter since h 0 = .opened since true h 1 := by simp [jetAfter]
    rw [h0, ← hp]
    rfl
  | succ k ih =>
    obtain ⟨hmay, hstay⟩ := hc k (Nat.lt_succ_self k)
    have hopen : (c k).closeDue { i with progress := jetAfter since h k } = false := by
      rw [← Bool.not_eq_true, CountAt.closeDue_iff]
      exact Nat.not_le_of_lt hstay
    rw [List.range_succ, List.foldl_append, ih fun j hj => hc j (Nat.lt_succ_of_lt hj), List.foldl_cons, List.foldl_nil,
      Interval.fire_stays (i := { i with progress := jetAfter since h k }) rfl hopen]
    show { i with progress := (keepOpen (c k).mayOpen i.rate _ _ _ _).1 } = _
    rw [hmay, hr, keepOpen_jetAfter hh]

/-! ## The least and the greatest film (R108) -/

theorem mem_filmsOf {w : Nat} {l : List Interval} {f : Nat} : f ∈ filmsOf w l ↔ ∃ i ∈ l, i.film w = some f := List.mem_filterMap

theorem filmsOf_eq_nil {w : Nat} {l : List Interval} : filmsOf w l = [] ↔ ∀ i ∈ l, i.film w = none := List.filterMap_eq_nil_iff

theorem extremes_eq_none {fs : List Nat} : extremes fs = none ↔ fs = [] := by
  cases fs <;> simp [extremes]

/-- The extremes are the least and the greatest film. -/
theorem extremes_eq_some {fs : List Nat} {lo hi : Nat} : extremes fs = some (lo, hi) ↔ fs.min? = some lo ∧ fs.max? = some hi := by
  cases fs with
  | nil => simp [extremes]
  | cons h t => simp only [extremes, List.min?_cons', List.max?_cons', Option.some.injEq, Prod.mk.injEq]

/-- Settles O30: the switching by induction on the counts, and the film and its extremes by the model's formulas. -/
theorem jetDotsAndFilm : Obligations.JetDotsAndFilm := by
  refine ⟨fun c i h v since k hh hr hp hc => Interval.foldl_fire_jet hh hr hp hc,
    fun w pitch v t dots i hr hp => Interval.film_jet hr hp w, fun w i h => Interval.film_of_not_closed h w, fun w l =>
    ⟨extremes_eq_none.trans filmsOf_eq_nil, fun lo hi h => ?_⟩⟩
  obtain ⟨hmin, hmax⟩ := extremes_eq_some.1 h
  obtain ⟨hlo, hleast⟩ := List.min?_eq_some_iff.1 hmin
  obtain ⟨hhi, hgreatest⟩ := List.max?_eq_some_iff.1 hmax
  exact ⟨mem_filmsOf.1 hlo, mem_filmsOf.1 hhi, fun i hi f hf =>
    ⟨hleast f (mem_filmsOf.2 ⟨i, hi, hf⟩), hgreatest f (mem_filmsOf.2 ⟨i, hi, hf⟩)⟩⟩

end Sys2Proof.Machine

end

section

namespace Sys2Proof.Machine

/-! ## The end of a purge (R110, R201) -/

section
variable {s : State}

/-- The counters after an action is completed: those armed for it are disarmed, cleared and reloaded (R198, R201). -/
theorem State.completeAction_watch (s : State) (a : WatchAction) (i : Fin 4) : (s.completeAction a).watch[i] =
    if s.watch[i].armed = true ∧ s.cfg.watch[i].action = a then s.watch[i].complete s.cfg.watch[i] else s.watch[i] := by
  have hi : i.val < 4 := i.isLt
  simp [State.completeAction, State.armedFor, hi]

/-- The end of a purge that was granted its claim. -/
theorem State.purgeEnd_granted (ho : s.supply.own = .granted) (hh : s.supply.holder = some .purge) : s.purgeEnd = { s with
    spray := { s.spray with purge := .none, purgeTimer := none, purgeMark := false }
    supply := { s.supply with own := .ending }
    watch := s.purgeEnd.watch
    link := s.link.post s.doneTelegram } := by
  unfold State.purgeEnd State.endPurgeClaim
  rw [if_pos hh, State.endClaim_of_active (.inr ho)]
  rfl

theorem State.purgeEnd_watch (s : State) (i : Fin 4) : s.purgeEnd.watch[i] =
    if s.watch[i].armed = true ∧ s.cfg.watch[i].action = .purge then s.watch[i].complete s.cfg.watch[i] else s.watch[i] := by
  unfold State.purgeEnd
  rw [State.completeAction_watch]
  simp

theorem State.exec_purgeTimerExpiry {k : Nat} (hl : s.loaded = true) (hp : s.spray.purge = .purging)
    (ht : s.spray.purgeTimer = some k) : exec .purgeTimerExpiry s = .next s.purgeEnd.starts := by
  show Host.Outcome.next (s.when (s.loaded && s.spray.purge == .purging && s.spray.purgeTimer.isSome) _) = _
  rw [hl, hp, ht]
  rfl

end

/-- Settles O34: the purge ends, and then what can start starts. -/
theorem purgeEndsAtItsTimer : Obligations.PurgeEndsAtItsTimer := by
  intro s k hl hp ht ho hh
  exact ⟨s.purgeEnd, State.exec_purgeTimerExpiry hl hp ht, State.purgeEnd_granted ho hh, State.purgeEnd_watch s⟩

/-! ## The claims that are asked for (R94, R109, R115) -/

section
variable {s : State} {r : Record}

theorem State.sprayIs_eq (hr : s.table.spray = some r) (st : SprayState) : s.sprayIs st = (r.spray == st) := by
  unfold State.sprayIs
  rw [hr]

theorem State.purgeHoldsBar_eq_false (hc : s.spray.purge ≠ .claiming) (hp : s.spray.purge ≠ .purging) :
    s.purgeHoldsBar = false := by
  simp [State.purgeHoldsBar, hc, hp]

/-- SUPPLY_CLAIM of this station, as it is posted (R115). -/
def State.claimTelegram (s : State) (serial : Option Serial) (duration : Nat) : OutEntry :=
  { postings := 1, tg := { dst := 0, src := s.cfg.station, kind := kindSupplyClaim, payload :=
    s.cfg.group :: (if serial.isSome then 1 else 0) :: (optWord serial ++ half16 duration) } }

theorem State.askClaim_eq (holder : Holder) (serial : Option Serial) (duration : Nat) : s.askClaim holder serial duration = { s with
    supply := { s.supply with own := .queued, holder := some holder, claimSerial := serial, claimDuration := duration }
    link := s.link.post (s.claimTelegram serial duration) } := by
  unfold State.askClaim State.telegram claimPayload
  rw [flagByte_singleton]
  rfl

theorem State.tryBoardClaim_due {rc : Recipe} {i : Interval} {l : List Interval} (hr : s.table.spray = some r)
    (hw : r.spray = .waitingSupply) (hb : r.bound s.store = some rc) (hs : s.spray.schedule = some (i :: l))
    (hg : s.table.gate = none) (hh : s.tracker.hold = false) (hbar : s.purgeHoldsBar = false) (ho : s.supply.own = .none) :
    s.tryBoardClaim = s.askClaim .board r.trav.serial (rc.passLimit * 10) := by
  have hdue : s.boardClaimDue = true := by
    simp [State.boardClaimDue, State.sprayIs_eq hr, hw, State.scheduleHolds, hs, State.isFree, PerPos.get, hg, hh, hbar, ho]
  have hlimit : s.passLimit = rc.passLimit := by simp [State.passLimit, hr, hb]
  unfold State.tryBoardClaim
  rw [if_pos hdue, hlimit, hr]
  rfl

theorem State.tryPurgeClaim_due (hp : s.spray.purge = .requested) (hf : s.table.spray = none) (hh : s.tracker.hold = false)
    (ho : s.supply.own = .none) : s.tryPurgeClaim =
      State.askClaim { s with spray := { s.spray with purge := .claiming } } .purge none ((s.cfg.purgeTime + 10) * 10) :=
  if_pos (by simp [State.purgeClaimDue, hp, State.isFree, PerPos.get, hf, hh, ho])

/-- Under the drive hold no claim is asked for (R24). -/
theorem State.tryBoardClaim_of_hold (h : s.tracker.hold = true) : s.tryBoardClaim = s :=
  if_neg (by simp [State.boardClaimDue, h])

theorem State.tryPurgeClaim_of_hold (h : s.tracker.hold = true) : s.tryPurgeClaim = s :=
  if_neg (by simp [State.purgeClaimDue, h])

theorem State.live_eq_self {f : State → State} (h : f s = s) : s.live f = s := by
  unfold State.live
  rw [h, ite_self]

/-! ## The start of a pass (R95, R98) -/

theorem State.startPass_eq (hr : s.table.spray = some r) : s.startPass = { s with
    table := { s.table with spray := some { r with spray := .spraying } }
    spray := { s.spray with
      travelled := 0
      abort := none
      schedule := s.spray.schedule.map fun l => l.map fun i => { i with progress := .armed } }
    tracker := { s.tracker with moves := { s.tracker.moves with toGate := true } } } := by
  unfold State.startPass State.atSpray
  rw [hr]
  rfl

theorem State.tryPass_claimed {i : Interval} {l : List Interval} (hr : s.table.spray = some r) (hw : r.spray = .waitingSupply)
    (hg : s.table.gate = none) (hh : s.tracker.hold = false) (hs : s.spray.schedule = some (i :: l))
    (ho : s.supply.own = .granted) (hb : s.supply.holder = some .board) : s.tryPass = s.startPass := by
  have hdue : s.passDue = true := by
    simp [State.passDue, State.sprayIs_eq hr, hw, State.isFree, PerPos.get, hg, hh, hs, ho, hb]
  unfold State.tryPass
  rw [if_pos hdue, if_pos (by simp [State.scheduleHolds, hs])]

theorem State.tryPass_empty (hr : s.table.spray = some r) (hw : r.spray = .waitingSupply) (hg : s.table.gate = none)
    (hh : s.tracker.hold = false) (hs : s.spray.schedule = some []) (hbar : s.purgeHoldsBar = false) :
    s.tryPass = s.startPass.passEnd := by
  have hdue : s.passDue = true := by
    simp [State.passDue, State.sprayIs_eq hr, hw, State.isFree, PerPos.get, hg, hh, hs, hbar]
  unfold State.tryPass
  rw [if_pos hdue, if_neg (by simp [State.scheduleHolds, hs])]

/-! ## The end of a pass (R98, R108) -/

/-- The record of a pass that has ended, judged over two extremes of its films. -/
def Record.sprayed (r : Record) (now : Seconds) (rc : Recipe) (e : Nat × Nat) : Record :=
  Record.withFilm { r with spray := .done, sprayEnd := some now, elapsed := 0 } rc e

/-- The end of a pass of a bound record: the record judged, its schedule discarded, and a FILM_MARGIN event. -/
theorem State.passEnd_eq {rc : Recipe} {e : Nat × Nat} (hr : s.table.spray = some r) (hb : r.bound s.store = some rc)
    (he : (extremes (filmsOf s.cfg.swath s.intervals)).getD (0, 0) = e) : s.passEnd = State.report { s with
      table := { s.table with spray := some (r.sprayed s.seconds rc e) }
      spray := { s.spray with schedule := none, abort := none } } .filmMargin (filmResult rc e).margin := by
  unfold State.passEnd State.finishSpray
  rw [hr, he]
  dsimp only
  rw [show Record.bound r s.store = some rc from hb]
  rfl

end

theorem filmMargin_eq (rc : Recipe) (e : Nat × Nat) :
    (filmResult rc e).margin = max (-1023) (min 1023 ((e.1 : Int) - rc.hMin)) := by
  show clampInt (-1023) 1023 _ = _
  unfold clampInt
  omega

theorem filmResult_eq (rc : Recipe) (e : Nat × Nat) : filmResult rc e =
    { min := e.1, max := e.2, margin := max (-1023) (min 1023 ((e.1 : Int) - rc.hMin)) } := by
  rw [← filmMargin_eq]
  rfl

/-- The film of a pass in which nothing was sprayed. -/
theorem filmResult_zero (rc : Recipe) :
    filmResult rc (0, 0) = { min := 0, max := 0, margin := max (-1023) (-(rc.hMin : Int)) } := by
  rw [filmResult_eq]
  congr 1
  omega

/-- What the end of a pass changes of its record. -/
theorem Record.sprayed_eq (r : Record) (now : Seconds) (rc : Recipe) (e : Nat × Nat) : r.sprayed now rc e = { r with
    spray := .done
    film := some (filmResult rc e)
    sprayEnd := some now
    elapsed := 0
    trav := { r.trav with reasons :=
      let thin := if e.1 < rc.hMin then Machine.addReason r.trav.reasons .filmThin else r.trav.reasons
      if rc.hMax < e.2 then Machine.addReason thin .filmThick else thin } } := Record.withFilm_eq _ _ _

theorem Record.sprayed_filmThin (r : Record) (now : Seconds) {rc : Recipe} {e : Nat × Nat} (h : e.1 < rc.hMin) :
    hasReason (r.sprayed now rc e).trav.reasons .filmThin = true := by
  have hthin : hasReason (Machine.addReason r.trav.reasons .filmThin) .filmThin = true := (hasReason_addReason_iff _ _ _).2 (.inr rfl)
  simp only [Record.sprayed_eq, if_pos h]
  split
  · exact hasReason_addReason _ _ _ hthin
  · exact hthin

/-- A report leaves the schedule and the abort. -/
theorem State.report_schedule (s : State) (src : Source) (margin : Int) : (s.report src margin).spray.schedule = s.spray.schedule := by
  rcases State.report_spray s src margin with h | h
  · rw [h]
  · rw [h]; rfl

/-- The pass of an empty schedule, started and ended. -/
theorem State.passEnd_startPass {s : State} {r : Record} {rc : Recipe} (hr : s.table.spray = some r)
    (hb : r.bound s.store = some rc) (hs : s.spray.schedule = some []) : s.startPass.passEnd = State.report { s.startPass with
      table := { s.table with spray := some (Record.sprayed { r with spray := .spraying } s.seconds rc (0, 0)) }
      spray := { s.startPass.spray with schedule := none, abort := none } } .filmMargin (filmResult rc (0, 0)).margin := by
  have hempty : s.startPass.intervals = [] := by simp [State.intervals, State.startPass, hs]
  exact State.passEnd_eq (r := { r with spray := .spraying }) (by rw [State.startPass_eq hr]) hb (by rw [hempty]; rfl)

/-- Settles O31: each request and each start under its conditions, and what the start of an empty schedule ends at once. -/
theorem claimAskedAndPassStarted : Obligations.ClaimAskedAndPassStarted := by
  refine ⟨⟨?_, ?_, ?_⟩, ?_, ?_⟩
  · intro s r rc i l hl hr hw hb hs hg hh hc hp ho
    show Host.Outcome.next (s.live State.tryBoardClaim) = _
    rw [State.live_of_loaded hl, State.tryBoardClaim_due hr hw hb hs hg hh (State.purgeHoldsBar_eq_false hc hp) ho,
      State.askClaim_eq]
    rfl
  · intro s hl hp hf hh ho
    show Host.Outcome.next (s.live State.tryPurgeClaim) = _
    rw [State.live_of_loaded hl, State.tryPurgeClaim_due hp hf hh ho, State.askClaim_eq]
    rfl
  · exact fun s h => ⟨congrArg _ (State.live_eq_self (State.tryBoardClaim_of_hold h)),
      congrArg _ (State.live_eq_self (State.tryPurgeClaim_of_hold h))⟩
  · intro s r i l hl hr hw hg hh hs ho hb
    show Host.Outcome.next (s.live State.tryPass) = _
    rw [State.live_of_loaded hl, State.tryPass_claimed hr hw hg hh hs ho hb, State.startPass_eq hr, hs]
    rfl
  · intro s r rc hl hr hw hb hg hh hs hc hp
    have hexec : exec .passStart s = .next s.startPass.passEnd := by
      show Host.Outcome.next (s.live State.tryPass) = _
      rw [State.live_of_loaded hl, State.tryPass_empty hr hw hg hh hs (State.purgeHoldsBar_eq_false hc hp)]
    refine ⟨_, Record.sprayed { r with spray := .spraying } s.seconds rc (0, 0), hexec, ?_⟩
    rw [State.passEnd_startPass hr hb hs]
    have hthin (h : 0 < rc.hMin) := Record.sprayed_filmThin { r with spray := .spraying } s.seconds (e := (0, 0)) h
    refine ⟨by simp, ?_, ?_, ?_, ?_, hthin, State.report_schedule _ _ _, by simp [State.startPass]⟩
    all_goals rw [Record.sprayed_eq]
    rw [filmResult_zero]

end Sys2Proof.Machine

end

section

namespace Sys2Proof.Machine

/-! ## Lists put in an order by insertion (R92) -/

section
variable {α κ : Type} [LinearOrder κ] (key : α → κ)

/-- An entry put behind everything whose key is not above its own keeps the order of the keys. -/
theorem pairwise_orderedInsert (e : α) {l : List α} (h : l.Pairwise fun a b => key a ≤ key b) :
    (l.orderedInsert (fun a b => key a < key b) e).Pairwise fun a b => key a ≤ key b := by
  induction l with
  | nil => exact List.pairwise_singleton _ _
  | cons x t ih =>
    obtain ⟨hx, ht⟩ := List.pairwise_cons.1 h
    rw [List.orderedInsert]
    split
    next hlt => exact List.pairwise_cons.2 ⟨List.forall_mem_cons.2 ⟨hlt.le, fun y hy => hlt.le.trans (hx y hy)⟩, h⟩
    next hle =>
      refine List.pairwise_cons.2 ⟨fun y hy => ?_, ih ht⟩
      rcases List.mem_cons.1 ((List.perm_orderedInsert _ e t).subset hy) with rfl | hy
      · exact not_lt.1 hle
      · exact hx y hy

/-- Entries put one by one at their places stand in order. -/
theorem pairwise_foldl_orderedInsert (l : List α) {s : List α} (h : s.Pairwise fun a b => key a ≤ key b) :
    (l.foldl (fun s e => s.orderedInsert (fun a b => key a < key b) e) s).Pairwise fun a b => key a ≤ key b := by
  induction l generalizing s with
  | nil => exact h
  | cons e l ih => exact ih (pairwise_orderedInsert key e h)

/-- Entries put one by one at their places are all there. -/
theorem perm_foldl_orderedInsert (l s : List α) :
    (l.foldl (fun s e => s.orderedInsert (fun a b => key a < key b) e) s).Perm (l ++ s) := by
  induction l generalizing s with
  | nil => exact .refl s
  | cons e l ih => exact ((ih _).trans ((List.perm_orderedInsert _ e s).append_left l)).trans List.perm_middle

end

/-! ## The pending valve events (R92) -/

/-- The order of the pending events: by aimed position, a close before an open, then by valve. -/
def ValveEvent.key (e : ValveEvent) : ℕ ×ₗ Bool ×ₗ ℕ := toLex (e.aimed, toLex (e.opens, e.valve))

theorem ValveEvent.key_le_iff (a b : ValveEvent) : a.key ≤ b.key ↔ a.aimed < b.aimed ∨
    a.aimed = b.aimed ∧ (a.opens = false ∧ b.opens = true ∨ a.opens = b.opens ∧ a.valve ≤ b.valve) := by
  rw [ValveEvent.key, ValveEvent.key, Prod.Lex.toLex_le_toLex, Prod.Lex.toLex_le_toLex, Bool.lt_iff]

theorem ValveEvent.before_iff (a b : ValveEvent) : a.before b = true ↔ a.key ≤ b.key := by
  rw [ValveEvent.key_le_iff]
  simp [ValveEvent.before]

theorem insertEvent_eq (e : ValveEvent) (l : List ValveEvent) :
    insertEvent e l = l.orderedInsert (fun a b => a.key < b.key) e := by
  induction l with
  | nil => rfl
  | cons x t ih => simp only [insertEvent, List.orderedInsert, ih, ValveEvent.before_iff, ← not_le, ite_not]

theorem pendingEvents_eq (l : List Interval) : pendingEvents l =
    (l.flatMap Interval.events).foldl (fun s e => s.orderedInsert (fun a b => a.key < b.key) e) [] := by
  unfold pendingEvents
  simp only [insertEvent_eq]

theorem pendingEvents_ordered (l : List Interval) : (pendingEvents l).Pairwise fun a b => a.key ≤ b.key := by
  rw [pendingEvents_eq]
  exact pairwise_foldl_orderedInsert _ _ .nil

/-- The open event of an interval has not fired. -/
def Interval.unopened (i : Interval) : Prop := i.progress = .armed ∨ i.progress = .due ∨ ∃ b, i.progress = .lapsed b

theorem Interval.mem_events {i : Interval} {e : ValveEvent} : e ∈ i.events ↔ e.valve = i.valve ∧
    (i.unopened ∧ e.opens = true ∧ e.aimed = i.xOpen ∨ i.finished = false ∧ e.opens = false ∧ e.aimed = i.xClose) := by
  obtain ⟨aimed, opens, valve⟩ := e
  unfold Interval.events Interval.finished Interval.unopened
  cases i.progress <;> simp <;> tauto

theorem mem_pendingEvents {l : List Interval} {e : ValveEvent} : e ∈ pendingEvents l ↔ ∃ i ∈ l, e ∈ i.events := by
  rw [pendingEvents_eq, (perm_foldl_orderedInsert _ _ _).mem_iff, List.append_nil, List.mem_flatMap]

/-! ## One forward count on one interval (R96, R97) -/

/-- The dots an interval has opened, by its progress (R97). -/
def Progress.dots : Progress → Nat
  | .opened _ _ _ d => d
  | .closed _ d => d
  | .armed => 0
  | .due => 0
  | .lapsed _ => 0
  | .passedOver => 0

section
variable {c : CountAt} {i : Interval}

theorem CountAt.openDue_iff (c : CountAt) (i : Interval) :
    c.openDue i = true ↔ c.stopToBar + i.xOpen ≤ c.travelled + c.openLead := decide_eq_true_iff

theorem Interval.ready_iff : i.ready c = true ↔
    i.progress = .due ∨ i.progress = .lapsed true ∨ c.stopToBar + i.xOpen ≤ c.travelled + c.openLead := by
  rw [← CountAt.openDue_iff]
  unfold Interval.ready
  split <;> simp_all

theorem Interval.lapses_iff : i.lapses c = true ↔
    (∃ b, i.progress = .lapsed b) ∨ c.stopToBar + i.xClose ≤ c.travelled + c.closeLead := by
  rw [← CountAt.closeDue_iff]
  unfold Interval.lapses
  split <;> simp_all

theorem Interval.unopened_of_not_finished (h : i.finished = false) (ho : ∀ since on left d, i.progress ≠ .opened since on left d) :
    i.unopened := by
  unfold Interval.finished at h
  cases hp : i.progress with
  | armed => exact .inl hp
  | due => exact .inr (.inl hp)
  | lapsed b => exact .inr (.inr ⟨b, hp⟩)
  | opened since on left d => exact absurd hp (ho since on left d)
  | closed _ _ => rw [hp] at h; cases h
  | passedOver => rw [hp] at h; cases h

theorem Interval.fire_finished (h : i.finished = true) (waits : Bool) : i.fire c waits = (i, 0) := by
  unfold Interval.finished at h
  unfold Interval.fire
  split
  · rfl
  · rfl
  all_goals simp_all

/-- The open event is due, opens may fire, and no earlier interval of the valve holds it back (R96). -/
def Interval.opensAt (c : CountAt) (waits : Bool) (i : Interval) : Prop := c.mayOpen = true ∧ i.ready c = true ∧ waits = false

theorem Interval.fire_waits (hu : i.unopened) {waits : Bool} (h : ¬ i.opensAt c waits) :
    i.fire c waits = ({ i with progress := unfired (i.ready c) (i.lapses c) }, 0) := by
  rw [Interval.fire_unfired c waits i hu, if_pos]
  by_contra hn
  simp only [not_or, Bool.not_eq_false, Bool.not_eq_true] at hn
  exact h ⟨hn.2.2, hn.1, hn.2.1⟩

theorem Interval.fire_passedOver (hu : i.unopened) {waits : Bool} (h : i.opensAt c waits) (hl : i.lapses c = true) :
    i.fire c waits = ({ i with progress := .passedOver }, 0) := by
  obtain ⟨hm, hr, hw⟩ := h
  rw [Interval.fire_unfired c waits i hu, if_neg (by simp [hm, hr, hw]), if_pos hl]

theorem Interval.fire_opens (hu : i.unopened) {waits : Bool} (h : i.opensAt c waits) (hl : i.lapses c = false) :
    i.fire c waits = ({ i with progress := (startOpen c.now i.rate).1 }, (startOpen c.now i.rate).2) := by
  obtain ⟨hm, hr, hw⟩ := h
  rw [Interval.fire_unfired c waits i hu, if_neg (by simp [hm, hr, hw]), if_neg (by simp [hl])]

/-- The ways an interval goes through a count. -/
theorem Interval.fire_cases (c : CountAt) (waits : Bool) (i : Interval) :
    i.finished = true ∧ i.fire c waits = (i, 0) ∨
    i.unopened ∧ (i.fire c waits = ({ i with progress := unfired (i.ready c) (i.lapses c) }, 0) ∨
      i.fire c waits = ({ i with progress := .passedOver }, 0) ∨
      c.mayOpen = true ∧ i.fire c waits = ({ i with progress := (startOpen c.now i.rate).1 }, (startOpen c.now i.rate).2)) ∨
    ∃ since on left d, i.progress = .opened since on left d ∧
      (i.fire c waits = ({ i with progress := .closed (openTime since c.now) d }, 0) ∨
        i.fire c waits = ({ i with progress := (keepOpen c.mayOpen i.rate since on left d).1 },
          (keepOpen c.mayOpen i.rate since on left d).2)) := by
  by_cases hf : i.finished = true
  · exact .inl ⟨hf, Interval.fire_finished hf waits⟩
  by_cases ho : ∃ since on left d, i.progress = .opened since on left d
  · obtain ⟨since, on, left, d, hp⟩ := ho
    refine .inr (.inr ⟨since, on, left, d, hp, ?_⟩)
    cases hc : c.closeDue i with
    | true => exact .inl (Interval.fire_closes hp hc waits)
    | false => exact .inr (Interval.fire_stays hp hc waits)
  · push Not at ho
    have hu := Interval.unopened_of_not_finished (Bool.of_not_eq_true hf) ho
    refine .inr (.inl ⟨hu, ?_⟩)
    by_cases h : i.opensAt c waits
    · cases hl : i.lapses c with
      | true => exact .inr (.inl (Interval.fire_passedOver hu h hl))
      | false => exact .inr (.inr ⟨h.1, Interval.fire_opens hu h hl⟩)
    · exact .inl (Interval.fire_waits hu h)

/-- A count changes the progress of an interval alone. -/
theorem Interval.fire_progress (c : CountAt) (waits : Bool) (i : Interval) :
    (i.fire c waits).1 = { i with progress := (i.fire c waits).1.progress } := by
  rcases Interval.fire_cases c waits i with ⟨-, h⟩ | ⟨-, h | h | ⟨-, h⟩⟩ | ⟨_, _, _, _, -, h | h⟩ <;> rw [h]

end

theorem Interval.dots_unopened {i : Interval} (h : i.unopened) : i.progress.dots = 0 := by
  rcases h with h | h | ⟨b, h⟩
  all_goals rw [h]; rfl

theorem dots_unfired (o l : Bool) : (unfired o l).dots = 0 := by
  cases l with
  | true => rfl
  | false => cases o <;> rfl

theorem dots_startOpen (now : Nat) (r : Rate) : (startOpen now r).1.dots = (startOpen now r).2 := by
  cases r <;> rfl

theorem dots_keepOpen (m : Bool) (r : Rate) (since : Nat) (on : Bool) (left d : Nat) :
    (keepOpen m r since on left d).1.dots = d + (keepOpen m r since on left d).2 := by
  cases r with
  | spray _ => rfl
  | jet pitch v =>
    by_cases h : 1 < left
    · rw [keepOpen_counts m h]; rfl
    · have hl := Nat.le_of_not_lt h
      cases on with
      | true => rw [keepOpen_closes m hl]; rfl
      | false =>
        cases m with
        | true => rw [keepOpen_opens hl]; rfl
        | false => rw [keepOpen_held hl]; rfl

/-- A count reports each dot that an interval opens (R97). -/
theorem Interval.dots_fire (c : CountAt) (waits : Bool) (i : Interval) :
    (i.fire c waits).1.progress.dots = i.progress.dots + (i.fire c waits).2 := by
  rcases Interval.fire_cases c waits i with ⟨-, h⟩ | ⟨hu, h | h | ⟨-, h⟩⟩ | ⟨_, _, _, _, hp, h | h⟩
  · rw [h]; rfl
  · rw [h, Interval.dots_unopened hu]; exact dots_unfired _ _
  · rw [h, Interval.dots_unopened hu]; rfl
  · rw [h, Interval.dots_unopened hu, Nat.zero_add]; exact dots_startOpen _ _
  · rw [h, hp]; rfl
  · rw [h, hp]; exact dots_keepOpen _ _ _ _ _ _

/-! ## One forward count on a schedule (R96) -/

/-- An interval of a valve that has not finished stands among some (R96). -/
def holdsBack (valve : Nat) (es : List Interval) : Bool := es.any fun e => e.valve == valve && !e.finished

theorem fireFrom_cons (c : CountAt) (earlier : List Interval) (i : Interval) (rest : List Interval) :
    (fireFrom c earlier (i :: rest)).1 = (fireFrom c (earlier ++ [(i.fire c (holdsBack i.valve earlier)).1]) rest).1 ∧
    (fireFrom c earlier (i :: rest)).2 = (i.fire c (holdsBack i.valve earlier)).2 +
      (fireFrom c (earlier ++ [(i.fire c (holdsBack i.valve earlier)).1]) rest).2 := ⟨rfl, rfl⟩

theorem fireFrom_prefix (c : CountAt) (l earlier : List Interval) : earlier <+: (fireFrom c earlier l).1 := by
  induction l generalizing earlier with
  | nil => exact List.prefix_rfl
  | cons i rest ih => exact (List.prefix_append _ _).trans (ih _)

theorem fireFrom_length (c : CountAt) (l earlier : List Interval) :
    (fireFrom c earlier l).1.length = earlier.length + l.length := by
  induction l generalizing earlier with
  | nil => rfl
  | cons i rest ih =>
    rw [(fireFrom_cons c earlier i rest).1, ih, List.length_append, List.length_singleton, List.length_cons]
    omega

theorem fireFrom_dots (c : CountAt) (l earlier : List Interval) : ((fireFrom c earlier l).1.map (·.progress.dots)).sum =
    (earlier.map (·.progress.dots)).sum + (l.map (·.progress.dots)).sum + (fireFrom c earlier l).2 := by
  induction l generalizing earlier with
  | nil => simp [fireFrom]
  | cons i rest ih =>
    obtain ⟨h1, h2⟩ := fireFrom_cons c earlier i rest
    rw [h1, h2, ih]
    simp only [List.map_append, List.sum_append, List.map_cons, List.map_nil, List.sum_cons, List.sum_nil, Interval.dots_fire]
    omega

/-- Each interval goes through the count behind those already taken. -/
theorem fireFrom_getElem? (c : CountAt) (l earlier : List Interval) {j : Nat} {i : Interval} (h : l[j]? = some i) :
    (fireFrom c earlier l).1[earlier.length + j]? =
      some (i.fire c (holdsBack i.valve ((fireFrom c earlier l).1.take (earlier.length + j)))).1 := by
  induction l generalizing earlier j with
  | nil => cases h
  | cons x rest ih =>
    rw [(fireFrom_cons c earlier x rest).1]
    cases j with
    | zero =>
      obtain rfl := Option.some.inj h
      obtain ⟨t, ht⟩ := fireFrom_prefix c rest (earlier ++ [(x.fire c (holdsBack x.valve earlier)).1])
      rw [← ht]
      simp
    | succ j =>
      have := ih (earlier ++ [(x.fire c (holdsBack x.valve earlier)).1]) h
      rwa [List.length_append, List.length_singleton, Nat.add_assoc, Nat.add_comm 1 j] at this

theorem holdsBack_take_iff {valve : Nat} {es : List Interval} {j : Nat} : holdsBack valve (es.take j) = true ↔
    ∃ (k : Nat) (e : Interval), k < j ∧ es[k]? = some e ∧ e.valve = valve ∧ e.finished = false := by
  simp only [holdsBack, List.any_eq_true, Bool.and_eq_true, beq_iff_eq, Bool.not_eq_true']
  constructor
  · rintro ⟨e, he, hv, hf⟩
    obtain ⟨k, hk⟩ := List.mem_iff_getElem?.1 he
    rw [List.getElem?_take] at hk
    split at hk
    next hkj => exact ⟨k, e, hkj, hk, hv, hf⟩
    · cases hk
  · rintro ⟨k, e, hk, he, hv, hf⟩
    exact ⟨e, List.mem_iff_getElem?.2 ⟨k, by rw [List.getElem?_take, if_pos hk, he]⟩, hv, hf⟩

/-- Settles O28: the count on each interval by its progress, the dots by their sum, and the pending events by their order. -/
theorem eventsFireWhenDue : Obligations.EventsFireWhenDue := by
  refine ⟨fun c l => ⟨?_, ?_, fun j i hi => ?_⟩, fun l => ⟨?_, fun e => ?_⟩⟩
  · exact (fireFrom_length c l []).trans (Nat.zero_add _)
  · exact (fireFrom_dots c l []).trans (by rw [List.map_nil, List.sum_nil, Nat.zero_add]; rfl)
  · have ho := fireFrom_getElem? c l [] hi
    rw [List.length_nil, Nat.zero_add] at ho
    generalize hw : holdsBack i.valve ((fireFrom c [] l).1.take j) = w at ho
    refine ⟨_, ho, Interval.fire_progress c w i, ?_⟩
    intro waits ready opens closes lapses
    have hwaits : w = true ↔ waits := hw ▸ holdsBack_take_iff
    have hopens : i.opensAt c w ↔ opens := by
      unfold Interval.opensAt
      rw [Interval.ready_iff, ← Bool.not_eq_true, hwaits]
    refine ⟨fun hu => ⟨fun hn => ?_, fun ho hl => ?_, fun ho hl => ?_⟩, fun since on left d hp => ⟨fun hc => ?_, fun hc => ?_⟩,
      fun hf => ?_⟩
    · have hr : i.ready c = true ↔ ready := Interval.ready_iff
      have hl : i.lapses c = true ↔ lapses := Interval.lapses_iff
      rw [Interval.fire_waits hu (hopens.not.2 hn), ← hr, ← hl]
      cases i.ready c <;> cases i.lapses c <;> simp [unfired]
    · rw [Interval.fire_passedOver hu (hopens.2 ho) (Interval.lapses_iff.2 hl)]
    · rw [Interval.fire_opens hu (hopens.2 ho) (Bool.of_not_eq_true (Interval.lapses_iff.not.2 hl))]
      exact ⟨fun f hr => by rw [hr]; rfl, fun pitch v hr => by rw [hr]; rfl⟩
    · rw [Interval.fire_closes hp ((CountAt.closeDue_iff c i).2 hc)]
      rfl
    · rw [Interval.fire_stays hp (Bool.of_not_eq_true ((CountAt.closeDue_iff c i).not.2 hc))]
      refine ⟨fun f hr => ?_, fun pitch v hr => ?_⟩
      · have hkeep : (keepOpen c.mayOpen i.rate since on left d).1 = i.progress := by
          rw [hr, hp]
          rfl
        rw [hkeep]
      · rw [hr]
        refine ⟨fun hleft => ?_, fun hleft hon => ?_, fun hleft hon hm => ?_, fun hleft hon hm => ?_⟩
        · rw [keepOpen_counts _ hleft]
        · rw [hon, keepOpen_closes _ hleft]
        · rw [hon, hm, keepOpen_opens hleft]
        · rw [hon, hm, keepOpen_held hleft]
    · rw [Interval.fire_finished hf]
  · exact (pendingEvents_ordered l).imp (ValveEvent.key_le_iff _ _).1
  · rw [mem_pendingEvents]
    simp only [Interval.mem_events]
    rfl

end Sys2Proof.Machine

end

section

namespace Sys2Proof.Machine

/-! ## The x that a valve's zones shut (R89) -/

/-- A zone of the recipe shuts an x for a valve: a NO_COAT zone, or a MASKED zone that is not VERIFIED, widened by its guard. -/
def Recipe.shut (c : CellCfg) (rc : Recipe) (vs : List Verdict) (valve x : Nat) : Prop :=
  ∃ (k gd : Nat) (z : BoardZone), rc.zones[k]? = some z ∧
    (z.kind = .noCoat ∧ gd = rc.clearance ∨
      z.kind = .masked ∧ vs.getD k .pending ≠ .verified ∧ gd = rc.clearance + c.maskGuard) ∧
    2 * (c.valveY0 + valve * c.valvePitch : Int) - c.swath ≤ 2 * ((z.y1 : Int) + gd) ∧
    2 * ((z.y0 : Int) - gd) ≤ 2 * (c.valveY0 + valve * c.valvePitch : Int) + c.swath ∧
    (z.x0 : Int) - gd ≤ (x : Int) ∧ (x : Int) ≤ (z.x1 : Int) + gd

/-- The exclusions cover an x. -/
def Covered (es : List Exclusion) (x : Nat) : Prop := ∃ e ∈ es, e.lo ≤ (x : Int) ∧ (x : Int) ≤ e.hi

theorem covered_append {es fs : List Exclusion} {x : Nat} : Covered (es ++ fs) x ↔ Covered es x ∨ Covered fs x := by
  simp only [Covered, List.mem_append, or_and_right, exists_or]

theorem covered_singleton {e : Exclusion} {x : Nat} : Covered [e] x ↔ e.lo ≤ (x : Int) ∧ (x : Int) ≤ e.hi := by
  simp [Covered]

/-- The exclusions of a valve cover what its zones shut. -/
theorem covered_exclusions {c : CellCfg} {rc : Recipe} {vs : List Verdict} {valve x : Nat} :
    Covered (exclusions c rc vs valve) x ↔ rc.shut c vs valve x := by
  simp only [Covered, exclusions, mem_exclusionsFrom, Nat.zero_add, exclusionOf_eq_some, zoneGuard_eq_some, bandTouches_iff,
    Recipe.shut]
  constructor
  · rintro ⟨e, ⟨k, z, hz, gd, hk, ⟨hy1, hy0⟩, rfl⟩, hlo, hhi⟩
    exact ⟨k, gd, z, hz, hk, hy1, hy0, hlo, hhi⟩
  · rintro ⟨k, gd, z, hz, hk, hy1, hy0, hlo, hhi⟩
    exact ⟨_, ⟨k, z, hz, gd, hk, ⟨hy1, hy0⟩, rfl⟩, hlo, hhi⟩

/-! ## Runs of x (R90) -/

/-- A run of consecutive x of [o, c) outside a set, as long as it can be: from its first x to the first x past it. -/
structure Run (o c : Nat) (shut : Nat → Prop) (p : Nat × Nat) : Prop where
  opens : o ≤ p.1
  holds : p.1 < p.2
  closes : p.2 ≤ c
  clear : ∀ x, p.1 ≤ x → x < p.2 → ¬ shut x
  first : p.1 = o ∨ shut (p.1 - 1)
  last : p.2 = c ∨ shut p.2

section
variable {o c : Nat} {shut : Nat → Prop} {p q : Nat × Nat} {e : Exclusion}

theorem run_iff {a b : Nat} : Run o c shut (a, b) ↔ o ≤ a ∧ a < b ∧ b ≤ c ∧ (∀ x, a ≤ x → x < b → ¬ shut x) ∧
    (a = o ∨ shut (a - 1)) ∧ (b = c ∨ shut b) :=
  ⟨fun ⟨h1, h2, h3, h4, h5, h6⟩ => ⟨h1, h2, h3, h4, h5, h6⟩, fun ⟨h1, h2, h3, h4, h5, h6⟩ => ⟨h1, h2, h3, h4, h5, h6⟩⟩

/-- A run does not start inside another. -/
theorem Run.first_le {x : Nat} (hp : Run o c shut p) (hq : Run o c shut q) (hx : p.1 ≤ x) (hxq : x < q.2) : p.1 ≤ q.1 := by
  by_contra h
  rcases hp.first with he | hs
  · have := hq.opens
    omega
  · exact hq.clear (p.1 - 1) (by omega) (by omega) hs

/-- A run does not end inside another. -/
theorem Run.last_le {x : Nat} (hp : Run o c shut p) (hq : Run o c shut q) (hx : p.1 ≤ x) (hxq : x < q.2) : p.2 ≤ q.2 := by
  by_contra h
  rcases hq.last with he | hs
  · have := hp.closes
    omega
  · exact hp.clear q.2 (by omega) (by omega) hs

/-- Two runs that share an x are one. -/
theorem Run.eq_of_shared {x : Nat} (hp : Run o c shut p) (hq : Run o c shut q) (hpx : p.1 ≤ x ∧ x < p.2)
    (hqx : q.1 ≤ x ∧ x < q.2) : p = q :=
  Prod.ext (Nat.le_antisymm (hp.first_le hq hpx.1 hqx.2) (hq.first_le hp hqx.1 hpx.2))
    (Nat.le_antisymm (hp.last_le hq hpx.1 hqx.2) (hq.last_le hp hqx.1 hpx.2))

/-! ### One exclusion cut out of a run -/

/-- An exclusion leaves of a piece what lies before it and what lies past it. -/
theorem mem_cutPiece : q ∈ cutPiece e p ↔ e.hi < e.lo ∧ q = p ∨ e.lo ≤ e.hi ∧ q.1 < q.2 ∧
    (q = (p.1, (min (p.2 : Int) e.lo).toNat) ∨ q = ((max (p.1 : Int) (e.hi + 1)).toNat, p.2)) := by
  unfold cutPiece
  split
  next h => simp [h, Int.not_le.2 h]
  next h =>
    simp only [List.mem_append, h, Int.not_lt.1 h, false_and, true_and, false_or, and_or_left]
    refine or_congr ?_ ?_
    all_goals
      split
      · simp only [List.mem_singleton]
        exact ⟨fun hq => ⟨hq ▸ ‹_›, hq⟩, fun hq => hq.2⟩
      · simp only [List.not_mem_nil, false_iff]
        rintro ⟨hlt, rfl⟩
        contradiction

/-- What a cut leaves lies inside the piece. -/
theorem inside_of_mem_cutPiece (hq : q ∈ cutPiece e p) (hp : p.1 < p.2) : p.1 ≤ q.1 ∧ q.1 < q.2 ∧ q.2 ≤ p.2 := by
  rcases mem_cutPiece.1 hq with ⟨-, rfl⟩ | ⟨-, hlt, rfl | rfl⟩
  · exact ⟨le_rfl, hp, le_rfl⟩
  · exact ⟨le_rfl, hlt, by dsimp only; omega⟩
  · exact ⟨by dsimp only; omega, hlt, le_rfl⟩

/-- A cut leaves its pieces in order. -/
theorem pairwise_cutPiece (e : Exclusion) (p : Nat × Nat) : (cutPiece e p).Pairwise fun a b => a.2 ≤ b.1 := by
  unfold cutPiece
  split
  · exact List.pairwise_singleton _ _
  · dsimp only
    split <;> split <;> simp
    omega

/-- What a cut leaves of a run is a run outside the exclusion too. -/
theorem Run.cutPiece (hp : Run o c shut p) (hq : q ∈ cutPiece e p) :
    Run o c (fun x => shut x ∨ e.lo ≤ (x : Int) ∧ (x : Int) ≤ e.hi) q := by
  obtain ⟨hin1, hlt, hin2⟩ := inside_of_mem_cutPiece hq hp.holds
  have hopens := hp.opens
  have hcloses := hp.closes
  have hclear (x : Nat) (h1 : q.1 ≤ x) (h2 : x < q.2) : ¬ shut x := hp.clear x (by omega) (by omega)
  rcases mem_cutPiece.1 hq with ⟨hempty, rfl⟩ | ⟨hle, -, rfl | rfl⟩
  · exact ⟨hopens, hlt, hcloses, fun x h1 h2 => not_or.2 ⟨hclear x h1 h2, by omega⟩, hp.first.imp_right .inl,
      hp.last.imp_right .inl⟩
  · refine ⟨hopens, hlt, by omega, fun x h1 h2 => not_or.2 ⟨hclear x h1 h2, ?_⟩, hp.first.imp_right .inl, ?_⟩
    · dsimp only at h2
      omega
    · dsimp only at hlt ⊢
      by_cases hend : (p.2 : Int) ≤ e.lo
      · rw [min_eq_left hend]
        exact hp.last.imp_right .inl
      · exact .inr (.inr (by omega))
  · refine ⟨by omega, hlt, hcloses, fun x h1 h2 => not_or.2 ⟨hclear x h1 h2, ?_⟩, ?_, hp.last.imp_right .inl⟩
    · dsimp only at h1
      omega
    · dsimp only at hlt ⊢
      by_cases hstart : e.hi + 1 ≤ (p.1 : Int)
      · rw [max_eq_left hstart]
        exact hp.first.imp_right .inl
      · exact .inr (.inr (by omega))

/-- An x of a piece outside the exclusion lies in what the cut leaves. -/
theorem exists_mem_cutPiece {x : Nat} (hx : p.1 ≤ x ∧ x < p.2) (he : ¬ (e.lo ≤ (x : Int) ∧ (x : Int) ≤ e.hi)) :
    ∃ q ∈ Machine.cutPiece e p, q.1 ≤ x ∧ x < q.2 := by
  by_cases hle : e.lo ≤ e.hi
  · by_cases hb : (x : Int) < e.lo
    · exact ⟨_, mem_cutPiece.2 (.inr ⟨hle, by dsimp only; omega, .inl rfl⟩), hx.1, by dsimp only; omega⟩
    · exact ⟨_, mem_cutPiece.2 (.inr ⟨hle, by dsimp only; omega, .inr rfl⟩), by dsimp only; omega, hx.2⟩
  · exact ⟨p, mem_cutPiece.2 (.inl ⟨Int.not_le.1 hle, rfl⟩), hx⟩

/-! ### The pieces of a segment -/

/-- Some pieces, in order, are the runs of [o, c) outside a set. -/
structure AreRuns (o c : Nat) (shut : Nat → Prop) (ps : List (Nat × Nat)) : Prop where
  ordered : ps.Pairwise fun a b => a.2 ≤ b.1
  runs : ∀ p ∈ ps, Run o c shut p
  covers : ∀ x, o ≤ x → x < c → ¬ shut x → ∃ p ∈ ps, p.1 ≤ x ∧ x < p.2

variable {ps : List (Nat × Nat)}

theorem AreRuns.mem_iff (h : AreRuns o c shut ps) : p ∈ ps ↔ Run o c shut p := by
  refine ⟨h.runs p, fun hp => ?_⟩
  have hlt := hp.holds
  obtain ⟨q, hq, hx⟩ := h.covers p.1 hp.opens (hlt.trans_le hp.closes) (hp.clear p.1 le_rfl hlt)
  exact hp.eq_of_shared (h.runs q hq) ⟨le_rfl, hlt⟩ hx ▸ hq

theorem AreRuns.nodup (h : AreRuns o c shut ps) : ps.Nodup :=
  h.ordered.imp_of_mem fun {a b} ha _ hab he => by
    have := (h.runs a ha).holds
    subst he
    omega

/-- The segment's interval, before any exclusion. -/
theorem areRuns_whole (o c : Nat) : AreRuns o c (fun _ => False) (if o < c then [(o, c)] else []) := by
  split
  next h =>
    refine ⟨List.pairwise_singleton _ _, fun p hp => ?_, fun x ho hc _ => ⟨_, List.mem_singleton.2 rfl, ho, hc⟩⟩
    obtain rfl := List.mem_singleton.1 hp
    exact ⟨le_rfl, h, le_rfl, fun _ _ _ => id, .inl rfl, .inl rfl⟩
  next h => exact ⟨.nil, fun p hp => absurd hp List.not_mem_nil, fun x ho hc => absurd (ho.trans_lt hc) h⟩

/-- One more exclusion cut out of every piece. -/
theorem AreRuns.cut (h : AreRuns o c shut ps) (e : Exclusion) :
    AreRuns o c (fun x => shut x ∨ e.lo ≤ (x : Int) ∧ (x : Int) ≤ e.hi) (ps.flatMap (Machine.cutPiece e)) where
  ordered := by
    refine List.pairwise_flatMap.2 ⟨fun p _ => pairwise_cutPiece e p, h.ordered.imp_of_mem ?_⟩
    intro a b ha hb hab x hx y hy
    obtain ⟨-, -, hxa⟩ := inside_of_mem_cutPiece hx (h.runs a ha).holds
    obtain ⟨hyb, -, -⟩ := inside_of_mem_cutPiece hy (h.runs b hb).holds
    omega
  runs q hq := by
    obtain ⟨p, hp, hqp⟩ := List.mem_flatMap.1 hq
    exact (h.runs p hp).cutPiece hqp
  covers x ho hc hx := by
    obtain ⟨p, hp, hxp⟩ := h.covers x ho hc fun hs => hx (.inl hs)
    obtain ⟨q, hq, hxq⟩ := exists_mem_cutPiece hxp fun he => hx (.inr he)
    exact ⟨q, List.mem_flatMap.2 ⟨p, hp, hq⟩, hxq⟩

end

/-- The pieces of a segment are the runs of its interval that no exclusion covers (R90). -/
theorem areRuns_piecesOf (es : List Exclusion) (g : Segment) : AreRuns g.xOpen g.xClose (Covered es) (piecesOf es g) := by
  have hfold (es fs : List Exclusion) (ps : List (Nat × Nat)) (h : AreRuns g.xOpen g.xClose (Covered fs) ps) :
      AreRuns g.xOpen g.xClose (Covered (fs ++ es)) (es.foldl (fun ps e => ps.flatMap (cutPiece e)) ps) := by
    induction es generalizing fs ps with
    | nil => simpa using h
    | cons e es ih =>
      have hcut := h.cut e
      simp only [← covered_singleton, ← covered_append] at hcut
      simpa using ih (fs ++ [e]) _ hcut
  refine hfold es [] _ ?_
  have hnone : Covered [] = fun _ => False := by funext x; simp [Covered]
  rw [hnone]
  exact areRuns_whole _ _

/-! ## The intervals of a recipe (R90, R92) -/

section
variable {minOpen k : Nat} {ex : Nat → List Exclusion} {gs : List Segment} {i : Interval}

theorem mem_intervalsOf {g : Segment} {es : List Exclusion} : i ∈ intervalsOf minOpen k g es ↔ i.segment = k ∧ i.progress = .armed ∧
    i.valve = g.valve ∧ i.rate = g.rate ∧ Run g.xOpen g.xClose (Covered es) (i.xOpen, i.xClose) ∧
    minOpen ≤ i.xClose - i.xOpen := by
  simp only [intervalsOf, List.mem_map, List.mem_filter, decide_eq_true_eq, (areRuns_piecesOf es g).mem_iff]
  constructor
  · rintro ⟨p, ⟨hp, hm⟩, rfl⟩
    exact ⟨rfl, rfl, rfl, rfl, hp, hm⟩
  · rintro ⟨hk, hp, hv, hr, hrun, hm⟩
    exact ⟨_, ⟨hrun, hm⟩, by rw [← hk, ← hp, ← hv, ← hr]⟩

theorem nodup_intervalsOf (minOpen k : Nat) (g : Segment) (es : List Exclusion) : (intervalsOf minOpen k g es).Nodup :=
  ((areRuns_piecesOf es g).nodup.filter _).map fun p q h => by
    simp only [Interval.mk.injEq] at h
    exact Prod.ext h.2.1 h.2.2.1

theorem mem_piecesFrom : i ∈ piecesFrom minOpen ex k gs ↔
    ∃ j g, gs[j]? = some g ∧ i ∈ intervalsOf minOpen (k + j) g (ex g.valve) := by
  induction gs generalizing k with
  | nil => simp [piecesFrom]
  | cons g gs ih =>
    rw [piecesFrom, List.mem_append, ih]
    constructor
    · rintro (h | ⟨j, y, hy, h⟩)
      · exact ⟨0, g, rfl, h⟩
      · exact ⟨j + 1, y, hy, by rwa [Nat.add_right_comm, Nat.add_assoc] at h⟩
    · rintro ⟨j | j, y, hy, h⟩
      · obtain rfl := Option.some.inj hy
        exact .inl h
      · exact .inr ⟨j, y, hy, by rwa [Nat.add_right_comm, Nat.add_assoc]⟩

theorem nodup_piecesFrom (minOpen : Nat) (ex : Nat → List Exclusion) (k : Nat) (gs : List Segment) :
    (piecesFrom minOpen ex k gs).Nodup := by
  induction gs generalizing k with
  | nil => exact .nil
  | cons g gs ih =>
    refine List.nodup_append.2 ⟨nodup_intervalsOf _ _ _ _, ih _, fun a ha b hb hab => ?_⟩
    obtain ⟨hk, -⟩ := mem_intervalsOf.1 ha
    obtain ⟨j, y, -, hy⟩ := mem_piecesFrom.1 hb
    obtain ⟨hj, -⟩ := mem_intervalsOf.1 hy
    subst hab
    omega

end

/-! ### The order of the schedule (R92) -/

/-- The order of the schedule: by x_open, then by valve. -/
def Interval.key (i : Interval) : ℕ ×ₗ ℕ := toLex (i.xOpen, i.valve)

theorem Interval.key_le_iff (a b : Interval) : a.key ≤ b.key ↔ a.xOpen < b.xOpen ∨ a.xOpen = b.xOpen ∧ a.valve ≤ b.valve :=
  Prod.Lex.toLex_le_toLex

theorem insertInterval_eq (i : Interval) (l : List Interval) :
    insertInterval i l = l.orderedInsert (fun a b => a.key < b.key) i := by
  have hbefore (a b : Interval) : a.before b = true ↔ a.key ≤ b.key := by
    rw [Interval.key_le_iff]
    simp [Interval.before]
  induction l with
  | nil => rfl
  | cons x t ih => simp only [insertInterval, List.orderedInsert, ih, hbefore, ← not_le, ite_not]

theorem sortIntervals_eq (l : List Interval) :
    sortIntervals l = l.foldl (fun s i => s.orderedInsert (fun a b => a.key < b.key) i) [] := by
  unfold sortIntervals
  simp only [insertInterval_eq]

theorem sortIntervals_ordered (l : List Interval) : (sortIntervals l).Pairwise fun a b => a.key ≤ b.key := by
  rw [sortIntervals_eq]
  exact pairwise_foldl_orderedInsert _ _ .nil

theorem sortIntervals_perm (l : List Interval) : (sortIntervals l).Perm l := by
  rw [sortIntervals_eq]
  simpa using perm_foldl_orderedInsert Interval.key l []

/-! ### The schedule -/

section
variable (c : CellCfg) (rc : Recipe) (vs : List Verdict)

/-- The intervals of a recipe in the order of the schedule, before the cut at 128. -/
def Recipe.allIntervals : List Interval := sortIntervals (piecesFrom c.minOpen (exclusions c rc vs) 0 rc.segments)

theorem buildSchedule_intervals : (buildSchedule c rc vs).intervals = (rc.allIntervals c vs).take 128 := rfl

theorem buildSchedule_full : (buildSchedule c rc vs).full = true ↔ 128 < (rc.allIntervals c vs).length := decide_eq_true_iff

theorem Recipe.allIntervals_ordered : (rc.allIntervals c vs).Pairwise
    fun a b => a.xOpen < b.xOpen ∨ a.xOpen = b.xOpen ∧ a.valve ≤ b.valve :=
  (sortIntervals_ordered _).imp (Interval.key_le_iff _ _).1

theorem Recipe.allIntervals_nodup : (rc.allIntervals c vs).Nodup :=
  (sortIntervals_perm _).nodup_iff.2 (nodup_piecesFrom _ _ _ _)

variable {c rc vs}

theorem Recipe.mem_allIntervals {i : Interval} : i ∈ rc.allIntervals c vs ↔ i.progress = .armed ∧
    ∃ g, rc.segments[i.segment]? = some g ∧ i.valve = g.valve ∧ i.rate = g.rate ∧
      Run g.xOpen g.xClose (rc.shut c vs g.valve) (i.xOpen, i.xClose) ∧ c.minOpen ≤ i.xClose - i.xOpen := by
  have hcover (valve : Nat) : Covered (exclusions c rc vs valve) = rc.shut c vs valve :=
    funext fun _ => propext covered_exclusions
  rw [Recipe.allIntervals, (sortIntervals_perm _).mem_iff, mem_piecesFrom]
  simp only [mem_intervalsOf, hcover, Nat.zero_add]
  constructor
  · rintro ⟨j, g, hg, rfl, hp, h⟩
    exact ⟨hp, g, hg, h⟩
  · rintro ⟨hp, g, hg, h⟩
    exact ⟨_, g, hg, rfl, hp, h⟩

end

/-- Settles O27: the intervals are the runs of the segments, in order, and the schedule the first 128 of them. -/
theorem scheduleAvoidsExclusions : Obligations.ScheduleAvoidsExclusions := by
  intro c rc vs built l shut piece
  have hpiece (g : Segment) (a b : Nat) : piece g a b ↔ Run g.xOpen g.xClose (rc.shut c vs g.valve) (a, b) := run_iff.symm
  have hl : l = (rc.allIntervals c vs).take 128 := buildSchedule_intervals c rc vs
  have hmem {i : Interval} (h : i ∈ l) : i ∈ rc.allIntervals c vs := List.mem_of_mem_take (hl ▸ h)
  refine ⟨⟨?_, ?_⟩, fun i hi => ?_, fun hfull k g a b x hg hp hm hax hxb => ?_, rc.allIntervals c vs,
    Recipe.allIntervals_nodup c rc vs, Recipe.allIntervals_ordered c rc vs, fun i => ?_, hl, buildSchedule_full c rc vs⟩
  · rw [hl]
    exact List.length_take_le _ _
  · rw [hl]
    exact (Recipe.allIntervals_ordered c rc vs).take
  · obtain ⟨-, g, -, hv, -, hrun, hm⟩ := Recipe.mem_allIntervals.1 (hmem hi)
    exact ⟨hrun.holds, hm, hv ▸ hrun.clear⟩
  · have hall : l = rc.allIntervals c vs := by
      rw [hl, List.take_of_length_le]
      have := (buildSchedule_full c rc vs).not.1 (Bool.not_eq_true _ ▸ hfull)
      omega
    exact ⟨{ valve := g.valve, xOpen := a, xClose := b, rate := g.rate, segment := k, progress := .armed },
      hall ▸ Recipe.mem_allIntervals.2 ⟨rfl, g, hg, rfl, rfl, (hpiece g a b).1 hp, hm⟩, rfl, rfl, hax, hxb⟩
  · rw [Recipe.mem_allIntervals]
    simp only [hpiece]

end Sys2Proof.Machine

end

section

namespace Sys2Proof.Machine

/-! ## The events of the spray encoder (R84 to R86) -/

theorem EncoderEdge.takes_iff (e : EncoderEdge) (rising : Bool) : e.takes rising = true ↔ rising = true ∨ e = .both := by
  cases e <;> simp [EncoderEdge.takes]

/-- The time base moved on (log 18). -/
def State.moved (s : State) (elapsed : Nat) : State := { s with spray := { s.spray with tenths := s.spray.tenths + elapsed } }

/-- The time base and the speed window as a forward count is taken. -/
def State.atCount (s : State) (elapsed : Nat) : State := { s with spray := { s.spray with
  tenths := s.spray.tenths + elapsed
  windowCount := min (s.spray.windowCount + 1) 255 } }

section
variable {s : State} {dir : Direction} {rising : Bool} {e : Nat}

theorem State.exec_sprayEncoderCount_taken (hl : s.loaded = true) (h : rising = true ∨ s.cfg.edge = .both) :
    exec (.sprayEncoderCount dir rising e) s = .next ((s.moved e).sprayCount dir) := by
  show Host.Outcome.next (s.live _) = _
  rw [State.live_of_loaded hl]
  exact congrArg _ (if_pos ((EncoderEdge.takes_iff _ _).2 h))

/-- An edge that is not a count moves the time base alone. -/
theorem State.exec_sprayEncoderCount_missed (hl : s.loaded = true) (h : ¬ (rising = true ∨ s.cfg.edge = .both)) :
    exec (.sprayEncoderCount dir rising e) s = .next (s.moved e) := by
  show Host.Outcome.next (s.live _) = _
  rw [State.live_of_loaded hl]
  exact congrArg _ (if_neg ((EncoderEdge.takes_iff _ _).not.2 h))

/-! ### Counts outside a pass and in a pass -/

theorem State.sprayCount_forward_outside (h : s.sprayIs .spraying = false) : (s.moved e).sprayCount .forward = s.atCount e :=
  if_neg (show ¬ s.sprayIs .spraying = true by simp [h])

theorem State.sprayCount_reverse_outside (h : s.sprayIs .spraying = false) : (s.moved e).sprayCount .reverse = s.moved e :=
  if_neg (show ¬ s.sprayIs .spraying = true by simp [h])

theorem State.sprayCount_forward_inside (h : s.sprayIs .spraying = true) :
    (s.moved e).sprayCount .forward = (s.atCount e).passForward := if_pos h

theorem State.sprayCount_reverse_inside (h : s.sprayIs .spraying = true) :
    (s.moved e).sprayCount .reverse = (s.moved e).passReverse := if_pos h

theorem State.passReverse_requests (h : s.sprayIs .spraying = true) (ha : s.spray.abort = none) :
    s.passReverse = { s with spray := { s.spray with abort := some 200 } } := by
  unfold State.passReverse State.requestAbort
  rw [ha, if_neg (by simp), if_pos ⟨h, rfl⟩]
  rfl

theorem State.passReverse_aborts {k : Nat} (ha : s.spray.abort = some k) : s.passReverse = s.abortPass :=
  if_pos (by simp [ha])

end

/-! ### A forward count in a pass -/

theorem State.countAt_atCount (s : State) (e : Nat) : (s.atCount e).countAt =
    { travelled := min (s.spray.travelled + 1) 65535, now := s.spray.tenths + e, stopToBar := s.cfg.stopToBar,
      openLead := s.openLead, closeLead := s.closeLead, mayOpen := s.spray.abort.isNone } := rfl

theorem State.reportDots_eq (s : State) (n : Nat) : s.reportDots n = (fun t : State => t.report .jetDots 0)^[n] s := by
  induction n generalizing s with
  | zero => rfl
  | succ n ih => rw [State.reportDots, ih, Function.iterate_succ_apply]

theorem State.reportDots_schedule (s : State) (n : Nat) : (s.reportDots n).spray.schedule = s.spray.schedule := by
  induction n generalizing s with
  | zero => rfl
  | succ n ih => rw [State.reportDots, ih, State.report_schedule]

/-- A pass after a forward count has fired what is due and reported its dots (R96, R97). -/
def State.counted (s : State) (l : List Interval) : State :=
  State.reportDots { s with spray := { s.spray with
    travelled := min (s.spray.travelled + 1) 65535
    schedule := some (fireFrom s.countAt [] l).1 } } (fireFrom s.countAt [] l).2

theorem State.counted_frame (s : State) (l : List Interval) : (s.counted l).table = s.table ∧ (s.counted l).store = s.store ∧
    (s.counted l).cfg = s.cfg ∧ (s.counted l).seconds = s.seconds ∧ (s.counted l).supply = s.supply ∧
    (s.counted l).spray.schedule = some (fireFrom s.countAt [] l).1 := by
  simp [State.counted, State.reportDots_schedule]

section
variable {s : State} {l : List Interval} (hs : s.spray.schedule = some l)
include hs

theorem State.intervals_eq : s.intervals = l := by
  unfold State.intervals
  rw [hs]
  rfl

/-- A forward count of a pass that goes on. -/
theorem State.passForward_goes_on (ha : s.spray.abort = none) (h : ∃ o ∈ (fireFrom s.countAt [] l).1, o.finished = false) :
    s.passForward = s.counted l := by
  obtain ⟨o, ho, hf⟩ := h
  have hall : ¬ ((fireFrom s.countAt [] l).1.all (·.finished)) = true := fun hall => by
    rw [List.all_eq_true.1 hall o ho] at hf
    cases hf
  unfold State.passForward
  rw [State.intervals_eq hs, ha]
  exact if_neg hall

/-- A forward count that finishes the last interval. -/
theorem State.passForward_ends (ha : s.spray.abort = none) (h : ∀ o ∈ (fireFrom s.countAt [] l).1, o.finished = true) :
    s.passForward = (s.counted l).passEnd.endBoardClaim := by
  unfold State.passForward
  rw [State.intervals_eq hs, ha]
  exact if_pos (List.all_eq_true.2 h)

/-- A forward count of a pass whose abort is pending. -/
theorem State.passForward_aborts {k : Nat} (ha : s.spray.abort = some k) :
    s.passForward = (s.counted l).abortPass := by
  unfold State.passForward
  rw [State.intervals_eq hs, ha]
  rfl

end

/-! ## The own claim of a board, ended (R98, R103, R125) -/

/-- A claim that is granted to the board is ended with its SUPPLY_DONE, in a state that an event has left its claim. -/
theorem State.endBoardClaim_granted {s t : State} (hs : t.supply = s.supply) (hc : t.cfg = s.cfg)
    (hb : s.supply.holder = some .board) (ho : s.supply.own = .granted) : t.endBoardClaim = { t with
      supply := { s.supply with own := .ending }
      link := t.link.post s.doneTelegram } := by
  have hdone : t.doneTelegram = s.doneTelegram := by rw [State.doneTelegram, State.doneTelegram, hs, hc]
  unfold State.endBoardClaim
  rw [if_pos (hs ▸ hb), State.endClaim_of_active (.inr (hs ▸ ho)), hdone, hs]

/-- A pass that a forward count ends: judged, and reported by a FILM_MARGIN event. -/
theorem State.passEnd_counted {s : State} {r : Record} {rc : Recipe} (l : List Interval) (hr : s.table.spray = some r)
    (hb : r.bound s.store = some rc) {e : Nat × Nat}
    (he : (extremes (filmsOf s.cfg.swath (fireFrom s.countAt [] l).1)).getD (0, 0) = e) :
    (s.counted l).passEnd = State.report { s.counted l with
      table := { s.table with spray := some (r.sprayed s.seconds rc e) }
      spray := { (s.counted l).spray with schedule := none, abort := none } } .filmMargin (filmResult rc e).margin := by
  obtain ⟨htable, hstore, hcfg, hseconds, -, hschedule⟩ := s.counted_frame l
  have hrecord : r.sprayed (s.counted l).seconds rc e = r.sprayed s.seconds rc e := by rw [hseconds]
  rw [State.passEnd_eq (htable ▸ hr) (hstore ▸ hb) (by rw [State.intervals_eq hschedule, hcfg, he]), htable, hrecord]

/-- Settles O32: the counts outside a pass, the speed window, and in a pass the counts that go on, end it or request its abort. -/
theorem sprayEncoderCounts : Obligations.SprayEncoderCounts := by
  refine ⟨⟨fun s rising e hl hn => ?_, fun s hl => ?_⟩, fun s r l rising e hl hr hp hs ha hedge => ?_⟩
  · by_cases hedge : rising = true ∨ s.cfg.edge = .both
    · rw [if_pos hedge, State.exec_sprayEncoderCount_taken hl hedge, State.exec_sprayEncoderCount_taken hl hedge,
        State.sprayCount_forward_outside hn, State.sprayCount_reverse_outside hn]
      exact ⟨rfl, rfl⟩
    · rw [if_neg hedge, State.exec_sprayEncoderCount_missed hl hedge, State.exec_sprayEncoderCount_missed hl hedge]
      exact ⟨rfl, rfl⟩
  · refine ⟨_, ?_, rfl, rfl, rfl⟩
    show Host.Outcome.next (s.live _) = _
    rw [State.live_of_loaded hl]
  · intro now count out counted
    have hin : s.sprayIs .spraying = true := by rw [State.sprayIs_eq hr, hp]; rfl
    have hcount : (s.atCount e).countAt = count := by
      rw [State.countAt_atCount, ha]
      rfl
    have hcounted : (s.atCount e).counted l = counted := by
      rw [State.counted, State.reportDots_eq, hcount]
      rfl
    refine ⟨?_, fun h => ?_, fun rc h hb ho hh => ?_⟩
    · rw [State.exec_sprayEncoderCount_taken hl hedge, State.sprayCount_reverse_inside hin,
        State.passReverse_requests (s := s.moved e) hin ha]
      rfl
    · rw [State.exec_sprayEncoderCount_taken hl hedge, State.sprayCount_forward_inside hin,
        State.passForward_goes_on (s := s.atCount e) hs ha (hcount ▸ h), hcounted]
    · refine ⟨filmResult rc ((extremes (filmsOf s.cfg.swath out)).getD (0, 0)), rfl, filmMargin_eq _ _, ?_⟩
      intro thin judged
      have hjudged : ((s.atCount e).counted l).passEnd = judged := by
        rw [State.passEnd_counted (s := s.atCount e) l hr hb (by rw [hcount]), Record.sprayed_eq, hcounted]
        rfl
      obtain ⟨-, -, hcfg, -, hsupply, -⟩ := (s.atCount e).counted_frame l
      rw [State.exec_sprayEncoderCount_taken hl hedge, State.sprayCount_forward_inside hin,
        State.passForward_ends (s := s.atCount e) hs ha (hcount ▸ h),
        State.endBoardClaim_granted (s := s.atCount e) (by simpa using hsupply) (by simpa using hcfg) hh ho, hjudged]
      rfl

end Sys2Proof.Machine

end

section

namespace Sys2Proof.Machine

/-! ## A pass that is aborted (R100, R103) -/

theorem keepOpen_no_dot (r : Rate) (since : Nat) (on : Bool) (left d : Nat) : (keepOpen false r since on left d).2 = 0 := by
  cases r with
  | spray _ => rfl
  | jet pitch v =>
    by_cases h : 1 < left
    · rw [keepOpen_counts false h]
    · cases on with
      | true => rw [keepOpen_closes false (Nat.le_of_not_lt h)]
      | false => rw [keepOpen_held (Nat.le_of_not_lt h)]

/-- With no opens allowed a count opens no dot (R100). -/
theorem fireFrom_no_dots {c : CountAt} (hm : c.mayOpen = false) (l earlier : List Interval) : (fireFrom c earlier l).2 = 0 := by
  have hfire (waits : Bool) (i : Interval) : (i.fire c waits).2 = 0 := by
    rcases Interval.fire_cases c waits i with ⟨-, h⟩ | ⟨-, h | h | ⟨ho, -⟩⟩ | ⟨since, on, left, d, -, h | h⟩
    · rw [h]
    · rw [h]
    · rw [h]
    · rw [hm] at ho; cases ho
    · rw [h]
    · rw [h, hm]; exact keepOpen_no_dot _ _ _ _ _
  induction l generalizing earlier with
  | nil => rfl
  | cons i rest ih => rw [(fireFrom_cons c earlier i rest).2, hfire, ih]

/-- The record of an aborted pass, judged over some films. -/
def Record.cutJudged (r : Record) (now : Seconds) (rc : Recipe) (films : List Nat) : Record :=
  match extremes films with
  | none => r.cutOff now
  | some e => (r.cutOff now).withFilm rc e

/-- The FILM_MARGIN event of some films, where there are any (R108). -/
def State.reportFilms (s : State) (rc : Recipe) (films : List Nat) : State :=
  match extremes films with
  | none => s
  | some e => s.report .filmMargin (filmResult rc e).margin

/-- A state with its pass aborted and judged over some films, before its event and the end of its claim (R103). -/
def State.cutFor (s : State) (r : Record) (rc : Recipe) (films : List Nat) (sp : Sprayer) : State := { s with
  table := { s.table with spray := some (r.cutJudged s.seconds rc films) }
  spray := { sp with schedule := none, abort := none } }

/-- A state with its pass aborted, judged and reported, before the end of its claim. -/
def State.cutShort (s : State) (r : Record) (rc : Recipe) (films : List Nat) (sp : Sprayer) : State :=
  (s.cutFor r rc films sp).reportFilms rc films

theorem State.cutShort_frame (s : State) (r : Record) (rc : Recipe) (films : List Nat) (sp : Sprayer) :
    (s.cutShort r rc films sp).table = { s.table with spray := some (r.cutJudged s.seconds rc films) } ∧
    (s.cutShort r rc films sp).tracker = s.tracker ∧ (s.cutShort r rc films sp).mask = s.mask ∧
    (s.cutShort r rc films sp).supply = s.supply ∧ (s.cutShort r rc films sp).cfg = s.cfg := by
  unfold State.cutShort State.reportFilms
  split <;> simp [State.cutFor]

section
variable {s : State} {r : Record} {rc : Recipe} {l : List Interval}

theorem State.abortPass_eq (hr : s.table.spray = some r) (hb : r.bound s.store = some rc) (hs : s.spray.schedule = some l) :
    s.abortPass = (s.cutShort r rc (filmsOf s.cfg.swath l) s.spray).endBoardClaim := by
  have hi := State.intervals_eq hs
  unfold State.abortPass
  rw [State.finishSpray_abort hr]
  unfold State.cutShort State.cutFor State.reportFilms State.passCut State.abortedRecord Record.cutJudged
  rw [hi, hb]
  cases extremes (filmsOf s.cfg.swath l) with
  | none => rfl
  | some e => rfl

/-- The own claim of the board after an event that ends it, where it is granted or there is none. -/
theorem State.endBoardClaim_eq {t : State} (hs : t.supply = s.supply) (hc : t.cfg = s.cfg)
    (h : s.supply.holder ≠ some .board ∨ s.supply.own = .granted ∨ s.supply.own = .none) : t.endBoardClaim =
      if s.supply.holder = some .board ∧ s.supply.own = .granted then
        { t with supply := { s.supply with own := .ending }, link := t.link.post s.doneTelegram } else t := by
  by_cases hb : s.supply.holder = some .board
  · rcases h with h | h | h
    · exact absurd hb h
    · rw [if_pos ⟨hb, h⟩, State.endBoardClaim_granted hs hc hb h]
    · rw [if_neg (by simp [h])]
      unfold State.endBoardClaim
      rw [if_pos (hs ▸ hb), State.endClaim_of_none (.inl (hs ▸ h))]
  · rw [if_neg (fun hh => hb hh.1)]
    unfold State.endBoardClaim
    rw [if_neg (hs ▸ hb)]

end

/-! ### The filters under an abort -/

/-- A state with other filters. -/
def State.withInputs (s : State) (i : Inputs) : State := { s with inputs := i }

section
variable {s : State} {i : Inputs}

theorem State.notice_withInputs (code : Byte) (body : List Byte) :
    (s.withInputs i).notice code body = (s.notice code body).withInputs i := by
  unfold State.notice State.withInputs
  dsimp only
  split <;> rfl

theorem State.beginAction_withInputs (k : Fin 4) : (s.withInputs i).beginAction k = (s.beginAction k).withInputs i := by
  unfold State.beginAction
  have hsame : (s.withInputs i).cfg = s.cfg := rfl
  rw [hsame]
  dsimp only
  split
  · rfl
  · rfl
  · rfl
  · rw [State.notice_withInputs]
    rfl

theorem State.reportTo_withInputs (src : Source) (margin : Int) (k : Fin 4) :
    State.reportTo src margin (s.withInputs i) k = (State.reportTo src margin s k).withInputs i := by
  unfold State.reportTo
  have hsame : (s.withInputs i).cfg = s.cfg := rfl
  have hwatch : (s.withInputs i).watch = s.watch := rfl
  rw [hsame, hwatch]
  dsimp only
  split
  · split
    · exact State.beginAction_withInputs (s := { s with watch := s.watch.set k.val (s.watch[k].event s.cfg.watch[k] margin) k.isLt }) k
    · rfl
  · rfl

/-- An event reaches the counters whatever the filters hold. -/
theorem State.report_withInputs (src : Source) (margin : Int) :
    (s.withInputs i).report src margin = (s.report src margin).withInputs i := by
  unfold State.report
  generalize ([0, 1, 2, 3] : List (Fin 4)) = l
  induction l generalizing s with
  | nil => rfl
  | cons k l ih => rw [List.foldl_cons, List.foldl_cons, State.reportTo_withInputs, ih]

theorem State.reportFilms_withInputs (rc : Recipe) (films : List Nat) :
    (s.withInputs i).reportFilms rc films = (s.reportFilms rc films).withInputs i := by
  unfold State.reportFilms
  cases extremes films with
  | none => rfl
  | some e => exact State.report_withInputs _ _

theorem State.cutShort_withInputs (r : Record) (rc : Recipe) (films : List Nat) (sp : Sprayer) :
    (s.withInputs i).cutShort r rc films sp = (s.cutShort r rc films sp).withInputs i :=
  State.reportFilms_withInputs (s := s.cutFor r rc films sp) rc films

theorem State.endBoardClaim_withInputs : (s.withInputs i).endBoardClaim = s.endBoardClaim.withInputs i := by
  have hend : (s.withInputs i).endClaim = s.endClaim.withInputs i := by
    unfold State.endClaim
    have hsame : (s.withInputs i).supply = s.supply := rfl
    rw [hsame]
    split
    · rfl
    · rfl
    · rfl
    · rfl
    · rfl
    · split <;> rfl
    · rfl
  unfold State.endBoardClaim
  have hsame : (s.withInputs i).supply = s.supply := rfl
  rw [hsame, hend]
  split <;> rfl

end

/-! ### The move to GATE of a pass that has not ended (R102) -/

section
variable {s : State}

theorem State.moveTest_toGate_made (hm : s.tracker.moves.toGate = true) (ho : s.occupied .gate = true)
    (he : s.sensorEmpty .spray = true) : s.moveTest .toGate = s.completeMove .toGate :=
  State.moveTest_made (by simp [State.moveMade, State.underWay, moveDest, moveSource, hm, ho, he]) (by simp)

theorem State.occupiedEdge_gate_made (hm : s.tracker.moves.toGate = true) (ho : s.occupied .gate = true)
    (he : s.sensorEmpty .spray = true) : s.occupiedEdge .gate = s.completeMove .toGate := by
  unfold State.occupiedEdge
  rw [if_pos (by simpa [State.conveyed] using hm)]
  exact State.moveTest_toGate_made hm ho he

/-- At SPRAY's empty edge the move into SPRAY does not complete as well: its to-sensor stands empty. -/
theorem State.emptyEdge_spray_made (hm : s.tracker.moves.toGate = true) (ho : s.occupied .gate = true)
    (he : s.sensorEmpty .spray = true) : s.emptyEdge .spray = s.completeMove .toGate := by
  unfold State.emptyEdge
  dsimp only
  rw [if_pos (by simp [State.conveyed, State.raiseStop, hm])]
  show (s.moveTest .toSpray).moveTest .toGate = _
  rw [State.moveTest_of_not_made (m := .toSpray) (by simp [State.moveMade, moveDest, State.occupied_of_sensorEmpty he]),
    State.moveTest_toGate_made hm ho he]

/-- Either edge that completes the move to GATE (R13). -/
theorem State.exec_edge_toGate {p : Position} {b : Bool} (ht : s.tracking = true) (hl : (s.inputs.pos.get p).level = some (!b))
    (hm : s.tracker.moves.toGate = true)
    (hp : p = .gate ∧ b = true ∧ s.sensorEmpty .spray = true ∨ p = .spray ∧ b = false ∧ s.occupied .gate = true) :
    exec (edgeCommand p b) s = .next ((s.setLevel p b).completeMove .toGate).settle := by
  rcases hp with ⟨rfl, rfl, he⟩ | ⟨rfl, rfl, ho⟩
  · have hedge : (s.setLevel .gate true).occupiedEdge .gate = _ :=
      State.occupiedEdge_gate_made hm (by simp [State.occupied_setLevel]) (by simpa [State.sensorEmpty_setLevel] using he)
    show exec (.occupiedEdge .gate) s = _
    rw [State.exec_occupiedEdge ht (by simpa [State.sensorEmpty] using hl), hedge]
  · have hedge : (s.setLevel .spray false).emptyEdge .spray = _ :=
      State.emptyEdge_spray_made hm (by simpa [State.occupied_setLevel] using ho) (by simp [State.sensorEmpty_setLevel])
    show exec (.emptyEdge .spray) s = _
    rw [State.exec_emptyEdge ht (by simpa [State.occupied] using hl), hedge]

theorem State.completeMove_toGate_spraying (h : s.sprayIs .spraying = true) :
    s.completeMove .toGate = s.abortPass.carryOver .toGate := by
  simp [State.completeMove, h]

end

/-- A forward count that opens no dot. -/
theorem State.counted_no_dots {s : State} {l : List Interval} (h : s.countAt.mayOpen = false) : s.counted l = { s with
    spray := { s.spray with
      travelled := min (s.spray.travelled + 1) 65535
      schedule := some (fireFrom s.countAt [] l).1 } } := by
  unfold State.counted
  rw [fireFrom_no_dots h]
  rfl

theorem State.abortPass_counted {s : State} {r : Record} {rc : Recipe} (l : List Interval) (hr : s.table.spray = some r)
    (hb : r.bound s.store = some rc) (h : s.countAt.mayOpen = false) : (s.counted l).abortPass =
      (s.cutShort r rc (filmsOf s.cfg.swath (fireFrom s.countAt [] l).1)
        { s.spray with travelled := min (s.spray.travelled + 1) 65535 }).endBoardClaim := by
  rw [State.counted_no_dots h]
  exact State.abortPass_eq hr hb rfl

/-- The move to GATE of a pass that has not ended: the pass is aborted, and its record carried over (R102). -/
theorem State.completeMove_toGate_aborts {s : State} {r : Record} {rc : Recipe} {l : List Interval} (hr : s.table.spray = some r)
    (hp : r.spray = .spraying) (hb : r.bound s.store = some rc) (hs : s.spray.schedule = some l) (hc : s.mask.cand ≠ some .spray)
    (i : Inputs) : (s.withInputs i).completeMove .toGate =
      { (s.cutShort r rc (filmsOf s.cfg.swath l) s.spray).endBoardClaim with
        inputs := i
        table := { s.table with gate := some (r.cutJudged s.seconds rc (filmsOf s.cfg.swath l)), spray := none }
        tracker := { s.tracker with moves := { s.tracker.moves with toGate := false } } } := by
  obtain ⟨htable, htracker, hmask, -⟩ := s.cutShort_frame r rc (filmsOf s.cfg.swath l) s.spray
  have habort : (s.withInputs i).abortPass =
      (s.cutShort r rc (filmsOf s.cfg.swath l) s.spray).endBoardClaim.withInputs i := by
    rw [← State.endBoardClaim_withInputs, ← State.cutShort_withInputs]
    exact State.abortPass_eq hr hb hs
  generalize hx : (s.cutShort r rc (filmsOf s.cfg.swath l) s.spray).endBoardClaim = x at habort
  have hxtable : x.table = { s.table with spray := some (r.cutJudged s.seconds rc (filmsOf s.cfg.swath l)) } := by
    simp [← hx, htable]
  have hxtracker : x.tracker = s.tracker := by simp [← hx, htracker]
  have hxmask : x.mask = s.mask := by simp [← hx, hmask]
  have hin : (s.withInputs i).sprayIs .spraying = true := (State.sprayIs_eq (s := s.withInputs i) hr _).trans (by rw [hp]; rfl)
  rw [State.completeMove_toGate_spraying hin, habort, State.carryOver_toGate (s := x.withInputs i) (hxmask ▸ hc)]
  show { x with
    inputs := i
    table := { x.table with gate := x.table.spray, spray := none }
    tracker := { x.tracker with moves := { x.tracker.moves with toGate := false } } } = _
  rw [hxtable, hxtracker]

/-- Settles O33: what the abort leaves, at each event at which it takes effect. -/
theorem abortTakesEffect : Obligations.AbortTakesEffect := by
  intro s r rc l hr hspraying hs hb hclaim aborted judged told ended after
  have hin : s.sprayIs .spraying = true := by rw [State.sprayIs_eq hr, hspraying]; rfl
  have hjudged (films : List Nat) : r.cutJudged s.seconds rc films = judged films := by
    simp only [Record.cutJudged, judged]
    cases extremes films with
    | none => rfl
    | some e => exact (Record.withFilm_eq _ _ _).trans (by rw [filmResult_eq]; rfl)
  have hafter (films : List Nat) (sp : Sprayer) : (s.cutShort r rc films sp).endBoardClaim = after films sp := by
    obtain ⟨-, -, -, hsupply, hcfg⟩ := s.cutShort_frame r rc films sp
    rw [State.endBoardClaim_eq hsupply hcfg hclaim]
    refine congrArg ended ?_
    rw [State.cutShort, State.cutFor, State.reportFilms, hjudged]
    simp only [told]
    cases extremes films with
    | none => rfl
    | some e => exact congrArg (State.report _ .filmMargin) (filmMargin_eq rc e)
  refine ⟨fun k hl ha => ⟨?_, fun rising e hedge => ⟨?_, ?_⟩⟩, fun p b ht hl hm hc hp => ?_⟩
  · show Host.Outcome.next (s.when (s.loaded && s.sprayIs .spraying && s.spray.abort.isSome) State.abortPass) = _
    rw [hl, hin, ha, ← hafter, ← State.abortPass_eq hr hb hs]
    rfl
  · rw [State.exec_sprayEncoderCount_taken hl hedge, State.sprayCount_reverse_inside hin,
      State.passReverse_aborts (s := s.moved e) ha, State.abortPass_eq (s := s.moved e) hr hb hs, ← hafter]
    rfl
  · intro count
    have hcount : (s.atCount e).countAt = count := by
      rw [State.countAt_atCount, ha]
      rfl
    rw [State.exec_sprayEncoderCount_taken hl hedge, State.sprayCount_forward_inside hin,
      State.passForward_aborts (s := s.atCount e) hs ha, State.abortPass_counted (s := s.atCount e) l hr hb (by rw [hcount]),
      hcount, ← hafter]
    rfl
  · rw [State.exec_edge_toGate ht hl hm hp, ← hafter, ← hjudged]
    exact congrArg (fun t => Host.Outcome.next (State.settle t)) (State.completeMove_toGate_aborts hr hspraying hb hs hc _)

end Sys2Proof.Machine

end

section

namespace Sys2Proof.Machine

/-! ## The laws of the supply and of spraying in a loaded cell (R102, R110, R116, R122, R123) -/

/-- A record SPRAYING stands at a position. -/
def State.Sprays (s : State) (p : Position) : Prop := ∃ r, s.table.get p = some r ∧ r.spray = .spraying

/-- The laws of the supply view and of spraying together, in a loaded cell. -/
structure State.ClaimsStand (s : State) : Prop where
  loaded : s.loaded = true
  stations : (s.supply.view.map (·.station)).Nodup
  ahead : s.supply.own = .granted → ∃ n, s.entriesAhead = some n ∧ n < s.cfg.limit
  place : ∀ p, s.Sprays p → p = .spray
  supplied : s.Sprays .spray → s.supply.own = .granted ∧ s.supply.holder = some .board ∨ s.spray.abort.isSome = true
  timer : s.spray.purge = .purging ↔ s.spray.purgeTimer.isSome = true
  purging : s.spray.purge = .purging → s.supply.own = .granted ∧ s.supply.holder = some .purge

/-- An event keeps the laws of a loaded cell. -/
def State.KeepsClaims (s t : State) : Prop := s.ClaimsStand → t.ClaimsStand

/-- What the laws read of a state besides its table and a pending abort. -/
def State.claims (s : State) : CellCfg × Bool × List ClaimEntry × OwnClaim × Option Holder × Bool × Bool :=
  (s.cfg, s.loaded, s.supply.view, s.supply.own, s.supply.holder, s.spray.purge == .purging, s.spray.purgeTimer.isSome)

/-- The parts of a state that hold what the laws read besides its table. -/
def State.supplied (s : State) : CellCfg × Bool × Supply × Sprayer := (s.cfg, s.loaded, s.supply, s.spray)

/-- A quiet event: it leaves the claims, starts no spraying, and takes no abort from a pass that goes on. -/
structure State.Quiet (s t : State) : Prop where
  claims : t.claims = s.claims
  sprays : ∀ p, t.Sprays p → s.Sprays p
  abort : t.Sprays .spray → s.spray.abort.isSome = true → t.spray.abort.isSome = true

section
variable {s t u : State}

theorem State.sprayIs_spraying_iff : s.sprayIs .spraying = true ↔ s.Sprays .spray := by
  unfold State.sprayIs State.Sprays
  cases h : s.table.spray <;> simp [PerPos.get, h]

theorem State.sprays_congr (h : t.table = s.table) (p : Position) : t.Sprays p ↔ s.Sprays p := by
  unfold State.Sprays
  rw [h]

theorem State.claimsStand_iff : s.ClaimsStand ↔ s.loaded = true ∧ s.supplyLaw ∧ s.sprayLaw := by
  constructor
  · intro h
    exact ⟨h.loaded, ⟨h.stations, fun hl => by simp [h.loaded] at hl, h.ahead⟩, fun p r hr hs => h.place p ⟨r, hr, hs⟩,
      fun hs => h.supplied (State.sprayIs_spraying_iff.1 hs), h.timer, h.purging⟩
  · rintro ⟨hl, ⟨hv, -, ha⟩, hp, hs, ht, hg⟩
    exact ⟨hl, hv, ha, fun p ⟨r, hr, hx⟩ => hp p r hr hx, fun h => hs (State.sprayIs_spraying_iff.2 h), ht, hg⟩

/-- With no claim granted, a pass that goes on has its abort pending. -/
theorem State.ClaimsStand.aborting (h : s.ClaimsStand) (ho : s.supply.own ≠ .granted) (hs : s.Sprays .spray) :
    s.spray.abort.isSome = true := (h.supplied hs).resolve_left fun hg => ho hg.1

/-- A pass goes on with its abort pending where the claim is not the board's. -/
theorem State.ClaimsStand.aborting_of_holder (h : s.ClaimsStand) (ho : s.supply.holder ≠ some .board) (hs : s.Sprays .spray) :
    s.spray.abort.isSome = true := (h.supplied hs).resolve_left fun hg => ho hg.2

theorem State.ClaimsStand.not_sprays (h : s.ClaimsStand) {p : Position} (hp : p ≠ .spray) : ¬ s.Sprays p :=
  fun hx => hp (h.place p hx)

theorem State.ClaimsStand.not_purging (h : s.ClaimsStand) (ho : s.supply.own ≠ .granted) : s.spray.purge ≠ .purging :=
  fun hp => ho (h.purging hp).1

theorem State.ClaimsStand.not_purging_of_holder (h : s.ClaimsStand) (ho : s.supply.holder ≠ some .purge) :
    s.spray.purge ≠ .purging := fun hp => ho (h.purging hp).2

/-- The purge timer runs in a purge under way alone. -/
theorem State.ClaimsStand.no_timer (h : s.ClaimsStand) (hp : s.spray.purge ≠ .purging) : s.spray.purgeTimer = none := by
  simpa using h.timer.not.1 hp

/-- The laws where no claim is granted: no purge is under way, and a pass goes on with its abort pending alone. -/
theorem State.ClaimsStand.of_ungranted (hl : s.loaded = true) (hv : (s.supply.view.map (·.station)).Nodup)
    (ho : s.supply.own ≠ .granted) (hp : ∀ p, s.Sprays p → p = .spray)
    (ha : s.Sprays .spray → s.spray.abort.isSome = true) (hg : s.spray.purge ≠ .purging) (ht : s.spray.purgeTimer = none) :
    s.ClaimsStand :=
  ⟨hl, hv, fun h => absurd h ho, hp, fun h => .inr (ha h), by simp [hg, ht], fun h => absurd h hg⟩

theorem State.KeepsClaims.refl (s : State) : s.KeepsClaims s := id

theorem State.KeepsClaims.trans (h : s.KeepsClaims t) (k : t.KeepsClaims u) : s.KeepsClaims u := k ∘ h

/-! ### Quiet events -/

theorem State.claims_eq : t.claims = s.claims ↔ t.cfg = s.cfg ∧ t.loaded = s.loaded ∧ t.supply.view = s.supply.view ∧
    t.supply.own = s.supply.own ∧ t.supply.holder = s.supply.holder ∧
    (t.spray.purge = .purging ↔ s.spray.purge = .purging) ∧ t.spray.purgeTimer.isSome = s.spray.purgeTimer.isSome := by
  have hpurge : (t.spray.purge == .purging) = (s.spray.purge == .purging) ↔
      (t.spray.purge = .purging ↔ s.spray.purge = .purging) := by rw [Bool.eq_iff_iff, beq_iff_eq, beq_iff_eq]
  simp only [State.claims, Prod.mk.injEq, hpurge]

theorem State.Quiet.refl (s : State) : s.Quiet s := ⟨rfl, fun _ => id, fun _ => id⟩

theorem State.Quiet.trans (h : s.Quiet t) (k : t.Quiet u) : s.Quiet u :=
  ⟨k.claims.trans h.claims, fun p hp => h.sprays p (k.sprays p hp), fun hs ha => k.abort hs (h.abort (k.sprays _ hs) ha)⟩

/-- A quiet event keeps the laws. -/
theorem State.Quiet.keeps (h : s.Quiet t) : s.KeepsClaims t := by
  intro hs
  obtain ⟨hc, hl, hv, ho, hh, hp, ht⟩ := State.claims_eq.1 h.claims
  have hahead : t.entriesAhead = s.entriesAhead := by rw [State.entriesAhead, State.entriesAhead, hv, hc]
  refine ⟨hl ▸ hs.loaded, hv ▸ hs.stations, ?_, fun p hp => hs.place p (h.sprays p hp), fun hx => ?_, ?_, ?_⟩
  · rw [ho, hahead, hc]; exact hs.ahead
  · rw [ho, hh]; exact (hs.supplied (h.sprays _ hx)).imp_right (h.abort hx)
  · rw [hp, ht]; exact hs.timer
  · rw [hp, ho, hh]; exact hs.purging

/-- An event that leaves the claims and the sequencer, and puts no record SPRAYING anywhere. -/
theorem State.Quiet.of_sprays (h : t.supplied = s.supplied) (hs : ∀ p, t.Sprays p → s.Sprays p) : s.Quiet t := by
  simp only [State.supplied, Prod.mk.injEq] at h
  obtain ⟨hc, hl, hv, hp⟩ := h
  exact ⟨by simp [State.claims, hc, hl, hv, hp], hs, fun _ => by rw [hp]; exact id⟩

/-- An event that leaves the claims, the sequencer and the table. -/
theorem State.Quiet.of_same (ht : t.table = s.table) (h : t.supplied = s.supplied) : s.Quiet t :=
  .of_sprays h fun p => (State.sprays_congr ht p).1

theorem State.ClaimsStand.of_same (hs : s.ClaimsStand) (ht : t.table = s.table) (h : t.supplied = s.supplied) : t.ClaimsStand :=
  (State.Quiet.of_same ht h).keeps hs

/-- An event that puts at one place nothing, or a record that is not SPRAYING where none was. -/
theorem State.Quiet.of_put {p : Position} {o : Option Record} (ht : t.table = s.table.put p o) (h : t.supplied = s.supplied)
    (ho : ∀ r, o = some r → r.spray = .spraying → s.Sprays p) : s.Quiet t := by
  refine .of_sprays h fun q ⟨r, hr, hx⟩ => ?_
  rw [ht, PerPos.get_put] at hr
  split at hr
  next hq => subst hq; exact ho r hr hx
  · exact ⟨r, hr, hx⟩

/-- An event that changes the record at one place and leaves its spray state. -/
theorem State.Quiet.of_map (p : Position) {f : Record → Record} (ht : t.table = s.table.put p ((s.table.get p).map f))
    (h : t.supplied = s.supplied) (hf : ∀ r, (f r).spray = r.spray) : s.Quiet t := by
  refine .of_put ht h fun q hq hx => ?_
  obtain ⟨r, hr, rfl⟩ := Option.map_eq_some_iff.1 hq
  exact ⟨r, hr, (hf r).symm.trans hx⟩

/-- An event that changes every record and leaves the spray states. -/
theorem State.quiet_mapRecords (s : State) {f : Position → Record → Record} (hf : ∀ p r, (f p r).spray = r.spray) :
    s.Quiet (s.mapRecords f) := by
  refine .of_sprays rfl fun p ⟨q, hq, hx⟩ => ?_
  simp only [State.mapRecords, PerPos.get_mapPos, Option.map_eq_some_iff] at hq
  obtain ⟨r, hr, rfl⟩ := hq
  exact ⟨r, hr, (hf p r).symm.trans hx⟩

/-- The candidate's record replaced by one in its spray state. -/
theorem State.Quiet.of_candidate {r q : Record} (hr : s.candidate = some r) (ht : t.table = (s.setCandidate q).table)
    (h : t.supplied = s.supplied) (hq : q.spray = r.spray) : s.Quiet t := by
  obtain ⟨p, hp, hrp⟩ := Option.bind_eq_some_iff.1 hr
  refine .of_put (p := p) (o := some q) (by rw [ht, State.setCandidate, hp]; rfl) h fun x hx hs => ?_
  cases hx
  exact ⟨r, hrp, hq.symm.trans hs⟩

/-- An event that changes the sequencer alone, and neither a purge under way nor a pending abort. -/
theorem State.quiet_withSpray (s : State) {sp : Sprayer} (hp : sp.purge = .purging ↔ s.spray.purge = .purging)
    (ht : sp.purgeTimer = s.spray.purgeTimer) (ha : sp.abort = s.spray.abort) : s.Quiet { s with spray := sp } :=
  ⟨State.claims_eq.2 ⟨rfl, rfl, rfl, rfl, rfl, hp, by rw [ht]⟩, fun _ => id, fun _ h => ha ▸ h⟩

/-- A place that is emptied or takes a record that is not SPRAYING. -/
theorem State.not_sprays_put {p : Position} {o : Option Record} (ht : t.table = s.table.put p o)
    (ho : ∀ r, o = some r → r.spray ≠ .spraying) : ¬ t.Sprays p := by
  rintro ⟨r, hr, hx⟩
  rw [ht, PerPos.get_put_self] at hr
  exact ho r hr hx

/-- A place with a record in another spray state. -/
theorem State.not_sprays_of {p : Position} {r : Record} (h : s.table.get p = some r) (hr : r.spray ≠ .spraying) :
    ¬ s.Sprays p := by
  rintro ⟨q, hq, hx⟩
  cases h.symm.trans hq
  exact hr hx

end

end Sys2Proof.Machine

end

section

namespace Sys2Proof.Machine

/-! ## The spray state of a record under what other blocks do to it -/

section
variable (r : Record) (s : State)

@[simp] theorem Record.spray_addReason (x : Reason) : (r.addReason x).spray = r.spray := rfl

@[simp] theorem Record.spray_addReasonIf (c : Bool) (x : Reason) : (r.addReasonIf c x).spray = r.spray := by
  cases c <;> rfl

@[simp] theorem Record.spray_withVerdicts (vs : List Verdict) : (r.withVerdicts vs).spray = r.spray := by
  simp [Record.withVerdicts]

@[simp] theorem Record.spray_withFilm (rc : Recipe) (e : Nat × Nat) : (r.withFilm rc e).spray = r.spray := by
  simp [Record.withFilm]

@[simp] theorem Record.spray_withCoat (b : Byte) (rc : Recipe) : (r.withCoat b rc).spray = r.spray := rfl

@[simp] theorem Record.spray_flashTick : r.flashTick.spray = r.spray := by
  unfold Record.flashTick
  split <;> rfl

@[simp] theorem LotFilter.spray_mark (f : LotFilter) : (f.mark r).spray = r.spray := by simp [LotFilter.mark]

@[simp] theorem State.spray_bindRecord : (s.bindRecord r).spray = r.spray := by
  unfold State.bindRecord
  split
  · rfl
  · unfold Record.bind
    split <;> rfl

@[simp] theorem State.spray_closeCut (l : Option Half) : (s.closeCut r l).spray = r.spray := by simp [State.closeCut]

@[simp] theorem State.spray_closeTrailing (l : Nat) : (s.closeTrailing r l).spray = r.spray := by simp [State.closeTrailing]

@[simp] theorem State.spray_closeAtSpray : (s.closeAtSpray r).spray = r.spray := by
  unfold State.closeAtSpray
  split <;> simp

@[simp] theorem State.spray_potTest (p : Position) : (s.potTest p r).spray = r.spray := by simp [State.potTest]

@[simp] theorem State.spray_cureRecord (p : Position) : (s.cureRecord p r).spray = r.spray := by
  unfold State.cureRecord
  split <;> simp

@[simp] theorem State.spray_checked (others : List ArrivalEntry) : (s.checked others r).spray = r.spray := by
  obtain ⟨_, _, _, h⟩ := s.checked_eq others r
  rw [h]

end

/-! ## Quiet events -/

section
variable (s : State)

/-! ### Telegrams and events reported -/

theorem State.quiet_post (dst kind : Byte) (payload : List Byte) : s.Quiet (s.post dst kind payload) :=
  .of_same (by simp) (by simp [State.supplied])

theorem State.quiet_notice (code : Byte) (body : List Byte) : s.Quiet (s.notice code body) :=
  .of_same (by simp) (by simp [State.supplied])

theorem State.quiet_withdrawKind (kind : Byte) : s.Quiet (s.withdrawKind kind) := .of_same (by simp) (by simp [State.supplied])

theorem State.quiet_completeAction (a : WatchAction) : s.Quiet (s.completeAction a) := .of_same (by simp) (by simp [State.supplied])

/-- A purge that is requested is not under way. -/
theorem Sprayer.requestPurge_purging (sp : Sprayer) : sp.requestPurge.purge = .purging ↔ sp.purge = .purging := by
  cases h : sp.purge <;> simp [Sprayer.requestPurge, h]

/-- A report requests a purge at most, and none that is under way. -/
theorem State.quiet_report (src : Source) (margin : Int) : s.Quiet (s.report src margin) := by
  have hspray : ((s.report src margin).spray.purge = .purging ↔ s.spray.purge = .purging) ∧
      (s.report src margin).spray.purgeTimer = s.spray.purgeTimer ∧ (s.report src margin).spray.abort = s.spray.abort := by
    rcases s.report_spray src margin with h | h
    · rw [h]; exact ⟨.rfl, rfl, rfl⟩
    · rw [h]; exact ⟨s.spray.requestPurge_purging, rfl, rfl⟩
  obtain ⟨hp, ht, ha⟩ := hspray
  exact ⟨State.claims_eq.2 ⟨by simp, by simp, by simp, by simp, by simp, hp, by rw [ht]⟩,
    fun p => (State.sprays_congr (by simp) p).1, fun _ h => by rwa [ha]⟩

theorem State.quiet_reportDots (n : Nat) : s.Quiet (s.reportDots n) := by
  induction n generalizing s with
  | zero => exact .refl s
  | succ n ih =>
    rw [State.reportDots]
    exact (s.quiet_report .jetDots 0).trans (ih _)

/-! ### Boards that come to the table (R2, R14, R40, R41) -/

theorem State.quiet_makeStranded (p : Position) : s.Quiet (s.makeStranded p) := by
  refine .of_put (p := p) (o := some (strandedAt p)) (by rw [State.makeStranded_eq]) (by simp [State.supplied]) fun r hr hx => ?_
  cases hr
  cases hx

theorem State.quiet_completeMatch (e : ArrivalEntry) (others : List ArrivalEntry) (mismatch : Option Serial) :
    s.Quiet (s.completeMatch e others mismatch) := by
  refine .of_put (p := .entry) (o := some (s.checked others (matchedRecord e mismatch))) rfl
    (by simp [State.supplied]) fun r hr hx => ?_
  cases hr
  rw [State.spray_checked] at hx
  cases mismatch <;> cases hx

theorem State.quiet_matchEntry (o : ReadOutcome) : s.Quiet (s.matchEntry o) := by
  unfold State.matchEntry
  split
  · exact .refl s
  · exact s.quiet_completeMatch _ _ _
  · split
    · exact s.quiet_completeMatch _ _ _
    split
    · split
      · exact (s.quiet_notice _ _).trans (State.quiet_completeMatch _ _ _ _)
      · exact s.quiet_completeMatch _ _ _
    · exact s.quiet_completeMatch _ _ _

theorem State.quiet_endEntryRead (o : ReadOutcome) : s.Quiet (s.endEntryRead o) := by
  unfold State.endEntryRead
  split
  · exact .of_same rfl rfl
  · exact s.quiet_matchEntry o

theorem State.quiet_orphanRecord (o : ReadOutcome) : s.Quiet (s.orphanRecord o) := by
  refine .of_put (p := .entry) (o := some (s.checked s.tracker.arrivals
    ((Record.fresh (orphanTraveller o) .notDue).addReasonIf (s.cfg.upstream != 0) .noTraveller))) rfl rfl fun r hr hx => ?_
  cases hr
  rw [State.spray_checked, Record.spray_addReasonIf] at hx
  cases hx

theorem State.quiet_takeOffer (t : Telegram) : s.Quiet (s.takeOffer t) := by
  unfold State.takeOffer
  split
  · exact .refl s
  split
  · exact .of_same (by simp) (by simp [State.supplied])
  dsimp only
  have hanswered : s.Quiet ((if !s.isRepeat t.src (byteAt t.payload 0) (offerTraveller t.payload).serial
      then s.appendArrival t else s).post t.src kindAccept
      (answerPayload (byteAt t.payload 0) (offerTraveller t.payload).serial)) := by
    split
    · exact State.Quiet.trans (t := s.appendArrival t) (.of_same rfl rfl) (State.quiet_post _ _ _ _)
    · exact s.quiet_post _ _ _
  split
  · exact hanswered.trans (State.quiet_matchEntry _ _)
  · exact hanswered

/-! ### The candidate's record (R69 to R79) -/

theorem State.quiet_closeWith {f : Record → Record} (hf : ∀ r, (f r).spray = r.spray) : s.Quiet (s.closeWith f) := by
  unfold State.closeWith
  split
  next r hr => exact .of_candidate (q := f r) hr rfl (by simp [State.supplied]) (hf r)
  · exact .of_same rfl rfl

theorem State.quiet_sampleZones (x : Int) (seen : Bool) : s.Quiet (s.sampleZones x seen) := by
  unfold State.sampleZones
  split
  · exact .refl s
  next r hr => exact .of_candidate hr rfl (by simp [State.supplied]) (Record.spray_withVerdicts _ _)

theorem State.quiet_classify : s.Quiet s.classify := by
  unfold State.classify
  split
  · exact .refl s
  next r hr => exact .of_candidate hr rfl (by simp [State.supplied]) (Record.spray_withVerdicts _ _)

theorem State.quiet_openMeasurement : s.Quiet s.openMeasurement :=
  State.Quiet.trans (t := { s with mask := { s.mask with phase := .measuring, x := 1, high := 1 } }) (.of_same rfl rfl)
    ((State.quiet_classify _).trans (State.quiet_sampleZones _ _ _))

theorem State.quiet_countOutside (datum : Bool) : s.Quiet (s.countOutside datum) := by
  unfold State.countOutside
  have h : s.Quiet { s with mask := s.mask.sampleDatum datum } := .of_same rfl rfl
  dsimp only
  split
  · exact h.trans (State.quiet_openMeasurement _)
  · exact h

theorem State.quiet_countForward (datum : Bool) : s.Quiet (s.countForward datum) := by
  unfold State.countForward
  dsimp only
  split
  · exact .of_same rfl rfl
  split
  · exact s.quiet_closeWith fun r => by simp
  have h (x : Int) (seen : Bool) :
      s.Quiet (State.sampleZones { s with mask := MaskChecker.sampleDatum { s.mask with x := x, high := x } datum } x seen) :=
    State.Quiet.trans (t := { s with mask := MaskChecker.sampleDatum { s.mask with x := x, high := x } datum }) (.of_same rfl rfl)
      (State.quiet_sampleZones _ _ _)
  split
  · exact (h _ _).trans (State.quiet_closeWith _ fun r => by simp)
  · exact h _ _

theorem State.quiet_countReverse : s.Quiet s.countReverse := by
  unfold State.countReverse
  have h (x : Int) : s.Quiet { s with mask := { s.mask with x := x } } := .of_same rfl rfl
  dsimp only
  split
  · exact (h _).trans (State.quiet_closeWith _ fun r => by simp)
  · exact h _

theorem State.quiet_transportCount (dir : Direction) (datum : Bool) : s.Quiet (s.transportCount dir datum) := by
  unfold State.transportCount
  split
  · exact s.quiet_countForward datum
  · exact s.quiet_countReverse
  · exact s.quiet_countOutside datum
  · exact s.quiet_countOutside datum
  · exact s.quiet_countOutside datum
  all_goals exact .refl s

theorem State.quiet_candidateAtSpray : s.Quiet s.candidateAtSpray := by
  unfold State.candidateAtSpray
  split
  · exact .of_map .spray (f := s.closeAtSpray) rfl rfl fun r => by simp
  · exact .refl s

/-! ### The cure tick (R131) -/

theorem State.quiet_cureTick : s.Quiet s.cureTick := by
  have hcure : s.Quiet s.cureStep := s.quiet_mapRecords fun p r => by simp
  have hflash (u : State) : u.Quiet u.flashStep := u.quiet_mapRecords fun p r => by simp
  exact hcure.trans ((hflash _).trans (.of_same (by simp [State.cureTick]) (by simp [State.cureTick, State.supplied])))

/-! ### The record at EXIT -/

theorem State.quiet_atExit {f : Record → Record} (hf : ∀ r, (f r).spray = r.spray) : s.Quiet (s.atExit f) := .of_map .exit rfl rfl hf

theorem State.quiet_setHandoff (h : Option Handoff) : s.Quiet (s.setHandoff h) := .of_map .exit rfl rfl fun _ => rfl

theorem State.quiet_handForDiversion : s.Quiet s.handForDiversion := .of_map .exit rfl rfl fun _ => rfl

theorem State.quiet_postOffer (n : Byte) : s.Quiet (s.postOffer n) := by
  unfold State.postOffer
  split
  · exact .refl s
  split
  · exact s.quiet_setHandoff _
  · exact (s.quiet_setHandoff _).trans (State.quiet_post _ _ _ _)

theorem State.quiet_exitDecision : s.Quiet s.exitDecision := by
  unfold State.exitDecision
  split
  · exact .refl s
  split
  · exact s.quiet_handForDiversion
  split
  · exact s.quiet_setHandoff _
  · exact State.Quiet.trans (t := { s with tracker := { s.tracker with handoffCounter := s.tracker.handoffCounter + 1 } })
      (.of_same rfl rfl) (State.quiet_postOffer _ _)

theorem State.quiet_takeAccept (t : Telegram) : s.Quiet (s.takeAccept t) := by
  unfold State.takeAccept
  split
  · split
    · exact (s.quiet_setHandoff _).trans (State.quiet_withdrawKind _ _)
    · exact .refl s
  · exact .refl s

theorem State.quiet_takeDecline (t : Telegram) : s.Quiet (s.takeDecline t) := by
  unfold State.takeDecline
  split
  · split
    · exact s.quiet_setHandoff _
    · exact .refl s
  · exact .refl s

theorem State.quiet_answerExpiry : s.Quiet s.answerExpiry := by
  unfold State.answerExpiry
  split
  · exact s.quiet_setHandoff _
  · exact .refl s

theorem State.quiet_reOfferExpiry : s.Quiet s.reOfferExpiry := by
  unfold State.reOfferExpiry
  split
  · exact s.quiet_postOffer _
  · exact .refl s

theorem State.quiet_postDueOffer : s.Quiet s.postDueOffer := by
  unfold State.postDueOffer
  split
  · exact s.quiet_postOffer _
  · exact .refl s

theorem State.quiet_offerReport (n : Byte) (refused : Bool) : s.Quiet (s.offerReport n refused) := by
  unfold State.offerReport
  split
  · split
    · exact s.quiet_setHandoff _
    · exact .refl s
  · exact .refl s

theorem State.quiet_tryDiversion : s.Quiet s.tryDiversion := by
  unfold State.tryDiversion
  split
  · split
    next t _ => exact .of_map .exit (f := fun r => { r with diversion := some (.diverting t) }) rfl rfl fun _ => rfl
    · exact .refl s
  · exact .refl s

theorem State.quiet_judgeCure : s.Quiet s.judgeCure := by
  unfold State.judgeCure
  split
  · exact .refl s
  · split
    · exact (s.quiet_atExit fun r => by simp).trans (State.quiet_report _ _ _)
    · exact .refl s

theorem State.quiet_appendCoat : s.Quiet s.appendCoat := by
  unfold State.appendCoat
  split
  · exact .refl s
  · split
    · exact s.quiet_atExit fun r => rfl
    · exact .refl s

theorem State.quiet_auditTest : s.Quiet s.auditTest := by
  unfold State.auditTest
  split
  · exact .refl s
  · split
    · refine State.Quiet.trans ?_ (State.quiet_completeAction _ _)
      exact s.quiet_atExit fun _ => rfl
    · exact .refl s

theorem State.quiet_placed : s.Quiet s.placed :=
  s.quiet_judgeCure.trans <| (State.quiet_appendCoat _).trans <| (State.quiet_auditTest _).trans (State.quiet_exitDecision _)

/-! ### The moves that start (R12), and the clear-out test (R22) -/

theorem State.quiet_tryToTransport : s.Quiet s.tryToTransport := by
  unfold State.tryToTransport
  split
  · exact .of_map .entry (f := s.bindRecord) rfl rfl fun r => by simp
  · exact .refl s

theorem State.quiet_tryMove (m : ConvMove) : s.Quiet (s.tryMove m) := by
  cases m with
  | toTransport => exact s.quiet_tryToTransport
  | toSpray => exact .of_same (by simp [State.tryMove]) (by simp [State.supplied])
  | toGate => exact .of_same (by simp [State.tryMove]) (by simp [State.supplied])

/-! ### The record at SPRAY that is not SPRAYING (R87, R98, R103) -/

/-- An event that puts at SPRAY a record that is not SPRAYING, whatever becomes of a pending abort. -/
theorem State.quiet_putSpray {r : Record} {sp : Sprayer} (hr : r.spray ≠ .spraying) (hp : sp.purge = s.spray.purge)
    (ht : sp.purgeTimer = s.spray.purgeTimer) : s.Quiet { s.putRecord .spray r with spray := sp } := by
  have hput : ¬ State.Sprays { s.putRecord .spray r with spray := sp } .spray :=
    State.not_sprays_put (s := s) (o := some r) rfl fun q hq => by cases hq; exact hr
  refine ⟨State.claims_eq.2 ⟨rfl, rfl, rfl, rfl, rfl, by rw [hp], by rw [ht]⟩, fun p hx => ?_, fun h => absurd h hput⟩
  obtain rfl | hpos := eq_or_ne p .spray
  · exact absurd hx hput
  · obtain ⟨q, hq, hs⟩ := hx
    exact ⟨q, (PerPos.get_put_of_ne _ hpos _).symm.trans hq, hs⟩

theorem State.quiet_startWaiting (r : Record) (rc : Recipe) : s.Quiet (s.startWaiting r rc) := by
  unfold State.startWaiting
  have hnotice (u : State) (k : Option Conflict) : u.Quiet (u.conflictNotice r rc k) :=
    .of_same (by simp) (by simp [State.supplied])
  have hput (q : Record) (hq : q.spray = .waitingSupply) (l : List Interval) :
      s.Quiet { s.putRecord .spray q with spray := { s.spray with schedule := some l, abort := none } } :=
    s.quiet_putSpray (by simp [hq]) rfl rfl
  dsimp only
  split
  · exact (hput _ (by simp) _).trans ((hnotice _ _).trans (State.quiet_report _ _ _))
  · exact (hput _ (by simp) _).trans (hnotice _ _)

theorem State.quiet_sprayDecision : s.Quiet s.sprayDecision := by
  unfold State.sprayDecision
  split
  · exact .refl s
  next r _ =>
    split
    · split
      · exact s.quiet_putSpray (r := { r with spray := .skipped }) (sp := s.spray) (by simp) rfl rfl
      · exact s.quiet_putSpray (r := { r with spray := .skipped }.addReason .stepMissing) (sp := s.spray) (by simp) rfl rfl
      · exact s.quiet_startWaiting r _
    · exact .refl s

/-- The end of the spraying at SPRAY leaves no pass there. -/
theorem State.not_sprays_finishSpray {f : Record → Record} (hf : ∀ r, (f r).spray ≠ .spraying) (e : Option (Nat × Nat)) :
    ¬ (s.finishSpray f e).Sprays .spray := by
  unfold State.finishSpray
  dsimp only
  split
  next h => rintro ⟨r, hr, -⟩; cases h.symm.trans hr
  next r _ =>
    split
    · refine State.not_sprays_put (s := s) (o := some _) (by simp; rfl) fun q hq => ?_
      cases hq
      simpa using hf r
    · refine State.not_sprays_put (s := s) (o := some _) rfl fun q hq => ?_
      cases hq
      exact hf r

theorem State.quiet_finishSpray {f : Record → Record} (hf : ∀ r, (f r).spray ≠ .spraying) (e : Option (Nat × Nat)) :
    s.Quiet (s.finishSpray f e) := by
  unfold State.finishSpray
  dsimp only
  split
  next h =>
    exact ⟨rfl, fun _ => id, fun ⟨r, hr, _⟩ => by cases h.symm.trans hr⟩
  next r _ =>
    have hput (q : Record) (hq : q.spray = (f r).spray) :
        s.Quiet (State.putRecord { s with spray := { s.spray with schedule := none, abort := none } } .spray q) :=
      s.quiet_putSpray (hq ▸ hf r) rfl rfl
    split
    · exact (hput _ (by simp)).trans (State.quiet_report _ _ _)
    · exact hput _ rfl

theorem State.quiet_passEnd : s.Quiet s.passEnd := by
  unfold State.passEnd
  exact s.quiet_finishSpray (by simp) _

theorem State.not_sprays_passEnd : ¬ s.passEnd.Sprays .spray := by
  unfold State.passEnd
  exact s.not_sprays_finishSpray (by simp) _

/-! ### Time (R221) and the abort requested (R100) -/

theorem State.quiet_requestAbort : s.Quiet s.requestAbort := by
  unfold State.requestAbort
  split
  · exact ⟨rfl, fun _ => id, fun _ _ => rfl⟩
  · exact .refl s

theorem State.quiet_idleMs : s.Quiet s.idleMs := by
  have hseconds : s.Quiet s.secondsMsDown := by
    unfold State.secondsMsDown
    split <;> exact .of_same rfl rfl
  have htimers (u : State) : u.Quiet u.timersDown := by
    refine ⟨State.claims_eq.2 ⟨rfl, rfl, rfl, rfl, rfl, .rfl, Option.isSome_map⟩, fun p ⟨q, hq, hx⟩ => ?_, fun _ h => ?_⟩
    · have hput : u.timersDown.table = u.table.put .exit
          (u.table.exit.map fun r => { r with handoff := r.handoff.map (handoffDown u.tracker.hold) }) := rfl
      rw [hput, PerPos.get_put] at hq
      split at hq
      next hp =>
        obtain ⟨r, hr, rfl⟩ := Option.map_eq_some_iff.1 hq
        exact ⟨r, hp ▸ hr, hx⟩
      · exact ⟨q, hq, hx⟩
    · exact Option.isSome_map.trans h
  have hlive (u : State) : u.Quiet u.liveMs := by
    refine (htimers u).trans ?_
    unfold State.liveMs
    dsimp only
    split <;> exact .of_same rfl rfl
  unfold State.idleMs
  split
  · exact hseconds.trans (hlive _)
  · exact hseconds

end

end Sys2Proof.Machine

end

section

namespace Sys2Proof.Machine

/-! ## The own claim ended, asked for and granted (R94, R109, R123, R125) -/

section
variable {s : State}

/-- A claim that is ended is not granted, and its entry stays in the view until the SUPPLY_DONE is read back (R125). -/
theorem State.endClaim_ungranted (s : State) :
    s.endClaim.supply.own ≠ .granted ∧ s.endClaim.supply.view = s.supply.view := by
  cases h : s.supply.own with
  | none => rw [State.endClaim_of_none (.inl h), h]; exact ⟨by decide, rfl⟩
  | queued => rw [State.endClaim_of_queued h]; exact ⟨by simp, rfl⟩
  | sending => rw [State.endClaim_of_sending h]; exact ⟨by simp, rfl⟩
  | waiting => rw [State.endClaim_of_active (.inl h)]; exact ⟨by simp, rfl⟩
  | granted => rw [State.endClaim_of_active (.inr h)]; exact ⟨by simp, rfl⟩
  | refusedWait =>
    rw [State.endClaim_of_refusedWait h]
    dsimp only
    split <;> exact ⟨by simp, rfl⟩
  | ending => rw [State.endClaim_of_none (.inr h), h]; exact ⟨by decide, rfl⟩

/-- The claim may be ended where neither a pass nor a purge goes on under it. -/
theorem State.ClaimsStand.endClaim (h : s.ClaimsStand) (ha : s.Sprays .spray → s.spray.abort.isSome = true)
    (hp : s.spray.purge ≠ .purging) : s.endClaim.ClaimsStand := by
  obtain ⟨ho, hv⟩ := s.endClaim_ungranted
  have hsprays (p : Position) : s.endClaim.Sprays p ↔ s.Sprays p := State.sprays_congr (by simp) p
  refine .of_ungranted (by simpa using h.loaded) (hv ▸ h.stations) ho (fun p hx => h.place p ((hsprays p).1 hx)) (fun hx => ?_)
    (by simpa using hp) (by simpa using h.no_timer hp)
  simpa using ha ((hsprays _).1 hx)

/-- The board's claim ended where no pass goes on. -/
theorem State.ClaimsStand.endBoardClaim (h : s.ClaimsStand) (hn : ¬ s.Sprays .spray) : s.endBoardClaim.ClaimsStand := by
  unfold State.endBoardClaim
  split
  next hb => exact h.endClaim (fun hx => absurd hx hn) (h.not_purging_of_holder (by simp [hb]))
  · exact h

/-- The purge's claim ended with its valves closed. -/
theorem State.ClaimsStand.endPurgeClaim (h : s.ClaimsStand) (hp : s.spray.purge ≠ .purging) : s.endPurgeClaim.ClaimsStand := by
  unfold State.endPurgeClaim
  split
  next hb => exact h.endClaim (h.aborting_of_holder (by simp [hb])) hp
  · exact h

/-- The valves of a purge closed and its timer stopped. -/
theorem State.ClaimsStand.closePurge (h : s.ClaimsStand) {sp : Sprayer} (ha : sp.abort = s.spray.abort) (hp : sp.purge ≠ .purging)
    (ht : sp.purgeTimer = none) : State.ClaimsStand { s with spray := sp } := by
  obtain ⟨hl, hv, hahead, hplace, hsupplied, -, -⟩ := h
  exact ⟨hl, hv, hahead, hplace, fun hx => (hsupplied hx).imp_right fun k => ha ▸ k, by simp [hp, ht], fun k => absurd k hp⟩

/-- The end of a claim does not read the sequencer. -/
theorem State.endPurgeClaim_withSpray (s : State) (sp : Sprayer) :
    { s.endPurgeClaim with spray := sp } = State.endPurgeClaim { s with spray := sp } := by
  have hend : { s.endClaim with spray := sp } = State.endClaim { s with spray := sp } := by
    unfold State.endClaim
    cases s.supply.own with
    | refusedWait => dsimp only; split <;> rfl
    | _ => rfl
  unfold State.endPurgeClaim
  dsimp only
  split
  · exact hend
  · rfl

/-- The supply block changes where no claim is granted, neither before nor after. -/
theorem State.ClaimsStand.withSupply (h : s.ClaimsStand) (ho : s.supply.own ≠ .granted) {v : Supply} (l : Link)
    (hv : (v.view.map (·.station)).Nodup) (hn : v.own ≠ .granted) : State.ClaimsStand { s with supply := v, link := l } :=
  .of_ungranted h.loaded hv hn h.place (h.aborting ho) (h.not_purging ho) (h.no_timer (h.not_purging ho))

variable (s)

theorem State.grantDue_iff : s.grantDue = true ↔
    s.supply.own = .waiting ∧ s.supply.learning = none ∧ ∃ n, s.entriesAhead = some n ∧ n < s.cfg.limit := by
  unfold State.grantDue
  cases s.entriesAhead <;> simp [and_assoc]

/-- A grant is given with fewer than L entries ahead, and opens a purge under it (R110, R123). -/
theorem State.keepsClaims_tryGrant : s.KeepsClaims s.tryGrant := by
  intro h
  unfold State.tryGrant
  split
  next hdue =>
    obtain ⟨hw, -, hn⟩ := s.grantDue_iff.1 hdue
    have ho : s.supply.own ≠ .granted := by simp [hw]
    dsimp only
    split
    next hp => exact ⟨h.loaded, h.stations, fun _ => hn, h.place, fun hx => .inr (h.aborting ho hx), by simp, fun _ => ⟨rfl, hp.1⟩⟩
    · exact ⟨h.loaded, h.stations, fun _ => hn, h.place, fun hx => .inr (h.aborting ho hx), h.timer,
        fun k => absurd k (h.not_purging ho)⟩
  · exact h

theorem State.keepsClaims_tryBoardClaim : s.KeepsClaims s.tryBoardClaim := by
  intro h
  unfold State.tryBoardClaim
  split
  next hdue =>
    have ho : s.supply.own = .none := by
      simp only [State.boardClaimDue, Bool.and_eq_true, beq_iff_eq] at hdue
      exact hdue.2
    exact h.withSupply (by simp [ho]) _ h.stations (by simp)
  · exact h

theorem State.keepsClaims_tryPurgeClaim : s.KeepsClaims s.tryPurgeClaim := by
  intro h
  unfold State.tryPurgeClaim
  split
  next hdue =>
    simp only [State.purgeClaimDue, Bool.and_eq_true, beq_iff_eq] at hdue
    obtain ⟨⟨⟨hp, -⟩, -⟩, ho⟩ := hdue
    have hclaiming : State.ClaimsStand { s with spray := { s.spray with purge := .claiming } } :=
      h.closePurge rfl (by simp) (h.no_timer (by simp [hp]))
    exact hclaiming.withSupply (by simp [ho]) _ h.stations (by simp)
  · exact h

/-! ## The pass (R95, R98, R100, R103) -/

/-- The start of a pass puts a record SPRAYING at SPRAY alone. -/
theorem State.sprays_startPass {p : Position} (hp : p ≠ .spray) (h : s.startPass.Sprays p) : s.Sprays p := by
  obtain ⟨r, hr, hx⟩ := h
  exact ⟨r, (PerPos.get_put_of_ne s.table hp (s.table.spray.map fun r : Record => { r with spray := .spraying })).symm.trans hr, hx⟩

/-- A pass with intervals starts under the board's granted claim, and one without ends in the event (R95). -/
theorem State.keepsClaims_tryPass : s.KeepsClaims s.tryPass := by
  intro h
  unfold State.tryPass
  split
  next hdue =>
    split
    next hholds =>
      have hgranted : s.supply.own = .granted ∧ s.supply.holder = some .board := by
        unfold State.scheduleHolds at hholds
        unfold State.passDue at hdue
        cases hl : s.spray.schedule with
        | none => simp [hl] at hholds
        | some l =>
          cases l with
          | nil => simp [hl] at hholds
          | cons i l =>
            simp only [hl, Bool.and_eq_true, beq_iff_eq] at hdue
            exact hdue.2
      refine ⟨h.loaded, h.stations, h.ahead, fun p hx => ?_, fun _ => .inl hgranted, h.timer, h.purging⟩
      by_contra hp
      exact hp (h.place p (s.sprays_startPass hp hx))
    · have hend := s.startPass.quiet_passEnd
      refine State.Quiet.keeps (s := s) ⟨hend.claims, fun p hx => ?_, fun hx => absurd hx (State.not_sprays_passEnd _)⟩ h
      refine s.sprays_startPass ?_ (hend.sprays p hx)
      rintro rfl
      exact State.not_sprays_passEnd _ hx
  · exact h

theorem State.sprays_endBoardClaim (p : Position) : s.endBoardClaim.Sprays p ↔ s.Sprays p := State.sprays_congr (by simp) p

theorem State.not_sprays_abortPass : ¬ s.abortPass.Sprays .spray := by
  unfold State.abortPass
  rw [State.sprays_endBoardClaim]
  exact s.not_sprays_finishSpray (by simp) _

theorem State.keepsClaims_abortPass : s.KeepsClaims s.abortPass := by
  intro h
  unfold State.abortPass
  exact ((s.quiet_finishSpray (by simp) _).keeps h).endBoardClaim (s.not_sprays_finishSpray (by simp) _)

theorem State.keepsClaims_passForward : s.KeepsClaims s.passForward := by
  have hfired (l : List Interval) (x n : Nat) :
      s.Quiet (State.reportDots { s with spray := { s.spray with travelled := x, schedule := some l } } n) :=
    State.Quiet.trans (t := { s with spray := { s.spray with travelled := x, schedule := some l } })
      (s.quiet_withSpray .rfl rfl rfl) (State.quiet_reportDots _ _)
  unfold State.passForward
  dsimp only
  split
  · exact (hfired _ _ _).keeps.trans (State.keepsClaims_abortPass _)
  split
  · exact (hfired _ _ _).keeps.trans fun h => ((State.quiet_passEnd _).keeps h).endBoardClaim (State.not_sprays_passEnd _)
  · exact (hfired _ _ _).keeps

theorem State.keepsClaims_sprayCount (dir : Direction) : s.KeepsClaims (s.sprayCount dir) := by
  unfold State.sprayCount
  split
  · have hcount : s.Quiet { s with spray := s.spray.windowed } := s.quiet_withSpray .rfl rfl rfl
    dsimp only
    split
    · exact hcount.keeps.trans (State.keepsClaims_passForward _)
    · exact hcount.keeps
  · split
    · unfold State.passReverse
      split
      · exact s.keepsClaims_abortPass
      · exact s.quiet_requestAbort.keeps
    · exact .refl s

/-! ## What starts (R25) -/

theorem State.keepsClaims_starts : s.KeepsClaims s.starts :=
  have hindex (u : State) : u.Quiet u.tryIndex := .of_same (by simp) (by simp [State.supplied])
  s.quiet_tryDiversion.keeps.trans <| (hindex _).keeps.trans <| (State.keepsClaims_tryPass _).trans <|
    (State.quiet_tryMove _ .toGate).keeps.trans <| (State.quiet_tryMove _ .toSpray).keeps.trans <|
    (State.quiet_tryMove _ .toTransport).keeps.trans <| (State.keepsClaims_tryBoardClaim _).trans
    (State.keepsClaims_tryPurgeClaim _)

theorem State.keepsClaims_settle : s.KeepsClaims s.settle :=
  State.KeepsClaims.trans (State.Quiet.keeps (.of_same (t := s.clearOutTest) (by simp) (by simp [State.supplied])))
    (State.keepsClaims_starts _)

theorem State.keepsClaims_afterView : s.KeepsClaims s.afterView := s.keepsClaims_tryGrant.trans (State.keepsClaims_starts _)

/-! ## The purge ended and interrupted (R110, R111), and the guard opening (R101) -/

theorem State.keepsClaims_purgeEnd : s.KeepsClaims s.purgeEnd := by
  intro h
  unfold State.purgeEnd
  dsimp only
  refine (State.quiet_completeAction _ _).keeps ?_
  rw [State.endPurgeClaim_withSpray]
  exact State.ClaimsStand.endPurgeClaim (h.closePurge (by simp) (by simp) rfl) (by simp)

theorem State.keepsClaims_purgeInterrupt : s.KeepsClaims s.purgeInterrupt := by
  intro h
  unfold State.purgeInterrupt
  split
  · rw [State.endPurgeClaim_withSpray]
    exact State.ClaimsStand.endPurgeClaim (h.closePurge (by simp [Sprayer.purgeBack]) (by simp [Sprayer.purgeBack]) rfl)
      (by simp [Sprayer.purgeBack])
  · exact h

theorem State.keepsClaims_guardOpens : s.KeepsClaims s.guardOpens := by
  have hspray (u : State) : u.KeepsClaims u.guardSpray := by
    unfold State.guardSpray
    split
    · exact u.keepsClaims_abortPass
    next hn =>
      split
      · exact fun h => h.endBoardClaim fun hx => hn (State.sprayIs_spraying_iff.2 hx)
      · exact .refl u
  have hindex (u : State) : u.Quiet u.guardIndex := .of_same (by simp) (by simp [State.supplied])
  exact State.KeepsClaims.trans (State.Quiet.keeps (.of_same (t := s.putHold) rfl rfl)) <| (hspray _).trans <|
    (State.keepsClaims_purgeInterrupt _).trans (hindex _).keeps

theorem State.keepsClaims_endHold : s.KeepsClaims s.endHold :=
  have hlift : s.Quiet s.liftHold.resumeIndex.enterHeld := .of_same (by simp) (by simp [State.supplied])
  (hlift.trans (State.quiet_postDueOffer _)).keeps.trans (State.keepsClaims_starts _)

end

/-! ## The view under another station's claims and under its ageing (R117 to R119, R126) -/

/-- An own station that stays in a part of the view has no more stations ahead there than it had. -/
theorem findIdx?_le_of_sublist {l k : List Byte} {a : Byte} (h : k.Sublist l) (hn : l.Nodup) (ha : a ∈ k) {n : Nat}
    (hl : l.findIdx? (· == a) = some n) : ∃ m ≤ n, k.findIdx? (· == a) = some m := by
  induction h generalizing n with
  | slnil => cases ha
  | cons b hsub ih =>
    have hb : b ≠ a := by
      rintro rfl
      exact (List.nodup_cons.1 hn).1 (hsub.subset ha)
    rw [List.findIdx?_cons, if_neg (by simpa using hb)] at hl
    obtain ⟨j, hj, rfl⟩ := Option.map_eq_some_iff.1 hl
    obtain ⟨m, hm, hk⟩ := ih (List.nodup_cons.1 hn).2 ha hj
    exact ⟨m, by omega, hk⟩
  | cons_cons b hsub ih =>
    rw [List.findIdx?_cons] at hl ⊢
    by_cases hb : b = a
    · rw [if_pos (by simpa using hb)]
      exact ⟨0, Nat.zero_le _, rfl⟩
    · rw [if_neg (by simpa using hb)] at hl ⊢
      obtain ⟨j, hj, rfl⟩ := Option.map_eq_some_iff.1 hl
      obtain ⟨m, hm, hk⟩ := ih (List.nodup_cons.1 hn).2 ((List.mem_cons.1 ha).resolve_left fun e => hb e.symm) hj
      exact ⟨m + 1, by omega, by rw [hk]; rfl⟩

section
variable {s : State}

theorem State.entriesAhead_eq (s : State) :
    s.entriesAhead = (s.supply.view.map (·.station)).findIdx? (· == s.cfg.station) := by
  rw [State.entriesAhead, List.findIdx?_map]
  rfl

theorem State.hasOwnEntry_iff : s.hasOwnEntry = true ↔ s.cfg.station ∈ s.supply.view.map (·.station) := by
  rw [State.hasOwnEntry, State.entriesAhead_eq, List.findIdx?_isSome, List.any_eq_true]
  simp

/-- A granted claim has its entry in the view. -/
theorem State.ClaimsStand.own_mem (h : s.ClaimsStand) (ho : s.supply.own = .granted) :
    s.cfg.station ∈ s.supply.view.map (·.station) := by
  obtain ⟨n, hn, -⟩ := h.ahead ho
  exact State.hasOwnEntry_iff.1 (by rw [State.hasOwnEntry, hn]; rfl)

/-- Entries leave the view, and the entry of a granted claim stays. -/
theorem State.ClaimsStand.withView (h : s.ClaimsStand) {v : List ClaimEntry}
    (hv : (v.map (·.station)).Sublist (s.supply.view.map (·.station)))
    (ho : s.supply.own = .granted → s.cfg.station ∈ v.map (·.station)) :
    State.ClaimsStand { s with supply := { s.supply with view := v } } := by
  refine ⟨h.loaded, h.stations.sublist hv, fun hg => ?_, h.place, h.supplied, h.timer, h.purging⟩
  obtain ⟨n, hn, hlt⟩ := h.ahead hg
  rw [State.entriesAhead_eq] at hn
  obtain ⟨m, hm, hk⟩ := findIdx?_le_of_sublist hv h.stations (ho hg) hn
  exact ⟨m, by rw [State.entriesAhead_eq]; exact hk, lt_of_le_of_lt hm hlt⟩

/-- An entry of another station that has none joins the view behind every other. -/
theorem State.ClaimsStand.appendEntry (h : s.ClaimsStand) {e : ClaimEntry} (he : e.station ∉ s.supply.view.map (·.station)) :
    State.ClaimsStand { s with supply := s.supply.append e } := by
  refine ⟨h.loaded, ?_, fun hg => ?_, h.place, h.supplied, h.timer, h.purging⟩
  · rw [Supply.append, List.map_append]
    exact h.stations.append (List.nodup_singleton _) (by simpa using he)
  · obtain ⟨n, hn, hlt⟩ := h.ahead hg
    refine ⟨n, ?_, hlt⟩
    rw [State.entriesAhead] at hn ⊢
    rw [Supply.append, List.findIdx?_append, hn]
    rfl

theorem Supply.stations_without (v : Supply) (b : Byte) :
    ((v.without b).view.map (·.station)).Sublist (v.view.map (·.station)) := List.filter_sublist.map _

theorem Supply.mem_without {v : Supply} {b a : Byte} :
    a ∈ (v.without b).view.map (·.station) ↔ a ≠ b ∧ a ∈ v.view.map (·.station) := by
  simp only [Supply.without, List.mem_map, List.mem_filter, bne_iff_ne]
  constructor
  · rintro ⟨e, ⟨he, hb⟩, rfl⟩
    exact ⟨hb, e, he, rfl⟩
  · rintro ⟨hb, e, he, rfl⟩
    exact ⟨e, ⟨he, hb⟩, rfl⟩

theorem State.ne_station_of_otherStation {b : Byte} (h : s.otherStation b = true) : s.cfg.station ≠ b := by
  simp only [State.otherStation, Bool.and_eq_true, bne_iff_ne] at h
  exact h.1.2.symm

/-- Another station's entry leaves the view. -/
theorem State.ClaimsStand.without (h : s.ClaimsStand) {b : Byte} (hb : s.cfg.station ≠ b) :
    State.ClaimsStand { s with supply := s.supply.without b } :=
  h.withView (s.supply.stations_without b) fun ho => Supply.mem_without.2 ⟨hb, h.own_mem ho⟩

variable (s)

theorem State.keepsClaims_takeSupplyClaim (b : Byte) (p : List Byte) : s.KeepsClaims (s.takeSupplyClaim b p) := by
  intro h
  unfold State.takeSupplyClaim
  split
  next hfits =>
    have hleft := h.without (State.ne_station_of_otherStation (Bool.and_eq_true_iff.1 hfits).1)
    refine State.keepsClaims_afterView _ ?_
    unfold Supply.claimed
    split
    · refine hleft.appendEntry fun hm => ?_
      exact (Supply.mem_without.1 hm).1 rfl
    · exact hleft
  · exact h

theorem State.keepsClaims_takeSupplyDone (b : Byte) (p : List Byte) : s.KeepsClaims (s.takeSupplyDone b p) := by
  intro h
  unfold State.takeSupplyDone
  split
  next hfits =>
    simp only [Bool.and_eq_true] at hfits
    exact State.keepsClaims_afterView _ (h.without (State.ne_station_of_otherStation hfits.1.1))
  · exact h

theorem stations_agedView (view : List ClaimEntry) : ((agedView view).map (·.station)).Sublist (view.map (·.station)) := by
  have hsub := (List.filter_sublist (p := fun e => decide (0 < e.remaining))
    (l := view.map fun e => { e with remaining := e.remaining - 1 })).map (·.station)
  rwa [List.map_map] at hsub

/-- The claim runs out with the own entry: a pass is requested to abort, and a purge under way goes back (R100, R111, R126). -/
theorem State.ClaimsStand.ownExpired (h : s.ClaimsStand) {v : List ClaimEntry}
    (hv : (v.map (·.station)).Sublist (s.supply.view.map (·.station))) :
    (State.ownExpired { s with supply := { s.supply with view := v } }).ClaimsStand := by
  have hstations := h.stations.sublist hv
  have hlost {sp : Sprayer} (ha : s.Sprays .spray → sp.abort.isSome = true) (hp : sp.purge ≠ .purging) (ht : sp.purgeTimer = none) :
      State.ClaimsStand { s with supply := Supply.noClaim { s.supply with view := v }, spray := sp } :=
    .of_ungranted h.loaded hstations (by simp [Supply.noClaim]) h.place ha hp ht
  have hgone : (State.claimExpired { s with supply := Supply.noClaim { s.supply with view := v } } s.supply.holder).ClaimsStand := by
    unfold State.claimExpired
    split
    next hb =>
      have hp := h.not_purging_of_holder (by simp [hb])
      unfold State.requestAbort
      split
      · exact hlost (fun _ => rfl) hp (h.no_timer hp)
      next hn =>
        refine hlost (fun hx => ?_) hp (h.no_timer hp)
        by_contra ha
        exact hn ⟨State.sprayIs_spraying_iff.2 hx, by simpa using ha⟩
    next hb =>
      have ha := h.aborting_of_holder (by simp [hb])
      split
      · exact hlost ha (by simp [Sprayer.purgeBack]) rfl
      next hn =>
        have hp : s.spray.purge ≠ .purging := fun e => hn (by simp [State.purgeHoldsBar, e])
        exact hlost ha hp (h.no_timer hp)
    next hb =>
      have hp := h.not_purging_of_holder (by simp [hb])
      exact hlost (h.aborting_of_holder (by simp [hb])) hp (h.no_timer hp)
  have hidle (ho : s.supply.own ≠ .granted) : State.ClaimsStand { s with supply := { s.supply with view := v } } :=
    h.withSupply ho s.link hstations ho
  unfold State.ownExpired
  cases ho : s.supply.own with
  | waiting => exact hgone
  | granted => exact hgone
  | none => exact hidle (by simp [ho])
  | queued => exact hidle (by simp [ho])
  | sending => exact hidle (by simp [ho])
  | refusedWait => exact hidle (by simp [ho])
  | ending => exact hidle (by simp [ho])

theorem State.keepsClaims_viewAged {v : List ClaimEntry}
    (hv : (v.map (·.station)).Sublist (s.supply.view.map (·.station))) : s.KeepsClaims (s.viewAged v) := by
  intro h
  unfold State.viewAged
  dsimp only
  refine State.keepsClaims_afterView _ ?_
  split
  · exact h.ownExpired _ hv
  next hn =>
    refine h.withView hv fun ho => ?_
    by_contra hm
    exact hn (Bool.and_eq_true_iff.2 ⟨State.hasOwnEntry_iff.2 (h.own_mem ho), by
      rw [Bool.not_eq_true', Bool.eq_false_iff]
      exact fun k => hm (State.hasOwnEntry_iff.1 k)⟩)

/-! ## The own telegrams on the link (R121, R124, R125) -/

theorem State.keepsClaims_claimReadback (refused : Bool) : s.KeepsClaims (s.claimReadback refused) := by
  intro h
  unfold State.claimReadback
  split
  next ho =>
    have hn : s.supply.own ≠ .granted := by simp [ho]
    split
    · exact h.withSupply hn _ h.stations (by simp)
    · refine State.keepsClaims_tryGrant _ (h.withSupply hn s.link ?_ (by simp))
      rw [Supply.append, List.map_append]
      refine (h.stations.sublist (s.supply.stations_without _)).append (List.nodup_singleton _) ?_
      simpa [State.ownEntry] using fun hm => (Supply.mem_without.1 hm).1 rfl
  · exact (s.quiet_post _ _ _).keeps h
  all_goals exact h

theorem State.keepsClaims_doneReadback : s.KeepsClaims s.doneReadback := by
  intro h
  unfold State.doneReadback
  split
  next ho => exact h.withSupply (by simp [ho]) s.link (h.stations.sublist (s.supply.stations_without _)) (by simp [Supply.noClaim])
  next ho => exact h.withSupply (by simp [ho]) s.link h.stations (by simp [ho])
  all_goals exact h

theorem State.keepsClaims_endSendOf (o : Option OutEntry) (b : Bool) : s.KeepsClaims (s.endSendOf o b) := by
  have hreport (u : State) (e : OutEntry) : u.KeepsClaims (u.sendReport e b) := by
    unfold State.sendReport
    split
    · exact (u.quiet_offerReport _ _).keeps
    split
    · exact State.Quiet.keeps (.of_same (by simp) (by simp [State.supplied]))
    split
    · exact (u.keepsClaims_claimReadback b).trans (State.keepsClaims_starts _)
    split
    · exact u.keepsClaims_doneReadback.trans (State.keepsClaims_starts _)
    · exact .refl u
  unfold State.endSendOf
  split
  · exact fun h => hreport _ _ (h.of_same rfl rfl)
  · exact .refl s

theorem State.keepsClaims_accessBoundary (n : Nat) : s.KeepsClaims (s.accessBoundary n) := by
  intro h
  unfold State.accessBoundary
  split
  · split
    · exact h.of_same rfl rfl
    · unfold State.beginSend
      split
      next hq => exact h.withSupply (by simp [hq.2]) _ h.stations (by simp)
      · exact h.of_same rfl rfl
  · exact h

/-- A clash gives the own claim no grant (R121, R125). -/
theorem State.ClaimsStand.clashed (h : s.ClaimsStand) (kind : Byte) (l : Link) :
    State.ClaimsStand { s with link := l, supply := s.supplyClashed kind } := by
  have hsame : State.ClaimsStand { s with link := l } := h.of_same rfl rfl
  unfold State.supplyClashed
  split
  · unfold Supply.clashed
    split
    next ho => exact h.withSupply (by simp [ho]) l h.stations (by simp)
    next ho => exact h.withSupply (by simp [ho]) l h.stations (by simp [Supply.noClaim])
    all_goals exact hsame
  · exact hsame

theorem State.keepsClaims_clash : s.KeepsClaims s.clash := by
  intro h
  unfold State.clash
  split
  · split
    · exact State.keepsClaims_starts _ (h.clashed _ _ _)
    · exact h.clashed _ _ _
  · exact h

theorem State.keepsClaims_goodTelegram (e : HeardEvent) : s.KeepsClaims (s.goodTelegram e) := by
  have hview (u : State) (t : Telegram) : u.KeepsClaims (u.toView t) := by
    unfold State.toView State.when
    split
    · split
      · exact u.keepsClaims_takeSupplyClaim _ _
      · exact u.keepsClaims_takeSupplyDone _ _
    · exact .refl u
  have htake (u : State) (t : Telegram) : u.KeepsClaims (u.takeGood t) := by
    unfold State.takeGood
    split
    · exact .refl u
    split
    · exact hview u t
    · exact State.Quiet.keeps (.of_same rfl rfl)
  have hclosed : s.Quiet s.closeSlot := .of_same rfl rfl
  unfold State.goodTelegram
  split
  · exact State.Quiet.keeps (.of_same (by simp) (by simp [State.supplied]))
  · split
    · exact State.Quiet.keeps (.of_same rfl rfl)
    · exact .refl s
  · split
    · split
      · exact hclosed.keeps
      · exact hclosed.keeps.trans (htake _ _)
    · exact .refl s

end

end Sys2Proof.Machine

end

section

namespace Sys2Proof.Machine

section
variable (s : State)

/-! ## Records that leave the table (R3, R15, R32, R33, R170) -/

/-- A record that leaves SPRAY takes its schedule and its claim with it. -/
theorem State.keepsClaims_leave (p : Position) : s.KeepsClaims (s.leave p) := by
  intro h
  unfold State.leave
  split
  · exact h
  next r _ =>
    have hquiet : s.Quiet ({ s with table := s.table.put p none }.handBack r.recipe) :=
      State.Quiet.trans (t := { s with table := s.table.put p none })
        (.of_put (p := p) (o := none) rfl rfl fun _ e => by cases e) (.of_same (by simp) (by simp [State.supplied]))
    have hfree : ¬ ({ s with table := s.table.put p none }.handBack r.recipe).Sprays p := by
      rintro ⟨q, hq, -⟩
      simp at hq
    generalize { s with table := s.table.put p none }.handBack r.recipe = u at hquiet hfree ⊢
    have hmask : u.Quiet (if u.mask.cand = some p then { u with mask := u.mask.drop } else u) := by
      split
      · exact .of_same rfl rfl
      · exact .refl u
    dsimp only
    generalize (if u.mask.cand = some p then { u with mask := u.mask.drop } else u) = v at hmask ⊢
    have hv := (hquiet.trans hmask).keeps h
    split
    next hp =>
      have hnone : ¬ v.Sprays .spray := fun hx => hfree (hp ▸ hmask.sprays _ hx)
      have hdropped : v.Quiet { v with spray := { v.spray with schedule := none, abort := none } } :=
        ⟨rfl, fun _ => id, fun hx => absurd hx hnone⟩
      exact (hdropped.keeps hv).endBoardClaim hnone
    · exact hv

theorem State.keepsClaims_departClean : s.KeepsClaims s.departClean :=
  (s.keepsClaims_leave .exit).trans (State.quiet_report _ _ _).keeps

theorem State.keepsClaims_removeLifted (p : Position) : s.KeepsClaims (s.removeLifted p) := by
  unfold State.removeLifted
  split
  · exact .refl s
  · dsimp only
    refine (s.keepsClaims_leave p).trans (State.KeepsClaims.trans ?_ (State.quiet_notice _ _ _).keeps)
    split
    · exact (State.quiet_withdrawKind _ _).keeps
    · exact .refl _

theorem State.keepsClaims_diversionTest : s.KeepsClaims s.diversionTest := by
  unfold State.diversionTest
  split
  next r t _ _ =>
    split
    · have hheld (u : State) : u.Quiet (u.appendHold (heldEntry t r.trav s.seconds)) := .of_same rfl rfl
      have hfull (u : State) : u.Quiet u.nearFullTest := .of_same (by simp) (by simp [State.supplied])
      exact (s.keepsClaims_leave .exit).trans <| (hheld _).keeps.trans <| (State.quiet_notice _ _ _).keeps.trans <|
        (State.quiet_report _ _ _).keeps.trans (hfull _).keeps
    · exact .refl s
  · exact .refl s

theorem State.keepsClaims_rackChange (r : Fin 8) (b : Bool) : s.KeepsClaims (s.rackChange r b) := by
  have hlevel : s.Quiet (s.setRackLevel r b) := .of_same (by simp) (by simp [State.supplied])
  have hedge (u : State) : u.KeepsClaims (u.rackEdge r b) := by
    unfold State.rackEdge
    split
    · exact u.keepsClaims_diversionTest
    split
    · exact fun h => h.of_same (by simp) (by simp [State.supplied])
    · exact fun h => h.of_same (by simp) (by simp [State.supplied])
    · exact .refl u
    · exact .refl u
  unfold State.rackChange
  dsimp only
  split
  · split
    · exact hlevel.keeps.trans ((hedge _).trans (State.keepsClaims_settle _))
    · exact hlevel.keeps
  · exact .refl s

/-! ## Moves and edges (R13 to R16, R32, R33) -/

/-- A move that carries no record SPRAYING. -/
theorem State.quiet_carryOver {m : ConvMove} (h : ¬ s.Sprays (moveSource m)) : s.Quiet (s.carryOver m) := by
  refine .of_sprays rfl fun p ⟨r, hr, hx⟩ => ?_
  rw [State.carryOver, PerPos.get_put, PerPos.get_put] at hr
  split at hr
  · cases hr
  split at hr
  · exact absurd ⟨r, hr, hx⟩ h
  · exact ⟨r, hr, hx⟩

theorem State.keepsClaims_completeMove (m : ConvMove) : s.KeepsClaims (s.completeMove m) := by
  intro h
  cases m with
  | toTransport => exact (s.quiet_carryOver (h.not_sprays (by decide))).keeps h
  | toSpray =>
    have hcarried : s.Quiet (s.carryOver .toSpray) := s.quiet_carryOver (h.not_sprays (by decide))
    exact (hcarried.trans ((State.quiet_candidateAtSpray _).trans (State.quiet_sprayDecision _))).keeps h
  | toGate =>
    unfold State.completeMove
    dsimp only
    split
    · exact (State.quiet_carryOver _ s.not_sprays_abortPass).keeps (s.keepsClaims_abortPass h)
    next hn => exact (s.quiet_carryOver (m := .toGate) fun hx => hn (State.sprayIs_spraying_iff.2 hx)).keeps h

theorem State.quiet_strayOccupied (p : Position) : s.Quiet (s.strayOccupied p) := by
  unfold State.strayOccupied
  split
  · split
    · split
      · exact .of_same rfl rfl
      · exact .refl s
    · exact s.quiet_makeStranded p
  · exact .refl s

theorem State.keepsClaims_moveTest (m : ConvMove) : s.KeepsClaims (s.moveTest m) := by
  unfold State.moveTest
  dsimp only
  split
  · split
    · exact (s.keepsClaims_completeMove m).trans (State.quiet_strayOccupied _ _).keeps
    · exact s.keepsClaims_completeMove m
  · exact .refl s

theorem State.keepsClaims_moveTests (p : Position) : s.KeepsClaims (s.moveTests p) := by
  unfold State.moveTests
  split
  · exact s.keepsClaims_moveTest _
  · exact (s.keepsClaims_moveTest _).trans (State.keepsClaims_moveTest _ _)
  · exact (s.keepsClaims_moveTest _).trans (State.keepsClaims_moveTest _ _)
  · exact s.keepsClaims_moveTest _
  all_goals exact .refl s

theorem State.keepsClaims_takeReceived (t : Telegram) : s.KeepsClaims (s.takeReceived t) := by
  unfold State.takeReceived
  split
  · split
    · split
      · exact s.keepsClaims_departClean
      · exact (s.quiet_setHandoff _).keeps
    · exact .refl s
  · exact .refl s

theorem State.keepsClaims_exitEdge (r : Record) (b : Bool) : s.KeepsClaims (s.exitEdge r b) := by
  unfold State.exitEdge
  split
  · exact s.keepsClaims_diversionTest
  · exact .refl s
  · exact (s.quiet_setHandoff _).keeps
  · exact .refl s
  · unfold State.exitCleared
    split
    · exact s.keepsClaims_departClean
    · exact (s.quiet_setHandoff _).keeps
  · exact .refl s
  · exact s.keepsClaims_removeLifted _

theorem State.keepsClaims_occupiedEdge (p : Position) : s.KeepsClaims (s.occupiedEdge p) := by
  unfold State.occupiedEdge
  split
  · exact s.keepsClaims_moveTests p
  split
  · exact .refl s
  split
  · exact s.keepsClaims_exitEdge _ _
  · exact (s.quiet_strayOccupied _).keeps

theorem State.keepsClaims_lifted (p : Position) : s.KeepsClaims (s.lifted p) := by
  unfold State.lifted
  split
  · split
    · exact State.Quiet.keeps (.of_same rfl rfl)
    · exact .refl s
  · exact s.keepsClaims_removeLifted p

theorem State.keepsClaims_emptyEdge (p : Position) : s.KeepsClaims (s.emptyEdge p) := by
  have hstop : s.KeepsClaims (s.raiseStop p) := State.Quiet.keeps (.of_same (by simp) (by simp [State.supplied]))
  unfold State.emptyEdge
  dsimp only
  split
  · exact hstop.trans (State.keepsClaims_moveTests _ _)
  split
  · exact hstop
  split
  · exact hstop.trans (State.keepsClaims_exitEdge _ _ _)
  · exact hstop.trans (State.keepsClaims_lifted _ _)

theorem State.keepsClaims_transferExpiry : s.KeepsClaims s.transferExpiry := by
  unfold State.transferExpiry
  split
  · exact .refl s
  split
  · split
    · exact .refl s
    · exact (s.quiet_notice _ _).keeps.trans ((State.keepsClaims_departClean _).trans (State.keepsClaims_settle _))
  · exact .refl s

theorem State.keepsClaims_orphanExpiry : s.KeepsClaims s.orphanExpiry := by
  unfold State.orphanExpiry
  split
  · split
    · exact .refl s
    · exact (s.quiet_orphanRecord _).keeps.trans (State.keepsClaims_starts _)
  · exact .refl s

/-- The schedule of a record that is not sprayed is discarded (R183). -/
theorem State.quiet_dropSchedule : s.Quiet { s with spray := { s.spray with schedule := none } } :=
  s.quiet_withSpray .rfl rfl rfl

theorem State.keepsClaims_takeLotHold (t : Telegram) : s.KeepsClaims (s.takeLotHold t) := by
  have hskip (u : State) : u.KeepsClaims u.skipWaiting := by
    intro h
    unfold State.skipWaiting
    split
    next hw =>
      have hskipped : u.Quiet (u.atSpray fun r => { r with spray := .skipped }) :=
        .of_put (p := .spray) rfl rfl fun q hq hx => by
          obtain ⟨r, -, rfl⟩ := Option.map_eq_some_iff.1 hq
          cases hx
      have hnone : ¬ (u.atSpray fun r => { r with spray := .skipped }).Sprays .spray := by
        rintro ⟨q, hq, hx⟩
        obtain ⟨r, -, rfl⟩ := Option.map_eq_some_iff.1 hq
        cases hx
      have hended := (hskipped.keeps h).endBoardClaim hnone
      exact (State.quiet_dropSchedule _).keeps hended
    · exact h
  have hdivert (u : State) : u.Quiet u.divertOffered := by
    unfold State.divertOffered
    split
    · exact (u.quiet_withdrawKind _).trans (State.quiet_handForDiversion _)
    · exact .refl u
  have hfilter (u : State) (f : LotFilter) : u.KeepsClaims (u.applyFilter f) := by
    have hmark : u.Quiet (u.mapRecords fun _ r => f.mark r) := u.quiet_mapRecords fun _ r => by simp
    unfold State.applyFilter
    dsimp only
    split <;> split
    · exact hmark.keeps.trans ((hskip _).trans (hdivert _).keeps)
    · exact (hmark.trans (hdivert _)).keeps
    · exact hmark.keeps.trans (hskip _)
    · exact hmark.keeps
  unfold State.takeLotHold
  dsimp only
  split
  · exact .refl s
  split
  next k _ => exact State.KeepsClaims.trans (t := s.setFilter k _) (State.Quiet.keeps (.of_same rfl rfl)) (hfilter _ _)
  · exact (s.quiet_notice _ _).keeps

/-! ## The end of an index (R138) -/

/-- An index carries no record SPRAYING. -/
theorem State.ClaimsStand.quiet_shiftTunnel {s : State} (h : s.ClaimsStand) : s.Quiet s.shiftTunnel := by
  have carried {q : Position} {r : Record} (hr : s.table.get q = some r) (hq : q ≠ .spray) (hx : r.spray = .spraying) {P : Prop} : P :=
    absurd ⟨r, hr, hx⟩ (h.not_sprays hq)
  refine .of_sprays rfl fun p ⟨r, hr, hx⟩ => ?_
  cases p with
  | entry => exact ⟨r, hr, hx⟩
  | transport => exact ⟨r, hr, hx⟩
  | spray => exact ⟨r, hr, hx⟩
  | gate =>
    simp only [State.shiftTunnel, PerPos.get] at hr
    split at hr
    · cases hr
    · exact ⟨r, hr, hx⟩
  | tunnel0 =>
    simp only [State.shiftTunnel, PerPos.get] at hr
    split at hr
    · exact carried (q := .gate) hr (by decide) hx
    · cases hr
  | tunnel1 => exact carried (q := .tunnel0) hr (by decide) hx
  | tunnel2 => exact carried (q := .tunnel1) hr (by decide) hx
  | tunnel3 => exact carried (q := .tunnel2) hr (by decide) hx
  | tunnel4 => exact carried (q := .tunnel3) hr (by decide) hx
  | tunnel5 => exact carried (q := .tunnel4) hr (by decide) hx
  | exit =>
    simp only [State.shiftTunnel, PerPos.get] at hr
    split at hr
    next q hq => exact carried (q := .tunnel5) (hq.trans hr) (by decide) hx
    · exact ⟨r, hr, hx⟩

theorem State.keepsClaims_endIndex : s.KeepsClaims s.endIndex := by
  have hposition (u : State) (p : Position) : u.KeepsClaims (u.comparePosition p) := by
    unfold State.comparePosition
    split
    · split
      · exact (u.quiet_makeStranded p).keeps
      · exact .refl u
    split
    · exact u.keepsClaims_removeLifted p
    · exact .refl u
  have hcovered (l : List Position) (u : State) : u.KeepsClaims (l.foldl State.comparePosition u) := by
    induction l generalizing u with
    | nil => exact .refl u
    | cons p l ih => exact (hposition u p).trans (ih _)
  have hreload (u : State) : u.Quiet u.reloadDwell := .of_same rfl rfl
  have hshift : s.KeepsClaims s.shiftTunnel.compareCovered.reloadDwell := fun h =>
    (hreload _).keeps (hcovered _ _ (h.quiet_shiftTunnel.keeps h))
  unfold State.endIndex
  dsimp only
  split
  · exact hshift.trans (State.quiet_placed _).keeps
  · exact hshift

/-! ## The clear-out scan (R21, R187) -/

theorem State.keepsClaims_scan : s.KeepsClaims s.scan := by
  have hfold (l : List Position) (u : State) : u.Quiet (l.foldl (fun t p => if t.occupied p then t.makeStranded p else t) u) := by
    induction l generalizing u with
    | nil => exact .refl u
    | cons p l ih =>
      rw [List.foldl_cons]
      refine State.Quiet.trans ?_ (ih _)
      split
      · exact u.quiet_makeStranded p
      · exact .refl u
  have hcleared : s.Quiet { s with cell := .clearOut } := .of_same rfl rfl
  have hracks (u : State) : u.Quiet u.scanRack.scanTunnel := .of_same (by simp) (by simp [State.supplied])
  exact (hcleared.trans ((hfold positions _).trans (hracks _))).keeps.trans (State.keepsClaims_settle _)

end

/-! ## The wrappers of the commands -/

section
variable {s : State}

theorem State.KeepsClaims.of_when {c : Bool} {f : State → State} (h : s.KeepsClaims (f s)) : s.KeepsClaims (s.when c f) := by
  unfold State.when
  split
  · exact h
  · exact .refl s

theorem State.KeepsClaims.of_live {f : State → State} (h : s.KeepsClaims (f s)) : s.KeepsClaims (s.live f) := by
  unfold State.live
  split
  · exact h
  · exact .refl s

theorem State.KeepsClaims.of_hand {kind : Byte} {f : State → Telegram → State} (h : ∀ (u : State) t, u.KeepsClaims (f u t)) :
    s.KeepsClaims (s.hand kind f) := by
  unfold State.hand
  split
  · exact fun hs => h _ _ (hs.of_same rfl rfl)
  · exact .refl s

end

/-! ## The laws in every cell, loaded or not (R128, R218) -/

/-- An event keeps the laws of the supply view and of spraying. -/
def State.KeepsSupply (s t : State) : Prop := s.supplyLaw → s.sprayLaw → t.supplyLaw ∧ t.sprayLaw

/-- An event that a cell takes from its load on keeps the laws where it does so in a loaded cell. -/
theorem State.KeepsSupply.of_loaded {s t : State} (hn : s.loaded = false → t = s) (h : s.KeepsClaims t) : s.KeepsSupply t := by
  intro hv hs
  cases hl : s.loaded with
  | false => rw [hn hl]; exact ⟨hv, hs⟩
  | true => exact (State.claimsStand_iff.1 (h (State.claimsStand_iff.2 ⟨hl, hv, hs⟩))).2

/-- Before the load no claim is made, so an event may take configuration values where it leaves the view, the sequencer and the
boards. -/
theorem State.KeepsSupply.of_not_loaded {s t : State} (hl : s.loaded = false) (ht : t.table = s.table)
    (hview : t.supply.view = s.supply.view) (hown : t.supply.own = s.supply.own) (habort : t.spray.abort = s.spray.abort)
    (hpurge : t.spray.purge = s.spray.purge) (htimer : t.spray.purgeTimer = s.spray.purgeTimer) : s.KeepsSupply t := by
  rintro ⟨hstations, hidle, -⟩ ⟨hplace, hsupplied, htimed, hpurging⟩
  have hnone : s.supply.own = .none := hidle hl
  have hn : s.supply.own ≠ .granted := by simp [hnone]
  have hin : t.sprayIs .spraying = s.sprayIs .spraying := by rw [State.sprayIs, State.sprayIs, ht]
  refine ⟨⟨hview ▸ hstations, fun _ => hown.trans hnone, fun ho => absurd (hown.symm.trans ho) hn⟩, ht ▸ hplace, fun hx => ?_, ?_, ?_⟩
  · rw [habort]
    exact .inr ((hsupplied (hin ▸ hx)).resolve_left fun hg => hn hg.1)
  · rw [hpurge, htimer]; exact htimed
  · rw [hpurge]
    exact fun hp => absurd (hpurging hp).1 hn

/-- The state that a cold reset leaves has no claim and no board. -/
theorem State.keepsSupply_cold (s : State) : s.KeepsSupply s.cold := by
  intro _ _
  refine ⟨⟨List.nodup_nil, fun _ => rfl, fun h => ?_⟩, fun p r h _ => ?_, fun h => ?_, ?_, fun h => ?_⟩
  · cases h
  · rw [show s.cold.table = .all none from rfl, PerPos.get_all] at h
    cases h
  · cases h
  · simp [State.cold, State.reset, Sprayer.reset]
  · cases h

theorem State.keepsSupply_load (s : State) (im : List Byte) (hl : s.loaded = false) : s.KeepsSupply (s.load im) := by
  unfold State.load
  split <;> exact .of_not_loaded hl rfl rfl rfl rfl rfl rfl

theorem State.keepsSupply_idleMs (s : State) : s.KeepsSupply s.idleMs := by
  cases hl : s.loaded with
  | true => exact .of_loaded (by simp [hl]) s.quiet_idleMs.keeps
  | false =>
    unfold State.idleMs State.secondsMsDown
    rw [hl, if_neg (by simp)]
    split <;> exact .of_not_loaded hl rfl rfl rfl rfl rfl rfl

/-! ## The laws after every step -/

/-- Every command keeps the laws. -/
theorem exec_keepsSupply (c : Instr) (s : State) : ∃ t, exec c s = .next t ∧ s.KeepsSupply t := by
  have live {f : State → State} (h : ∀ u : State, u.KeepsClaims (f u)) : s.KeepsSupply (s.live f) :=
    .of_loaded (fun hl => State.live_of_not_loaded hl f) (.of_live (h s))
  have liveQuiet {f : State → State} (h : ∀ u : State, u.Quiet (f u)) : s.KeepsSupply (s.live f) := live fun u => (h u).keeps
  have whenDo {b : Bool} {f : State → State} (h : ∀ u : State, u.KeepsClaims (f u))
      (hb : s.loaded = false → b = false := by intro hl; simp [hl, State.tracking]) : s.KeepsSupply (s.when b f) :=
    .of_loaded (fun hl => by rw [hb hl]; rfl) (.of_when (h s))
  have whenQuiet {b : Bool} {f : State → State} (h : ∀ u : State, u.Quiet (f u))
      (hb : s.loaded = false → b = false := by intro hl; simp [hl, State.tracking]) : s.KeepsSupply (s.when b f) :=
    whenDo (fun u => (h u).keeps) hb
  have hand {k : Byte} {f : State → Telegram → State} (h : ∀ (u : State) t, u.KeepsClaims (f u t)) :
      s.KeepsSupply (s.hand k f) := .of_loaded (fun hl => by rw [State.hand, hl]) (.of_hand h)
  have handQuiet {k : Byte} {f : State → Telegram → State} (h : ∀ (u : State) t, u.Quiet (f u t)) :
      s.KeepsSupply (s.hand k f) := hand fun u t => (h u t).keeps
  have sent (o : Option OutEntry) (b : Bool) : s.KeepsSupply (s.endSendOf o b) :=
    .of_loaded (fun hl => by simp [State.endSendOf, hl]) (s.keepsClaims_endSendOf o b)
  have same {f : State → State} (ht : ∀ u, (f u).table = u.table) (hs : ∀ u, (f u).supplied = u.supplied) (u : State) :
      u.Quiet (f u) := .of_same (ht u) (hs u)
  cases c with
  | coldReset => exact ⟨_, rfl, s.keepsSupply_cold⟩
  | configurationLoad im =>
    refine ⟨_, rfl, ?_⟩
    unfold State.when
    split
    next h => exact s.keepsSupply_load im (by simpa using (Bool.and_eq_true_iff.1 h).2)
    · exact fun hv hs => ⟨hv, hs⟩
  | clearOutScan ps rs =>
    refine ⟨_, rfl, whenDo fun u h => State.keepsClaims_scan _ (h.of_same (by simp) (by simp [State.supplied]))⟩
  | occupiedEdge p =>
    refine ⟨_, rfl, whenDo fun u h => ?_⟩
    have hlevel : (u.setLevel p true).ClaimsStand := h.of_same (by simp) (by simp [State.supplied])
    dsimp only
    split
    · exact State.keepsClaims_settle _ (State.keepsClaims_occupiedEdge _ p hlevel)
    · exact hlevel
  | emptyEdge p =>
    refine ⟨_, rfl, whenDo fun u h => ?_⟩
    have hlevel : (u.setLevel p false).ClaimsStand := h.of_same (by simp) (by simp [State.supplied])
    dsimp only
    split
    · exact State.keepsClaims_settle _ (State.keepsClaims_emptyEdge _ p hlevel)
    · exact hlevel
  | moveStart m => exact ⟨_, rfl, liveQuiet fun u => u.quiet_tryMove m⟩
  | idReadAnswer k a => exact ⟨_, rfl, whenDo fun u => (u.quiet_endEntryRead _).keeps.trans (State.keepsClaims_starts _)⟩
  | entryReadTimeout => exact ⟨_, rfl, whenDo fun u => (u.quiet_endEntryRead _).keeps.trans (State.keepsClaims_starts _)⟩
  | orphanWaitExpiry => exact ⟨_, rfl, live State.keepsClaims_orphanExpiry⟩
  | offer => exact ⟨_, rfl, hand fun u t => (u.quiet_takeOffer t).keeps.trans (State.keepsClaims_starts _)⟩
  | accept => exact ⟨_, rfl, handQuiet State.quiet_takeAccept⟩
  | decline => exact ⟨_, rfl, handQuiet State.quiet_takeDecline⟩
  | received => exact ⟨_, rfl, hand fun u t => (u.keepsClaims_takeReceived t).trans (State.keepsClaims_settle _)⟩
  | answerWaitExpiry => exact ⟨_, rfl, liveQuiet State.quiet_answerExpiry⟩
  | reOfferWaitExpiry => exact ⟨_, rfl, liveQuiet State.quiet_reOfferExpiry⟩
  | upstreamTransferTimeout => exact ⟨_, rfl, live State.keepsClaims_transferExpiry⟩
  | downstreamTransferTimeout i => exact ⟨_, rfl, whenQuiet (same (by simp) (by simp [State.supplied]))⟩
  | receivedRepost => exact ⟨_, rfl, liveQuiet (same (by simp) (by simp [State.supplied]))⟩
  | recipePart => exact ⟨_, rfl, handQuiet fun u t => .of_same (by simp) (by simp [State.supplied])⟩
  | recipeActivate => exact ⟨_, rfl, handQuiet fun u t => .of_same (by simp) (by simp [State.supplied])⟩
  | recipeDrop => exact ⟨_, rfl, handQuiet fun u t => .of_same (by simp) (by simp [State.supplied])⟩
  | transportEncoderCount dir datum => exact ⟨_, rfl, whenQuiet fun u => u.quiet_transportCount dir datum⟩
  | claimRequest => exact ⟨_, rfl, live State.keepsClaims_tryBoardClaim⟩
  | passStart => exact ⟨_, rfl, live State.keepsClaims_tryPass⟩
  | sprayEncoderCount dir rising n =>
    refine ⟨_, rfl, live fun u h => ?_⟩
    have hmoved : (u.moved n).ClaimsStand := (u.quiet_withSpray (sp := (u.moved n).spray) .rfl rfl rfl).keeps h
    dsimp only
    split
    · exact State.keepsClaims_sprayCount _ dir hmoved
    · exact hmoved
  | passStallTimeout => exact ⟨_, rfl, whenDo State.keepsClaims_abortPass⟩
  | speedWindowEnd => exact ⟨_, rfl, liveQuiet fun u => u.quiet_withSpray .rfl rfl rfl⟩
  | purgeClaimRequest => exact ⟨_, rfl, live State.keepsClaims_tryPurgeClaim⟩
  | purgeTimerExpiry => exact ⟨_, rfl, whenDo fun u => u.keepsClaims_purgeEnd.trans (State.keepsClaims_starts _)⟩
  | supplyClaim b p => exact ⟨_, rfl, whenDo fun u => u.keepsClaims_takeSupplyClaim b p⟩
  | supplyDone b p => exact ⟨_, rfl, whenDo fun u => u.keepsClaims_takeSupplyDone b p⟩
  | ownClaimReadback b => exact ⟨_, rfl, sent _ b⟩
  | ownDoneReadback b => exact ⟨_, rfl, sent _ b⟩
  | supplyTick => exact ⟨_, rfl, live fun u => u.keepsClaims_viewAged (stations_agedView _)⟩
  | claimEntryExpiry b => exact ⟨_, rfl, live fun u => u.keepsClaims_viewAged (u.supply.stations_without b)⟩
  | claimGranted => exact ⟨_, rfl, live State.keepsClaims_afterView⟩
  | learningTimeEnd => exact ⟨_, rfl, whenDo fun u h => State.keepsClaims_afterView _ ⟨h.1, h.2, h.3, h.4, h.5, h.6, h.7⟩⟩
  | reClaimTimerExpiry =>
    refine ⟨_, rfl, .of_loaded (fun hl => by simp [hl]) fun h => ?_⟩
    unfold State.when
    split
    next hwait =>
      simp only [Bool.and_eq_true, beq_iff_eq] at hwait
      exact h.withSupply (by simp [hwait.1.2]) _ h.stations (by simp)
    · exact h
  | cureTick => exact ⟨_, rfl, liveQuiet State.quiet_cureTick⟩
  | potLifeExpiry => exact ⟨_, rfl, liveQuiet fun u => u.quiet_mapRecords fun p r => by simp⟩
  | dwellExpiry => exact ⟨_, rfl, whenQuiet (same (by simp) (by simp [State.supplied]))⟩
  | indexStart => exact ⟨_, rfl, liveQuiet (same (by simp) (by simp [State.supplied]))⟩
  | indexDone =>
    refine ⟨_, rfl, whenDo fun u h => ?_⟩
    have hrise : u.indexDoneRise.ClaimsStand := h.of_same rfl rfl
    dsimp only
    split
    · exact State.keepsClaims_settle _ (State.keepsClaims_endIndex _ hrise)
    · exact hrise
  | indexTimeout => exact ⟨_, rfl, whenQuiet (same (by simp) (by simp [State.supplied]))⟩
  | probeReadDone z k a => exact ⟨_, rfl, whenQuiet (same (by simp) (by simp [State.supplied]))⟩
  | probeReadTimeout => exact ⟨_, rfl, liveQuiet (same (by simp) (by simp [State.supplied]))⟩
  | diversionStart => exact ⟨_, rfl, liveQuiet State.quiet_tryDiversion⟩
  | rackOccupiedEdge r => exact ⟨_, rfl, live fun u => u.keepsClaims_rackChange r true⟩
  | rackEmptyEdge r => exact ⟨_, rfl, live fun u => u.keepsClaims_rackChange r false⟩
  | release => exact ⟨_, rfl, handQuiet fun u t => .of_same (by simp) (by simp [State.supplied])⟩
  | lotHold => exact ⟨_, rfl, hand fun u t => (u.keepsClaims_takeLotHold t).trans (State.keepsClaims_starts _)⟩
  | lotLift => exact ⟨_, rfl, handQuiet fun u t => .of_same (by simp) (by simp [State.supplied])⟩
  | watchClear => exact ⟨_, rfl, handQuiet fun u t => .of_same (by simp) (by simp [State.supplied])⟩
  | statusQuery => exact ⟨_, rfl, handQuiet fun u t => .of_same (by simp) (by simp [State.supplied])⟩
  | guardOpening => exact ⟨_, rfl, live fun u h => State.keepsClaims_guardOpens _ (h.of_same rfl rfl)⟩
  | guardClosing =>
    exact ⟨_, rfl, liveQuiet (same (fun u => by dsimp only; split <;> rfl) fun u => by dsimp only; split <;> rfl)⟩
  | settleTimeExpiry => exact ⟨_, rfl, whenDo State.keepsClaims_endHold⟩
  | guardFirstLevel b =>
    refine ⟨_, rfl, whenDo fun u h => ?_⟩
    have hlevel : (u.setGuard b).ClaimsStand := h.of_same rfl rfl
    dsimp only
    split
    · exact State.keepsClaims_guardOpens _ hlevel
    · exact hlevel
  | linkIdle => exact ⟨_, rfl, liveQuiet (same (by simp) (by simp [State.supplied]))⟩
  | sendStart n => exact ⟨_, rfl, live fun u => u.keepsClaims_accessBoundary n⟩
  | clash => exact ⟨_, rfl, live State.keepsClaims_clash⟩
  | sendEnd b => exact ⟨_, rfl, sent _ b⟩
  | telegramTaken e => exact ⟨_, rfl, live fun u => u.keepsClaims_goodTelegram e⟩
  | faultyTelegram e => exact ⟨_, rfl, liveQuiet (same (by simp) (by simp [State.supplied]))⟩
  | telegramAbandoned => exact ⟨_, rfl, whenQuiet (same (fun _ => rfl) fun _ => rfl)⟩
  | heldTelegramEntered => exact ⟨_, rfl, liveQuiet (same (fun _ => rfl) fun _ => rfl)⟩
  | cellSecondsTick => exact ⟨_, rfl, fun hv hs => ⟨hv, hs⟩⟩
  | maskChannelEdge k b => exact ⟨_, rfl, liveQuiet (same (fun _ => rfl) fun _ => rfl)⟩
  | startBitHeard => exact ⟨_, rfl, liveQuiet (same (by simp) (by simp [State.supplied]))⟩

/-- Settles O58: every command keeps the laws, and so does a millisecond. -/
theorem sprayingUnderGrantedClaim : Obligations.SprayingUnderGrantedClaim := by
  intro s t hv hs h
  unfold step at h
  split at h
  · cases h
    exact s.keepsSupply_idleMs hv hs
  next c rest _ =>
    obtain ⟨u, hu, hkeeps⟩ := exec_keepsSupply c { s with pending := rest }
    cases hu.symm.trans h
    exact hkeeps hv hs

end Sys2Proof.Machine

end

section

namespace Sys2Proof.Machine

/-! ## The grant test on a view (R116, R123) -/

section
variable {s : State}

/-- The entries ahead of the own entry are those that stand before it in the view (R116). -/
theorem State.entriesAhead_of_split {ahead behind : List ClaimEntry} {own : ClaimEntry}
    (hv : s.supply.view = ahead ++ own :: behind) (ho : own.station = s.cfg.station)
    (ha : ∀ e ∈ ahead, e.station ≠ s.cfg.station) : s.entriesAhead = some ahead.length := by
  have hnone : (ahead.findIdx? fun e => e.station == s.cfg.station) = none :=
    List.findIdx?_eq_none_iff.2 fun e he => by simpa using ha e he
  rw [State.entriesAhead, hv, List.findIdx?_append, hnone, List.findIdx?_cons, if_pos (by simpa using ho)]
  simp

theorem State.tryGrant_of_not_due (h : s.grantDue = false) : s.tryGrant = s := if_neg (by simp [h])

/-- What stands against a grant (R123). -/
theorem State.grantDue_eq_false (h : s.supply.own ≠ .waiting ∨ s.supply.learning ≠ none ∨ s.entriesAhead = none ∨
    ∃ n, s.entriesAhead = some n ∧ s.cfg.limit ≤ n) : s.grantDue = false := by
  rw [← Bool.not_eq_true, State.grantDue_iff]
  rintro ⟨hw, hlearn, n, hn, hlt⟩
  rcases h with h | h | h | ⟨m, hm, hge⟩
  · exact h hw
  · exact h hlearn
  · cases hn.symm.trans h
  · cases hn.symm.trans hm
    omega

/-- Where no claim waits, the test grants nothing. -/
theorem State.afterView_of_not_waiting (h : s.supply.own ≠ .waiting) : s.afterView = s.starts :=
  congrArg State.starts (State.tryGrant_of_not_due (State.grantDue_eq_false (.inl h)))

theorem State.tryGrant_own_of_due (h : s.grantDue = true) : s.tryGrant.supply.own = .granted := by
  unfold State.tryGrant
  rw [if_pos h]
  dsimp only
  split <;> rfl

/-- The claim of a board granted (R123). -/
theorem State.tryGrant_of_board (h : s.grantDue = true) (hb : s.supply.holder = some .board) :
    s.tryGrant = { s with supply := { s.supply with own := .granted } } := by
  unfold State.tryGrant
  rw [if_pos h]
  exact if_neg (by simp [hb])

/-- The claim of a purge granted: the purge is under way (R110, R123). -/
theorem State.tryGrant_of_purge (h : s.grantDue = true) (hb : s.supply.holder = some .purge) (hp : s.spray.purge = .claiming)
    (hh : s.tracker.hold = false) : s.tryGrant = { s with
      supply := { s.supply with own := .granted }
      spray := { s.spray with purge := .purging, purgeTimer := some (s.cfg.purgeTime * 100) } } := by
  unfold State.tryGrant
  rw [if_pos h]
  exact if_pos ⟨hb, hp, hh⟩

theorem State.tryGrant_view (s : State) : s.tryGrant.supply.view = s.supply.view := by
  unfold State.tryGrant
  split
  · dsimp only
    split <;> rfl
  · rfl

end

/-! ## What starts leaves of the supply (R94, R109, R115) -/

section
variable (s : State)

/-- A start may ask for a claim: it leaves the view, and a claim that is made already. -/
theorem State.starts_supply : s.starts.supply.view = s.supply.view ∧
    (s.supply.own ≠ .none → s.starts.supply.own = s.supply.own) := by
  have hboard (u : State) : u.tryBoardClaim.supply.view = u.supply.view ∧
      (u.supply.own ≠ .none → u.tryBoardClaim = u) := by
    unfold State.tryBoardClaim
    split
    next hdue =>
      simp only [State.boardClaimDue, Bool.and_eq_true, beq_iff_eq] at hdue
      exact ⟨rfl, fun h => absurd hdue.2 h⟩
    · exact ⟨rfl, fun _ => rfl⟩
  have hpurge (u : State) : u.tryPurgeClaim.supply.view = u.supply.view ∧
      (u.supply.own ≠ .none → u.tryPurgeClaim = u) := by
    unfold State.tryPurgeClaim
    split
    next hdue =>
      simp only [State.purgeClaimDue, Bool.and_eq_true, beq_iff_eq] at hdue
      exact ⟨rfl, fun h => absurd hdue.2 h⟩
    · exact ⟨rfl, fun _ => rfl⟩
  obtain ⟨u, hu, hstarts⟩ : ∃ u : State, u.supply = s.supply ∧ s.starts = u.tryBoardClaim.tryPurgeClaim :=
    ⟨s.tryDiversion.tryIndex.tryPass.tryToGate.tryToSpray.tryToTransport, by simp, rfl⟩
  rw [hstarts, ← hu]
  refine ⟨(hpurge _).1.trans (hboard u).1, fun ho => ?_⟩
  rw [(hboard u).2 ho, (hpurge u).2 ho]

theorem State.afterView_view : s.afterView.supply.view = s.supply.view :=
  (State.starts_supply _).1.trans s.tryGrant_view

/-- A claim that is due is granted, and what starts leaves it granted. -/
theorem State.afterView_own_of_due {s : State} (h : s.grantDue = true) : s.afterView.supply.own = .granted := by
  have hgranted := State.tryGrant_own_of_due h
  exact ((State.starts_supply _).2 (by simp [hgranted])).trans hgranted

/-- A claim that waits and is not due waits on. -/
theorem State.afterView_own_of_not_due {s : State} (h : s.grantDue = false) (hw : s.supply.own = .waiting) :
    s.afterView.supply.own = .waiting := by
  rw [State.afterView, State.tryGrant_of_not_due h]
  exact ((State.starts_supply s).2 (by simp [hw])).trans hw

end

end Sys2Proof.Machine

end

section

namespace Sys2Proof.Machine

/-! ## The telegrams of other stations (R117, R118) -/

section
variable {s : State} {src : Byte}

theorem State.otherStation_iff : s.otherStation src = true ↔ src ≠ 0 ∧ src ≠ s.cfg.station ∧ src.toNat ≤ 31 := by
  simp [State.otherStation, and_assoc]

theorem State.otherStation_eq_false (h : src = 0 ∨ src = s.cfg.station) : s.otherStation src = false := by
  rcases h with h | h <;> simp [State.otherStation, h]

/-- The view takes class-0 telegrams in CLEAR_OUT, RUN and STOPPED alone (R128, log 35). -/
theorem State.not_tracking (h : s.cell = .start ∨ s.cell = .configFault) : s.tracking = false := by
  rcases h with h | h <;> simp [State.tracking, h]

theorem exec_supplyClaim_of_tracking {p : List Byte} (h : s.tracking = true) :
    exec (.supplyClaim src p) s = .next (s.takeSupplyClaim src p) := congrArg Host.Outcome.next (if_pos h)

theorem exec_supplyDone_of_tracking {p : List Byte} (h : s.tracking = true) :
    exec (.supplyDone src p) s = .next (s.takeSupplyDone src p) := congrArg Host.Outcome.next (if_pos h)

theorem State.takeSupplyClaim_discarded {p : List Byte} (h : s.otherStation src = false ∨ p.length ≠ 8) :
    s.takeSupplyClaim src p = s := if_neg (by rcases h with h | h <;> simp [h])

theorem State.takeSupplyDone_discarded {p : List Byte}
    (h : s.otherStation src = false ∨ p.length ≠ 6 ∨ ∀ e ∈ s.supply.view, e.station ≠ src) : s.takeSupplyDone src p = s := by
  refine if_neg ?_
  rcases h with h | h | h
  · simp [h]
  · simp [h]
  · have hnone : s.supply.holdsEntry src = false := by simpa [Supply.holdsEntry] using h
    simp [hnone]

theorem State.takeSupplyClaim_taken {p : List Byte} (h : s.otherStation src = true) (hp : p.length = 8) :
    s.takeSupplyClaim src p = State.afterView { s with supply := s.supply.claimed s.cfg.group src p } :=
  if_pos (by simp [h, hp])

theorem State.takeSupplyDone_taken {p : List Byte} (h : s.otherStation src = true) (hp : p.length = 6)
    (he : ∃ e ∈ s.supply.view, e.station = src) :
    s.takeSupplyDone src p = State.afterView { s with supply := s.supply.without src } := by
  have hholds : s.supply.holdsEntry src = true := by simpa [Supply.holdsEntry] using he
  exact if_pos (by simp [h, hp, hholds])

theorem Supply.claimed_same {v : Supply} {group : Byte} {p : List Byte} (h : byteAt p 0 = group) : v.claimed group src p =
    { v with view := (v.view.filter fun e => e.station != src) ++
      [{ station := src, serial := none, remaining := max 1 (256 * (byteAt p 6).toNat + (byteAt p 7).toNat) }] } := by
  rw [Supply.claimed, if_pos h, halfAt_toNat]
  rfl

theorem Supply.claimed_other {v : Supply} {group : Byte} {p : List Byte} (h : byteAt p 0 ≠ group) :
    v.claimed group src p = v.without src := if_neg h

end

/-- Settles O36: the cases of R117 in their order. -/
theorem supplyClaimTaken : Obligations.SupplyClaimTaken := by
  refine ⟨fun s src p ht => ⟨fun hdiscard => ?_, fun hp h0 hown h31 => ⟨fun hgroup => ?_, fun hgroup => ?_⟩⟩, fun s src p hc => ?_⟩
  · rw [exec_supplyClaim_of_tracking ht, State.takeSupplyClaim_discarded]
    exact hdiscard.symm.imp_left State.otherStation_eq_false
  · rw [exec_supplyClaim_of_tracking ht, State.takeSupplyClaim_taken (State.otherStation_iff.2 ⟨h0, hown, h31⟩) hp,
      Supply.claimed_same hgroup]
  · rw [exec_supplyClaim_of_tracking ht, State.takeSupplyClaim_taken (State.otherStation_iff.2 ⟨h0, hown, h31⟩) hp,
      Supply.claimed_other hgroup]
    rfl
  · exact congrArg Host.Outcome.next (if_neg (by simp [State.not_tracking hc]))

/-- Settles O37: the removal, and the grant test on the view that is left. -/
theorem supplyDoneRemovesEntry : Obligations.SupplyDoneRemovesEntry := by
  refine ⟨fun s src p ht => ⟨fun hdiscard => ?_, fun _ hnone => ?_, fun hp h0 hown h31 he => ?_⟩, fun s src p hc => ?_⟩
  · rw [exec_supplyDone_of_tracking ht, State.takeSupplyDone_discarded]
    rcases hdiscard with h | h
    · exact .inr (.inl h)
    · exact .inl (State.otherStation_eq_false h)
  · rw [exec_supplyDone_of_tracking ht, State.takeSupplyDone_discarded (.inr (.inr hnone))]
  · have hexec : exec (.supplyDone src p) s = .next (State.afterView { s with supply := s.supply.without src }) := by
      rw [exec_supplyDone_of_tracking ht, State.takeSupplyDone_taken (State.otherStation_iff.2 ⟨h0, hown, h31⟩) hp he]
    refine ⟨_, hexec, State.afterView_view _, by simp, by simp, fun hw => ?_, fun ahead own behind hw hlearn hsplit ho ha => ?_⟩
    · exact hexec.trans (congrArg _ (State.afterView_of_not_waiting (s := { s with supply := s.supply.without src }) hw))
    · have hahead : State.entriesAhead { s with supply := s.supply.without src } = some ahead.length :=
        State.entriesAhead_of_split hsplit ho ha
      refine ⟨fun hlt => State.afterView_own_of_due (State.grantDue_iff _ |>.2 ⟨hw, hlearn, _, hahead, hlt⟩), fun hge => ?_⟩
      exact State.afterView_own_of_not_due (State.grantDue_eq_false (.inr (.inr (.inr ⟨_, hahead, hge⟩)))) hw
  · exact congrArg Host.Outcome.next (if_neg (by simp [State.not_tracking hc]))

/-- Settles O38: the grant test, its two commands and the cases in which it grants nothing. -/
theorem claimGrantedByTest : Obligations.ClaimGrantedByTest := by
  have hexec (s : State) (hl : s.loaded = true) : exec .claimGranted s = .next s.afterView :=
    congrArg Host.Outcome.next (State.live_of_loaded hl _)
  refine ⟨fun s ahead own behind hl hw hlearn hv ho ha hlt => ?_, fun s hl hnot => ?_, fun s k hl hk => ?_, hexec⟩
  · have hdue : s.grantDue = true := s.grantDue_iff.2 ⟨hw, hlearn, _, State.entriesAhead_of_split hv ho ha, hlt⟩
    refine ⟨fun hb => ?_, fun hb hp hh => ?_⟩
    · rw [hexec s hl, State.afterView, State.tryGrant_of_board hdue hb]
    · rw [hexec s hl, State.afterView, State.tryGrant_of_purge hdue hb hp hh]
  · rw [hexec s hl, State.afterView, State.tryGrant_of_not_due (State.grantDue_eq_false hnot)]
  · exact congrArg Host.Outcome.next (if_pos (by simp [hl, hk]))

end Sys2Proof.Machine

end

section

namespace Sys2Proof.Machine

/-! ## The own telegrams read back (R121, R124, R125) -/

section
variable {s : State} {e : OutEntry} {rest : List OutEntry} {refused : Bool}

theorem State.sendReport_supplyClaim (hk : e.tg.kind = kindSupplyClaim) :
    s.sendReport e refused = (s.claimReadback refused).starts := by
  unfold State.sendReport
  rw [hk]
  rfl

theorem State.sendReport_supplyDone (hk : e.tg.kind = kindSupplyDone) : s.sendReport e refused = s.doneReadback.starts := by
  unfold State.sendReport
  rw [hk]
  rfl

/-- The end of a send, by SEND_END or by the command that tests for its kind (log 28). -/
theorem exec_endSendOfKind {c : Instr} (hl : s.loaded = true) (hs : s.link.line = .sending) (ho : s.link.out = e :: rest)
    (hc : c = .sendEnd refused ∨ exec c s = .next (s.endSendOf (s.sendingKind e.tg.kind) refused)) :
    exec c s = .next (State.sendReport { s with link := s.link.sent s.isStopped } e refused) := by
  rcases hc with rfl | hkind
  · exact State.exec_sendEnd hl hs ho
  · have hsend : s.link.inSend = some e := by simp [Link.inSend, hs, ho]
    have hfound : s.sendingKind e.tg.kind = some e := by simp [State.sendingKind, hsend]
    have hend : s.endSendOf (s.sendingKind e.tg.kind) refused = s.endSend e refused := by simp [State.endSendOf, hl, hfound]
    rw [hkind, hend]
    rfl

/-- The end of the send of the own SUPPLY_CLAIM, by either of its commands. -/
theorem exec_claimSendEnd {c : Instr} (hl : s.loaded = true) (hs : s.link.line = .sending) (ho : s.link.out = e :: rest)
    (hk : e.tg.kind = kindSupplyClaim) (hc : c = .sendEnd refused ∨ c = .ownClaimReadback refused) :
    exec c s = .next (State.claimReadback { s with link := s.link.sent s.isStopped } refused).starts := by
  rw [exec_endSendOfKind hl hs ho (hc.imp_right fun h => by rw [h, hk]; rfl), State.sendReport_supplyClaim hk]

/-- The end of the send of the own SUPPLY_DONE, by either of its commands. -/
theorem exec_doneSendEnd {c : Instr} (hl : s.loaded = true) (hs : s.link.line = .sending) (ho : s.link.out = e :: rest)
    (hk : e.tg.kind = kindSupplyDone) (hc : c = .sendEnd refused ∨ c = .ownDoneReadback refused) :
    exec c s = .next (State.doneReadback { s with link := s.link.sent s.isStopped }).starts := by
  rw [exec_endSendOfKind hl hs ho (hc.imp_right fun h => by rw [h, hk]; rfl), State.sendReport_supplyDone hk]

theorem State.postDone_eq : s.postDone = s.post 0 kindSupplyDone
    (s.cfg.group :: (if s.supply.claimSerial.isSome then 1 else 0) :: optWord s.supply.claimSerial) := by
  rw [State.postDone, donePayload, flagByte_singleton]

theorem State.claimReadback_delivered (ho : s.supply.own = .sending) : s.claimReadback false =
    State.tryGrant { s with supply := { s.supply with
      own := .waiting
      view := (s.supply.view.filter fun v => v.station != s.cfg.station) ++
        [{ station := s.cfg.station, serial := s.supply.claimSerial, remaining := s.supply.claimDuration }] } } := by
  unfold State.claimReadback
  rw [ho]
  rfl

theorem State.claimReadback_refused (ho : s.supply.own = .sending) : s.claimReadback true =
    State.postDone { s with supply := { s.supply with own := .refusedWait, doneRead := false, reClaim := some 50 } } := by
  unfold State.claimReadback
  rw [ho]
  rfl

theorem State.claimReadback_ending (ho : s.supply.own = .ending) : s.claimReadback refused = s.postDone := by
  unfold State.claimReadback
  rw [ho]

theorem State.doneReadback_ending (ho : s.supply.own = .ending) : s.doneReadback = { s with supply := { s.supply with
    own := .none
    holder := none
    reClaim := none
    view := s.supply.view.filter fun v => v.station != s.cfg.station } } := by
  unfold State.doneReadback
  rw [ho]
  rfl

theorem State.doneReadback_refused (ho : s.supply.own = .refusedWait) :
    s.doneReadback = { s with supply := { s.supply with doneRead := true } } := by
  unfold State.doneReadback
  rw [ho]

theorem exec_reClaimTimerExpiry {k : Nat} (hl : s.loaded = true) (ho : s.supply.own = .refusedWait)
    (hk : s.supply.reClaim = some k) : exec .reClaimTimerExpiry s = .next { s with
      supply := { s.supply with own := .queued, reClaim := none }
      link := s.link.post (s.claimTelegram s.supply.claimSerial s.supply.claimDuration) } := by
  have hexec : exec .reClaimTimerExpiry s = .next s.reClaim := congrArg Host.Outcome.next (if_pos (by simp [hl, ho, hk]))
  rw [hexec, State.reClaim, State.telegram, claimPayload, flagByte_singleton]
  rfl

end

/-! ## Durations that run out (R119, R126) -/

/-- An expiry of entries that leaves a view. -/
def ViewExpiry (s : State) (c : Instr) (view : List ClaimEntry) : Prop :=
  c = .supplyTick ∧ view = agedView s.supply.view ∨
    ∃ st, c = .claimEntryExpiry st ∧ view = s.supply.view.filter fun e => e.station != st

section
variable {s : State} {view : List ClaimEntry}

theorem exec_viewExpiry {c : Instr} (hl : s.loaded = true) (hc : ViewExpiry s c view) : exec c s = .next (s.viewAged view) := by
  rcases hc with ⟨rfl, rfl⟩ | ⟨st, rfl, rfl⟩ <;> exact congrArg Host.Outcome.next (State.live_of_loaded hl _)

theorem State.hasOwnEntry_iff_exists : s.hasOwnEntry = true ↔ ∃ e ∈ s.supply.view, e.station = s.cfg.station :=
  State.hasOwnEntry_iff.trans List.mem_map

/-- Without a claim that waits or is granted, the expiry of the own entry does nothing more. -/
theorem State.ownExpired_of_idle (hw : s.supply.own ≠ .waiting) (hg : s.supply.own ≠ .granted) : s.ownExpired = s := by
  unfold State.ownExpired
  split
  next h => exact absurd h hw
  next h => exact absurd h hg
  all_goals rfl

theorem State.ownExpired_of_active (h : s.supply.own = .waiting ∨ s.supply.own = .granted) :
    s.ownExpired = State.claimExpired { s with supply := s.supply.noClaim } s.supply.holder := by
  unfold State.ownExpired
  rcases h with h | h <;> rw [h]

/-- The own entry stays, or there is none, or no claim hangs on it. -/
theorem State.viewAged_stays (h : (∃ e ∈ view, e.station = s.cfg.station) ∨ (∀ e ∈ s.supply.view, e.station ≠ s.cfg.station) ∨
    s.supply.own ≠ .waiting ∧ s.supply.own ≠ .granted) :
    s.viewAged view = State.afterView { s with supply := { s.supply with view := view } } := by
  refine congrArg State.afterView ?_
  split
  next hlost =>
    simp only [Bool.and_eq_true, Bool.not_eq_true', ← Bool.not_eq_true, State.hasOwnEntry_iff_exists] at hlost
    rcases h with hstays | hnone | ⟨hw, hg⟩
    · exact absurd hstays hlost.2
    · obtain ⟨e, he, hstation⟩ := hlost.1
      exact absurd hstation (hnone e he)
    · exact State.ownExpired_of_idle hw hg
  · rfl

theorem State.claimExpired_supply (h : Option Holder) : (s.claimExpired h).supply = s.supply := by
  unfold State.claimExpired
  split
  · simp
  · split <;> rfl
  · rfl

/-- The claim that ran out is gone before what can start. -/
theorem State.viewAged_lost (hhad : ∃ e ∈ s.supply.view, e.station = s.cfg.station)
    (hlost : ∀ e ∈ view, e.station ≠ s.cfg.station) (ho : s.supply.own = .waiting ∨ s.supply.own = .granted) :
    s.viewAged view = (State.claimExpired { s with supply := { s.supply with
      view := view, own := .none, holder := none, reClaim := none } } s.supply.holder).starts := by
  have hleaves : (s.hasOwnEntry && !State.hasOwnEntry { s with supply := { s.supply with view := view } }) = true := by
    simp only [Bool.and_eq_true, Bool.not_eq_true', ← Bool.not_eq_true, State.hasOwnEntry_iff_exists]
    exact ⟨hhad, fun ⟨e, he, hs⟩ => hlost e he hs⟩
  unfold State.viewAged
  dsimp only
  rw [if_pos hleaves, State.ownExpired_of_active (s := { s with supply := { s.supply with view := view } }) ho]
  exact State.afterView_of_not_waiting (by rw [State.claimExpired_supply]; simp [Supply.noClaim])

theorem State.claimExpired_aborts (hs : s.sprayIs .spraying = true) (ha : s.spray.abort = none) :
    s.claimExpired (some .board) = { s with spray := { s.spray with abort := some 200 } } := if_pos ⟨hs, ha⟩

theorem State.claimExpired_board (hs : s.sprayIs .spraying = false) : s.claimExpired (some .board) = s :=
  if_neg (by simp [hs])

theorem State.claimExpired_purge (hp : s.spray.purge = .claiming ∨ s.spray.purge = .purging) :
    s.claimExpired (some .purge) = { s with spray := { s.spray with purge := .requested, purgeTimer := none } } :=
  if_pos (by rcases hp with h | h <;> simp [State.purgeHoldsBar, h])

end

/-- Settles O39: the read-backs by the state of the own claim, and the expiries by what becomes of the own entry. -/
theorem ownClaimReadBackAndExpired : Obligations.OwnClaimReadBackAndExpired := by
  refine ⟨⟨fun s e rest c refused hl hs ho hk hc => ?_, fun s e rest c refused hl hs ho hk hc => ?_, fun s k hl ho hk => ?_⟩,
    fun s c view hl hc => ?_⟩
  · intro sent done
    have hexec : exec c s = .next (sent.claimReadback refused).starts := exec_claimSendEnd hl hs ho hk hc
    refine ⟨fun hown hr => ?_, fun hown hr => ?_, fun hown => ?_⟩
    · rw [hexec, hr, State.claimReadback_delivered (s := sent) hown]
      rfl
    · rw [hexec, hr, State.claimReadback_refused (s := sent) hown, State.postDone_eq]
    · rw [hexec, State.claimReadback_ending (s := sent) hown, State.postDone_eq]
  · intro sent
    have hexec : exec c s = .next (sent.doneReadback).starts := exec_doneSendEnd hl hs ho hk hc
    refine ⟨fun hown => ?_, fun hown => ?_⟩
    · rw [hexec, State.doneReadback_ending (s := sent) hown]
    · rw [hexec, State.doneReadback_refused (s := sent) hown]
  · exact exec_reClaimTimerExpiry hl ho hk
  · have hexec := exec_viewExpiry hl hc
    refine ⟨fun hstays => hexec.trans (congrArg _ (State.viewAged_stays hstays)), fun hhad hlost ho => ?_⟩
    intro gone
    have hgone : exec c s = .next (State.claimExpired { s with supply := gone } s.supply.holder).starts :=
      hexec.trans (congrArg _ (State.viewAged_lost hhad hlost ho))
    refine ⟨fun hb hspray ha => ?_, fun hb hspray => ?_, fun hb hp => ?_⟩
    · rw [hgone, hb, State.claimExpired_aborts (s := { s with supply := gone }) hspray ha]
    · rw [hgone, hb, State.claimExpired_board (s := { s with supply := gone }) hspray]
    · rw [hgone, hb, State.claimExpired_purge (s := { s with supply := gone }) hp]

end Sys2Proof.Machine

end

section

namespace Sys2Proof.Machine

/-! ## The outputs (R17, R93, R99, R137, R169, R222, R223) -/

section
variable {s : State}

theorem State.sprayIs_iff {st : SprayState} : s.sprayIs st = true ↔ ∃ r, s.table.spray = some r ∧ r.spray = st := by
  unfold State.sprayIs
  cases s.table.spray <;> simp

theorem State.purgeHoldsBar_eq_false_iff :
    s.purgeHoldsBar = false ↔ s.spray.purge ≠ .claiming ∧ s.spray.purge ≠ .purging := by
  simp [State.purgeHoldsBar]

/-! ### The valves (R93, R97, R110, R112) -/

/-- A valve stands open for an interval of it that is open, for JET while switched on. -/
theorem valveOpenFor_iff {l : List Interval} {v : Nat} : valveOpenFor l v = true ↔
    ∃ i since left dots, i ∈ l ∧ i.valve = v ∧ i.progress = .opened since true left dots := by
  refine List.any_eq_true.trans ⟨?_, ?_⟩
  · rintro ⟨i, hi, h⟩
    obtain ⟨hv, hopen⟩ := Bool.and_eq_true_iff.1 h
    split at hopen
    next since on left dots hp => exact ⟨i, since, left, dots, hi, beq_iff_eq.1 hv, by rw [hp, hopen]⟩
    all_goals cases hopen
  · rintro ⟨i, since, left, dots, hi, hv, hp⟩
    exact ⟨i, hi, by simp [hv, hp]⟩

theorem State.mem_intervals {i : Interval} : i ∈ s.intervals ↔ ∃ l, s.spray.schedule = some l ∧ i ∈ l := by
  unfold State.intervals
  cases s.spray.schedule <;> simp

theorem State.valvePin_iff {v : Nat} : s.valvePin v = true ↔ s.loaded = true ∧ s.cut = false ∧ v < s.cfg.valveCount ∧
    (s.sprayIs .spraying = true ∧ valveOpenFor s.intervals v = true ∨
      s.spray.purge = .purging ∧ s.cfg.purgeSet.getLsbD v = true) := by
  simp [State.valvePin, and_assoc]

/-- A valve is driven under a granted claim, or for a pass whose abort is pending (R122). -/
theorem State.valvePin_claimed {v : Nat} (hspray : s.sprayLaw) (hsupply : s.supplyLaw) (h : s.valvePin v = true) :
    s.supply.own = .granted ∧ (∃ n, s.entriesAhead = some n ∧ n < s.cfg.limit) ∨
      s.sprayIs .spraying = true ∧ s.spray.abort.isSome = true := by
  obtain ⟨-, -, hahead⟩ := hsupply
  obtain ⟨-, hpass, -, hpurge⟩ := hspray
  obtain ⟨-, -, -, ⟨hs, -⟩ | ⟨hp, -⟩⟩ := State.valvePin_iff.1 h
  · rcases hpass hs with ⟨ho, -⟩ | ha
    · exact .inl ⟨ho, hahead ho⟩
    · exact .inr ⟨hs, ha⟩
  · obtain ⟨ho, -⟩ := hpurge hp
    exact .inl ⟨ho, hahead ho⟩

/-! ### The exit conveyor (R31, R32, R169) -/

/-- A record at EXIT is in a diversion under way. -/
theorem State.target_isSome_iff :
    s.target.isSome = true ↔ ∃ r k, s.table.exit = some r ∧ r.diversion = some (.diverting k) := by
  rw [Option.isSome_iff_exists]
  simp only [State.target_eq_some]
  exact exists_comm

theorem State.exitDemand_iff : s.exitDemand = true ↔
    (∃ r k, s.table.exit = some r ∧ r.diversion = some (.diverting k)) ∨
      ∃ r n received timer, s.table.exit = some r ∧ r.handoff = some (.transferring n false received timer) := by
  unfold State.exitDemand
  cases s.table.exit with
  | none => simp
  | some r =>
    simp only [Option.some.injEq, existsAndEq, true_and]
    split
    next k hd => simp [hd]
    next n cleared received timer hh hd =>
      have hnot : ¬ ∃ k, r.diversion = some (.diverting k) := fun ⟨k, hk⟩ => hd k hk
      cases cleared <;> simp [hnot, hh]
    next hd hh =>
      refine iff_of_false (by simp) ?_
      rintro (⟨k, hk⟩ | ⟨n, received, timer, ht⟩)
      · exact hd k hk
      · exact hh n false received timer ht

/-! ### The pins of the drives -/

theorem State.entryConvPin_iff : s.entryConvPin = true ↔ s.cut = false ∧ (s.cell = .run ∨ s.cell = .clearOut) ∧
    (s.tracker.moves.toTransport = true ∧ s.tracker.hold = false ∨
      s.tracker.moves.toTransport = false ∧ s.inputs.pos.entry.level ≠ some true) := by
  have hoccupied : s.occupied .entry = (s.inputs.pos.entry.level == some true) := rfl
  unfold State.entryConvPin
  rw [hoccupied]
  cases s.tracker.moves.toTransport <;> simp [and_assoc]

theorem State.rackSelectPins_of_demand (hc : s.cut = false) (h : s.tracker.hold = false ∨ s.target.isSome = false) :
    s.rackSelectPins = BitVec.ofNat 3 s.holds.rackSelect.val :=
  if_pos (by rcases h with h | h <;> simp [hc, State.rackSelectDemand, h])

theorem State.rackSelectPins_of_hold (hh : s.tracker.hold = true) (ht : s.target.isSome = true) : s.rackSelectPins = 0 :=
  if_neg (by simp [State.rackSelectDemand, hh, ht])

end

/-! ### The guard's cut (R222) -/

theorem State.cutLaw_holds (s : State) : s.cutLaw := by
  intro h
  simp [State.valvePin, State.entryStopPin, State.entryConvPin, State.transConvPin, State.sprayConvPin, State.exitConvPin,
    State.indexPin, State.diverterPin, State.rackSelectPins, State.drives, h]

/-! ### Before the load (R218) -/

/-- What the outputs that do not test for the load read of a state that is as cold reset leaves it. -/
theorem State.blankLaw.idle {s : State} (h : s.blankLaw) (hl : s.loaded = false) :
    (s.cell = .start ∨ s.cell = .configFault) ∧ s.target = none ∧ s.holds.rackSelect = 0 := by
  obtain ⟨hc, hs⟩ := h hl
  refine ⟨hc, ?_, ?_⟩ <;> rw [hs] <;> rfl

theorem State.outputs_off_before_load {s : State} (h : s.blankLaw) (hl : s.loaded = false) :
    (∀ v, s.valvePin v = false) ∧ s.entryStopPin = false ∧ s.entryConvPin = false ∧ s.transConvPin = false ∧
      s.sprayConvPin = false ∧ s.exitConvPin = false ∧ s.indexPin = false ∧ s.diverterPin = false ∧ s.rackSelectPins = 0 := by
  obtain ⟨hc, ht, hr⟩ := h.idle hl
  have hdrives : s.drives = false := by simp [State.drives, hl]
  have hconv : s.entryConvPin = false := by rcases hc with hc | hc <;> simp [State.entryConvPin, hc]
  have hrack : s.rackSelectPins = 0 := by simp [State.rackSelectPins, hr]
  simp [State.valvePin, State.entryStopPin, State.transConvPin, State.sprayConvPin, State.exitConvPin, State.indexPin,
    State.diverterPin, hl, hdrives, hconv, hrack]

/-- Settles O35: the pins one by one, the cut and the state before the load. -/
theorem valvesOpenOnlyUnderClaim : Obligations.ValvesOpenOnlyUnderClaim := by
  refine ⟨fun s v hspray hsupply hpin => ?_, fun s v => ?_, State.cutLaw_holds, fun s hl hraw => ?_, fun s => beq_iff_eq,
    fun s hblank hl => State.outputs_off_before_load hblank hl⟩
  · obtain ⟨-, hc, hv, -⟩ := State.valvePin_iff.1 hpin
    exact ⟨hc, hv, State.valvePin_claimed hspray hsupply hpin⟩
  · have hpass : s.sprayIs .spraying = true ∧ valveOpenFor s.intervals v = true ↔
        ∃ r l i since left dots, s.table.spray = some r ∧ r.spray = .spraying ∧ s.spray.schedule = some l ∧ i ∈ l ∧
          i.valve = v ∧ i.progress = .opened since true left dots := by
      rw [State.sprayIs_iff, valveOpenFor_iff]
      simp only [State.mem_intervals]
      constructor
      · rintro ⟨⟨r, hr, hs⟩, i, since, left, dots, ⟨l, hl, hi⟩, hv, hp⟩
        exact ⟨r, l, i, since, left, dots, hr, hs, hl, hi, hv, hp⟩
      · rintro ⟨r, l, i, since, left, dots, hr, hs, hl, hi, hv, hp⟩
        exact ⟨⟨r, hr, hs⟩, i, since, left, dots, ⟨l, hl, hi⟩, hv, hp⟩
    rw [State.valvePin_iff, hpass]
    rfl
  · intro free diverting
    have hc : s.cut = false := hraw
    have hdrives : s.drives = true ↔ free := by simp [State.drives, hl, hc, free]
    have htarget : s.target.isSome = true ↔ diverting := State.target_isSome_iff
    refine ⟨by simp [State.entryStopPin, hl, hc], ?_, ?_, ?_, ?_, by simp [State.indexPin, hl, hc], ?_, fun h => ?_, fun hf hd => ?_⟩
    · rw [State.entryConvPin_iff]
      simp [hc, free]
    · simp [State.transConvPin, hdrives]
    · simp [State.sprayConvPin, hdrives, State.purgeHoldsBar_eq_false_iff, and_assoc]
    · simp only [State.exitConvPin, Bool.and_eq_true, hdrives, State.exitDemand_iff]
      rfl
    · rw [State.diverterPin, Bool.and_eq_true, hdrives, htarget]
    · exact State.rackSelectPins_of_demand hc (h.imp_right fun hd => by rwa [← Bool.not_eq_true, htarget])
    · exact State.rackSelectPins_of_hold (by simpa [free] using hf) (htarget.2 hd)

end Sys2Proof.Machine

end

section

namespace Sys2Proof.Machine

/-! ## The dwell and the index (R132 to R140) -/

section
variable {s : State}

/-! ### What the tests say -/

theorem State.runState_eq_running :
    s.runState = .running ↔ s.tunnel.fault = false ∧ (s.cell = .clearOut ∨ s.cell = .run) ∧ s.tracker.hold = false := by
  unfold State.runState
  by_cases hf : s.tunnel.fault = true
  · simp [hf]
  · simp only [hf]
    cases s.cell <;> simp

theorem State.slot5Short_iff : s.slot5Short = true ↔ ∃ r rc, s.table.tunnel5 = some r ∧ r.sprayedHere = true ∧
    r.bound s.store = some rc ∧ r.dose < rc.cureMin * 256 := by
  unfold State.slot5Short
  split
  next h => simp [h]
  next r h =>
    split
    next rc hs hb => simp [h, hs, hb, doseShort]
    next hn =>
      refine iff_of_false (by simp) ?_
      rintro ⟨q, rc, hq, hs, hb, -⟩
      cases h.symm.trans hq
      exact hn rc hs hb

theorem State.projectionFits_iff {o : Option Record} : s.projectionFits o = true ↔ ∀ r rc, o = some r →
    r.sprayedHere = true → r.bound s.store = some rc → r.dose + s.cfg.extensionStep * r.tickWeight.getD 0 ≤ rc.cureMax * 256 := by
  unfold State.projectionFits
  split
  · simp
  next r =>
    split
    next rc hs hb =>
      rw [decide_eq_true_eq]
      refine ⟨fun h q rc' hq _ hb' => ?_, fun h => h r rc rfl hs hb⟩
      cases hq
      cases hb.symm.trans hb'
      exact h
    next hn =>
      refine iff_of_true rfl ?_
      rintro q rc hq hs hb
      cases hq
      exact absurd hb (hn rc hs)

/-- The extension test is the three conditions of R134. -/
theorem State.canExtend_iff : s.canExtend = true ↔
    s.tunnel.extensionUsed + s.cfg.extensionStep ≤ s.cfg.maxExtension ∧
      (∃ r rc, s.table.tunnel5 = some r ∧ r.sprayedHere = true ∧ r.bound s.store = some rc ∧ r.dose < rc.cureMin * 256) ∧
      ∀ p ∈ slotPositions, ∀ r rc, s.table.get p = some r → r.sprayedHere = true → r.bound s.store = some rc →
        r.dose + s.cfg.extensionStep * r.tickWeight.getD 0 ≤ rc.cureMax * 256 := by
  rw [← State.slot5Short_iff, State.canExtend]
  simp only [Bool.and_eq_true, decide_eq_true_eq, List.all_eq_true, State.projectionFits_iff]
  rw [and_comm (a := s.slot5Short = true), and_assoc]

theorem State.admissible_of_free (h : s.table.gate = none) : s.admissible = false := by
  rw [State.admissible, h]

theorem State.admissible_of_not_sprayed {r : Record} (h : s.table.gate = some r) (hs : r.sprayedHere = false) :
    s.admissible = true := by
  rw [State.admissible, h]
  simp only [hs]

theorem State.admissible_of_sprayed {r : Record} {rc : Recipe} (h : s.table.gate = some r) (hs : r.sprayedHere = true)
    (hb : r.bound s.store = some rc) : s.admissible = true ↔ rc.flashMin ≤ r.elapsed := by
  rw [State.admissible, h]
  simp only [hs, hb, decide_eq_true_eq]

theorem State.slotsHold_iff : s.slotsHold = true ↔ ∃ p ∈ slotPositions, s.table.get p ≠ none := by
  simp [State.slotsHold, State.isFree, Option.isSome_iff_ne_none]

theorem State.indexDue_iff : s.indexDue = true ↔ s.tunnel.phase = .indexPending ∧ s.table.exit = none ∧ s.runState = .running ∧
    ((∃ p ∈ slotPositions, s.table.get p ≠ none) ∨ s.admissible = true) := by
  rw [← State.slotsHold_iff, State.indexDue]
  simp only [Bool.and_eq_true, Bool.or_eq_true, beq_iff_eq, and_assoc, State.isFree, PerPos.get, Option.isNone_iff_eq_none]

/-! ### The start of an index -/

theorem State.tryIndex_of_due (h : s.indexDue = true) : s.tryIndex = { s with tunnel := { s.tunnel with
    phase := .indexing, drive := true, timeout := some 10000, carriesGate := s.admissible } } := if_pos h

theorem State.tryIndex_of_not_due (h : ¬ s.indexDue = true) : s.tryIndex = s := if_neg h

theorem State.tryIndex_of_phase (h : s.tunnel.phase ≠ .indexPending) : s.tryIndex = s :=
  State.tryIndex_of_not_due fun hd => h (State.indexDue_iff.1 hd).1

/-- An index that has been tried starts no second one. -/
@[simp] theorem State.tryIndex_tryIndex (s : State) : s.tryIndex.tryIndex = s.tryIndex := by
  by_cases h : s.indexDue = true
  · exact State.tryIndex_of_phase (by rw [State.tryIndex_of_due h]; simp)
  · rw [State.tryIndex_of_not_due h, State.tryIndex_of_not_due h]

theorem State.exec_indexStart (hl : s.loaded = true) : exec .indexStart s = .next s.tryIndex :=
  congrArg Host.Outcome.next (State.live_of_loaded hl _)

/-! ### The dwell -/

theorem State.dwellCounts_iff : s.dwellCounts = true ↔ s.runState = .running ∧ s.tunnel.phase = .dwell ∧ 0 < s.tunnel.dwell := by
  simp [State.dwellCounts, and_assoc]

theorem State.expiry_of_extension (hc : s.cell = .run) (he : s.canExtend = true) : s.expiry = { s with tunnel := { s.tunnel with
    dwell := s.cfg.extensionStep, extensionUsed := s.tunnel.extensionUsed + s.cfg.extensionStep } } := if_pos ⟨hc, he⟩

theorem State.expiry_of_index (h : ¬ (s.cell = .run ∧ s.canExtend = true)) :
    s.expiry = State.tryIndex { s with tunnel := { s.tunnel with dwell := 0, phase := .indexPending } } := if_neg h

/-- An expiry in DWELL makes the start test of the index itself. -/
theorem State.tryIndex_expiry (hp : s.tunnel.phase = .dwell) : s.expiry.tryIndex = s.expiry := by
  by_cases h : s.cell = .run ∧ s.canExtend = true
  · exact State.tryIndex_of_phase (by rw [State.expiry_of_extension h.1 h.2]; simp [hp])
  · rw [State.expiry_of_index h, State.tryIndex_tryIndex]

theorem State.exec_dwellExpiry (hl : s.loaded = true) (h : s.dwellCounts = true) : exec .dwellExpiry s = .next s.expiry := by
  show Host.Outcome.next (s.when (s.loaded && s.dwellCounts) _) = _
  rw [hl, h]
  rfl

/-- A second of the dwell that is not its last. -/
theorem State.dwellTick_of_more (hp : s.tunnel.phase = .dwell) (h : s.tunnel.dwell ≠ 1 ∨ s.runState ≠ .running) :
    s.dwellTick = { s with tunnel := { s.tunnel with
      dwell := if s.runState = .running then s.tunnel.dwell - 1 else s.tunnel.dwell } } := by
  unfold State.dwellTick
  by_cases hr : s.runState = .running
  · have hd : s.tunnel.dwell ≠ 1 := h.resolve_right (not_not_intro hr)
    rw [if_neg hd, if_pos hr]
    split
    · rfl
    next hc =>
      have hz : s.tunnel.dwell = 0 := Nat.eq_zero_of_not_pos fun hd => hc (State.dwellCounts_iff.2 ⟨hr, hp, hd⟩)
      rw [hz, Nat.zero_sub, ← hz]
  · rw [if_neg fun hc => hr (State.dwellCounts_iff.1 hc).1, if_neg hr]

/-! ### The cure tick, but for its records -/

/-- The cure tick changes the records first, and then times the dwell, tries the index and starts a poll (R131). -/
theorem State.cureTick_eq (s : State) :
    s.cureTick = (State.dwellTick { s with table := s.cureTick.table }).tryIndex.startPoll := by
  have htable : s.cureTick.table = s.cureStep.flashStep.table := by simp [State.cureTick]
  rw [htable]
  rfl

theorem State.exec_cureTick (hl : s.loaded = true) : exec .cureTick s = .next s.cureTick :=
  congrArg Host.Outcome.next (State.live_of_loaded hl _)

/-- What falls due in a cure tick is what the command of its own would do to the timed records. -/
theorem State.cureTick_eq_of_exec {c : Instr} {v : State} (hl : s.loaded = true)
    (hc : c = .dwellExpiry ∧ s.tunnel.phase = .dwell ∧ s.tunnel.dwell = 1 ∧ s.runState = .running ∨
      c = .indexStart ∧ s.tunnel.phase = .indexPending)
    (hv : exec c { s with table := s.cureTick.table } = .next v) : s.cureTick = v.startPoll := by
  rw [State.cureTick_eq]
  generalize hu : ({ s with table := s.cureTick.table } : State) = u at hv ⊢
  have hload : u.loaded = true := hu ▸ hl
  rcases hc with ⟨rfl, hp, hd, hr⟩ | ⟨rfl, hp⟩
  · have hphase : u.tunnel.phase = .dwell := hu ▸ hp
    have hdwell : u.tunnel.dwell = 1 := hu ▸ hd
    have hcounts : u.dwellCounts = true := State.dwellCounts_iff.2 ⟨hu ▸ hr, hphase, by omega⟩
    rw [State.exec_dwellExpiry hload hcounts] at hv
    rw [State.dwellTick, if_pos hcounts, if_pos hdwell, State.tryIndex_expiry hphase, Host.Outcome.next.inj hv]
  · have hcounts : ¬ u.dwellCounts = true := fun h => by
      cases (show u.tunnel.phase = .indexPending from hu ▸ hp).symm.trans (State.dwellCounts_iff.1 h).2.1
    rw [State.exec_indexStart hload] at hv
    rw [State.dwellTick, if_neg hcounts, Host.Outcome.next.inj hv]

/-! ### The index's timeout -/

/-- The records that an index carries are those at the covered positions before EXIT. -/
theorem State.carried_eq (s : State) : s.carried =
    ((coveredPositions s.tunnel.carriesGate).filter fun p => p != .exit && (s.table.get p).isSome).length := by
  have hfree : (fun p => !s.isFree p) = fun p => (s.table.get p).isSome := funext fun p => by
    simp [State.isFree]
  have hslots : (slotPositions.filter fun p => p != .exit && (s.table.get p).isSome) =
      slotPositions.filter fun p => (s.table.get p).isSome :=
    List.filter_congr fun p hp => by rw [show (p != Position.exit) = true by revert p; decide, Bool.true_and]
  rw [State.carried, hfree, coveredPositions, List.filter_append, List.filter_append, hslots, List.length_append,
    List.length_append, Nat.add_comm]
  cases s.tunnel.carriesGate <;> cases h : s.table.gate <;> simp [State.isFree, PerPos.get, h]

theorem State.exec_indexTimeout {k : Nat} (hl : s.loaded = true) (hp : s.tunnel.phase = .indexing) (hf : s.tunnel.fault = false)
    (ht : s.tunnel.timeout = some k) : exec .indexTimeout s = .next s.indexTimeout := by
  show Host.Outcome.next (s.when (s.loaded && s.tunnel.phase == .indexing && s.tunnel.timeout.isSome && !s.tunnel.fault) _) = _
  rw [hl, hp, hf, ht]
  rfl

end

/-- Settles O42: each command by its own lemma, and the cure tick as those commands on the records it has timed. -/
theorem dwellExpiryAndIndex : Obligations.DwellExpiryAndIndex := by
  refine ⟨fun s t hl ht hp hd => ?_, fun s t c v hl ht hc hv => ?_, fun s => State.runState_eq_running, fun s hl hr hp hd => ?_,
    fun s hl => ⟨s.admissible, State.admissible_of_free, fun _ => State.admissible_of_not_sprayed,
      fun _ _ => State.admissible_of_sprayed, fun hdue => ?_, fun hdue => ?_⟩, fun s k hl hp hf ht => ?_⟩
  · rw [State.exec_cureTick hl] at ht
    have hmore := State.dwellTick_of_more (s := { s with table := s.cureTick.table }) hp hd
    have hphase : (State.dwellTick { s with table := s.cureTick.table }).tunnel.phase ≠ .indexPending := by
      simp [hmore, hp]
    obtain rfl := Host.Outcome.next.inj ht
    rw [State.cureTick_eq, State.tryIndex_of_phase hphase, hmore]
    exact ⟨hp, rfl, rfl⟩
  · rw [State.exec_cureTick hl] at ht
    obtain rfl := Host.Outcome.next.inj ht
    have hpoll := State.cureTick_eq_of_exec hl hc hv
    rw [hpoll]
    rfl
  · have hcounts : s.dwellCounts = true := State.dwellCounts_iff.2 ⟨hr, hp, hd⟩
    intro extends'
    have hiff : extends' ↔ s.cell = .run ∧ s.canExtend = true := and_congr_right fun _ => State.canExtend_iff.symm
    rw [State.exec_dwellExpiry hl hcounts]
    refine ⟨fun he => ?_, fun he => ?_⟩
    · obtain ⟨hc, he⟩ := hiff.1 he
      rw [State.expiry_of_extension hc he]
    · rw [State.expiry_of_index (mt hiff.2 he)]
      exact (State.exec_indexStart (by exact hl)).symm
  · rw [State.exec_indexStart hl, State.tryIndex_of_due (State.indexDue_iff.2 hdue)]
  · rw [State.exec_indexStart hl, State.tryIndex_of_not_due (mt State.indexDue_iff.1 hdue)]
  · rw [State.exec_indexTimeout hl hp hf ht, State.indexTimeout, State.carried_eq]

end Sys2Proof.Machine

end

section

namespace Sys2Proof.Machine

/-! ## The records at a cure tick (R141 to R147) -/

section
variable {s : State} {p : Position} {r : Record} {z : Zone} {rc : Recipe}

/-! ### The pot test (R142) -/

/-- A record waits for the tunnel past its pot life. -/
def State.PotSpent (s : State) (p : Position) (r : Record) : Prop :=
  (p = .spray ∨ p = .gate) ∧ r.sprayedHere = true ∧ ∃ rc, r.bound s.store = some rc ∧ rc.potMax ≤ r.elapsed

/-- The pot test adds POT_LIFE to the records past their pot life. -/
theorem State.potTest_spent : ∃ c : Bool, s.potTest p r = r.addReasonIf c .potLife ∧ (c = true ↔ s.PotSpent p r) := by
  refine ⟨_, rfl, ?_⟩
  simp only [Bool.and_eq_true, Bool.or_eq_true, beq_iff_eq, State.PotSpent, and_assoc]
  cases r.bound s.store <;> simp

theorem State.potTest_hasReason (x : Reason) : hasReason (s.potTest p r).trav.reasons x = true ↔
    hasReason r.trav.reasons x = true ∨ s.PotSpent p r ∧ x = .potLife := by
  obtain ⟨c, hc, hspent⟩ := s.potTest_spent (p := p) (r := r)
  rw [hc, Record.hasReason_addReasonIf, hspent]

theorem State.potTest_of_not_spent (h : ¬ s.PotSpent p r) : s.potTest p r = r := by
  obtain ⟨c, hc, hspent⟩ := s.potTest_spent (p := p) (r := r)
  rw [hc, Record.addReasonIf, if_neg (mt hspent.1 h)]

theorem State.potTest_of_spent (h : s.PotSpent p r) : s.potTest p r = r.addReason .potLife := by
  obtain ⟨c, hc, hspent⟩ := s.potTest_spent (p := p) (r := r)
  rw [hc, Record.addReasonIf, if_pos (hspent.2 h)]

theorem State.potTest_eq (s : State) (p : Position) (r : Record) :
    s.potTest p r = { r with trav := { r.trav with reasons := (s.potTest p r).trav.reasons } } := by
  obtain ⟨c, hc, -⟩ := s.potTest_spent (p := p) (r := r)
  rw [hc]
  exact r.addReasonIf_eq c _

/-! ### The dose of a tick (R145 to R147, R160) -/

/-- A record that is cured at a tick: sprayed here, in a slot of a zone, and bound to a recipe. -/
structure State.Curing (s : State) (p : Position) (r : Record) (z : Zone) (rc : Recipe) : Prop where
  zone : slotZoneOf s.cfg.slotZone p = some z
  sprayed : r.sprayedHere = true
  bound : r.bound s.store = some rc

theorem State.cureRecord_of_curing (h : s.Curing p r z rc) : s.cureRecord p r =
    let value := (s.tunnel.zones.get z).value
    let dose := min (r.dose + weight value rc) (2 ^ 32 - 1)
    ((({ r with dose := dose, tickWeight := some (weight value rc) }.addReasonIf value.isNone .cureDataGap).addReasonIf
      (decide (rc.cureMax * 256 < dose)) .overcure).addReasonIf (value.any fun v => decide (rc.tMax < v)) .overtemp) := by
  unfold State.cureRecord
  rw [h.zone, h.sprayed, h.bound]
  dsimp only
  generalize (s.tunnel.zones.get z).value = value
  cases value <;> rfl

theorem State.cureRecord_of_idle (h : ∀ z rc, ¬ s.Curing p r z rc) : s.cureRecord p r = { r with tickWeight := none } := by
  unfold State.cureRecord
  split
  next z rc hz hs hb => exact absurd ⟨hz, hs, hb⟩ (h z rc)
  · rfl

/-- A record is cured at a tick or left but for its tick weight. -/
theorem State.curing_cases (s : State) (p : Position) (r : Record) :
    (∃ z rc, s.Curing p r z rc) ∨ s.cureRecord p r = { r with tickWeight := none } := by
  by_cases h : ∃ z rc, s.Curing p r z rc
  · exact .inl h
  · exact .inr (State.cureRecord_of_idle fun z rc hc => h ⟨z, rc, hc⟩)

theorem State.cureRecord_eq (s : State) (p : Position) (r : Record) : s.cureRecord p r =
    { r with
      dose := (s.cureRecord p r).dose
      tickWeight := (s.cureRecord p r).tickWeight
      trav := { r.trav with reasons := (s.cureRecord p r).trav.reasons } } := by
  rcases s.curing_cases p r with ⟨z, rc, h⟩ | h
  · rw [State.cureRecord_of_curing h]
    dsimp only
    rw [Record.addReasonIf_eq, Record.addReasonIf_eq (Record.addReasonIf _ _ _), Record.addReasonIf_eq (Record.mk ..)]
  · rw [h]

theorem State.cureRecord_dose (h : s.Curing p r z rc) :
    (s.cureRecord p r).tickWeight = some (weight (s.tunnel.zones.get z).value rc) ∧
      (s.cureRecord p r).dose = min (r.dose + weight (s.tunnel.zones.get z).value rc) (2 ^ 32 - 1) := by
  rw [State.cureRecord_of_curing h]
  dsimp only
  rw [Record.addReasonIf_eq, Record.addReasonIf_eq (Record.addReasonIf _ _ _), Record.addReasonIf_eq (Record.mk ..)]
  exact ⟨rfl, rfl⟩

theorem State.cureRecord_hasReason (h : s.Curing p r z rc) (x : Reason) :
    hasReason (s.cureRecord p r).trav.reasons x = true ↔ hasReason r.trav.reasons x = true ∨
      ((s.tunnel.zones.get z).value = none ∧ x = .cureDataGap ∨
        rc.cureMax * 256 < (s.cureRecord p r).dose ∧ x = .overcure ∨
        (∃ v, (s.tunnel.zones.get z).value = some v ∧ rc.tMax < v) ∧ x = .overtemp) := by
  rw [(State.cureRecord_dose h).2, State.cureRecord_of_curing h]
  dsimp only
  simp only [Record.hasReason_addReasonIf, Option.isNone_iff_eq_none, decide_eq_true_eq, Option.any_eq_true, or_assoc]

/-! ### The record after the tick -/

/-- What a cure tick makes of the record at a position. -/
def State.ticked (s : State) (p : Position) (r : Record) : Record := s.potTest p (s.cureRecord p r).flashTick

theorem State.get_cureTick (s : State) (p : Position) : s.cureTick.table.get p = (s.table.get p).map (s.ticked p) := by
  have htable : s.cureTick.table = s.cureStep.flashStep.table := by simp [State.cureTick]
  rw [htable, State.flashStep, State.mapRecords, PerPos.get_mapPos, State.cureStep, State.mapRecords, PerPos.get_mapPos,
    Option.map_map]
  rfl

theorem Record.flashTick_eq (r : Record) : r.flashTick =
    { r with elapsed := if r.sprayEnd.isSome then min (r.elapsed + 1) (2 ^ 32 - 1) else r.elapsed } := by
  unfold Record.flashTick
  split
  · rfl
  · rfl

/-- The tick doses a record as the first step says, counts its flash/pot time, and changes its reasons. -/
theorem State.ticked_eq (s : State) (p : Position) (r : Record) : s.ticked p r =
    { r with
      dose := (s.cureRecord p r).dose
      tickWeight := (s.cureRecord p r).tickWeight
      elapsed := if r.sprayEnd.isSome then min (r.elapsed + 1) (2 ^ 32 - 1) else r.elapsed
      trav := { r.trav with reasons := (s.ticked p r).trav.reasons } } := by
  have hcure := s.cureRecord_eq p r
  rw [State.ticked, Record.flashTick_eq, State.potTest_eq]
  generalize State.potTest _ _ _ = q
  generalize s.cureRecord p r = c at hcure ⊢
  rw [hcure]

/-- The pot test of a tick is made with the time counted. -/
theorem State.potSpent_ticked : s.PotSpent p (s.cureRecord p r).flashTick ↔ (p = .spray ∨ p = .gate) ∧ r.sprayedHere = true ∧
    ∃ rc, r.bound s.store = some rc ∧ rc.potMax ≤ (s.ticked p r).elapsed := by
  have helapsed : (s.ticked p r).elapsed = (s.cureRecord p r).flashTick.elapsed := by
    rw [State.ticked, State.potTest_eq]
  rw [helapsed, State.PotSpent, Record.flashTick_eq, State.cureRecord_eq]
  rfl

/-- A slot is neither SPRAY nor GATE. -/
theorem slotZoneOf_eq_none {m : SlotZones} (h : p = .spray ∨ p = .gate) : slotZoneOf m p = none := by
  rcases h with rfl | rfl <;> rfl

/-- A record away from SPRAY and GATE, or not sprayed here, has its reasons from the first step alone. -/
theorem State.ticked_reasons_of_elsewhere (h : ¬ ((p = .spray ∨ p = .gate) ∧ r.sprayedHere = true)) :
    (s.ticked p r).trav.reasons = (s.cureRecord p r).trav.reasons := by
  rw [State.ticked, State.potTest_of_not_spent fun hspent => ?_, Record.flashTick_eq]
  obtain ⟨hp, hs, -⟩ := State.potSpent_ticked.1 hspent
  exact h ⟨hp, hs⟩

theorem State.ticked_hasReason (x : Reason) : hasReason (s.ticked p r).trav.reasons x = true ↔
    hasReason (s.cureRecord p r).trav.reasons x = true ∨ ((p = .spray ∨ p = .gate) ∧ r.sprayedHere = true ∧
      ∃ rc, r.bound s.store = some rc ∧ rc.potMax ≤ (s.ticked p r).elapsed) ∧ x = .potLife := by
  rw [← State.potSpent_ticked, State.ticked, State.potTest_hasReason, Record.flashTick_eq]

/-- No reason is lost in a tick. -/
theorem State.ticked_keeps {x : Reason} (h : hasReason r.trav.reasons x = true) : hasReason (s.ticked p r).trav.reasons x = true := by
  refine (State.ticked_hasReason x).2 (.inl ?_)
  rcases s.curing_cases p r with ⟨z, rc, hc⟩ | hidle
  · exact (State.cureRecord_hasReason hc x).2 (.inl h)
  · rwa [hidle]

/-- The reasons that arise in a tick. -/
theorem State.ticked_arises {x : Reason} (h : hasReason (s.ticked p r).trav.reasons x = true) :
    hasReason r.trav.reasons x = true ∨ r.sprayedHere = true ∧ (x = .potLife ∧ (p = .spray ∨ p = .gate) ∨
      (x = .cureDataGap ∨ x = .overcure ∨ x = .overtemp) ∧ (slotZoneOf s.cfg.slotZone p).isSome = true) := by
  rcases (State.ticked_hasReason x).1 h with h | ⟨⟨hp, hs, -⟩, hx⟩
  · rcases s.curing_cases p r with ⟨z, rc, hc⟩ | hidle
    · rcases (State.cureRecord_hasReason hc x).1 h with h | h
      · exact .inl h
      · exact .inr ⟨hc.sprayed, .inr ⟨h.imp And.right (Or.imp And.right And.right), Option.isSome_of_mem hc.zone⟩⟩
    · rw [hidle] at h
      exact .inl h
  · exact .inr ⟨hs, .inl ⟨hx, hp⟩⟩

theorem State.Curing.ticked_hasReason (h : s.Curing p r z rc) (x : Reason) :
    hasReason (s.ticked p r).trav.reasons x = true ↔ hasReason r.trav.reasons x = true ∨
      ((s.tunnel.zones.get z).value = none ∧ x = .cureDataGap ∨
        rc.cureMax * 256 < (s.cureRecord p r).dose ∧ x = .overcure ∨
        (∃ v, (s.tunnel.zones.get z).value = some v ∧ rc.tMax < v) ∧ x = .overtemp) := by
  rw [State.ticked_reasons_of_elsewhere fun hp => ?_, State.cureRecord_hasReason h]
  cases h.zone.symm.trans (slotZoneOf_eq_none hp.1)

theorem State.exec_potLifeExpiry (hl : s.loaded = true) : exec .potLifeExpiry s = .next (s.mapRecords s.potTest) :=
  congrArg Host.Outcome.next (State.live_of_loaded hl _)

end

/-! ### What the tick leaves -/

/-- An event that times the dwell and the index alone. -/
def State.Times (s t : State) : Prop := t = { s with tunnel := { s.tunnel with
  phase := t.tunnel.phase
  dwell := t.tunnel.dwell
  extensionUsed := t.tunnel.extensionUsed
  drive := t.tunnel.drive
  timeout := t.tunnel.timeout
  carriesGate := t.tunnel.carriesGate } }

theorem State.Times.refl (s : State) : s.Times s := rfl

theorem State.Times.trans {s t u : State} (h : s.Times t) (k : t.Times u) : s.Times u := by
  unfold State.Times at h k ⊢
  rw [h] at k
  exact k

theorem State.times_tryIndex (s : State) : s.Times s.tryIndex := by
  unfold State.tryIndex
  split
  · rfl
  · exact .refl s

theorem State.times_expiry (s : State) : s.Times s.expiry := by
  unfold State.expiry
  split
  · rfl
  · exact State.Times.trans (t := { s with tunnel := { s.tunnel with dwell := 0, phase := .indexPending } }) rfl
      (State.times_tryIndex _)

theorem State.times_dwellTick (s : State) : s.Times s.dwellTick := by
  unfold State.dwellTick
  split
  · split
    · exact s.times_expiry
    · rfl
  · exact .refl s

/-- A cure tick changes the records, times the dwell and the index, and starts a poll with zone A. -/
theorem State.cureTick_fields (s : State) : s.cureTick = { s with
    table := s.cureTick.table
    tunnel := { s.tunnel with
      phase := s.cureTick.tunnel.phase
      dwell := s.cureTick.tunnel.dwell
      extensionUsed := s.cureTick.tunnel.extensionUsed
      drive := s.cureTick.tunnel.drive
      timeout := s.cureTick.tunnel.timeout
      carriesGate := s.cureTick.tunnel.carriesGate
      poll := some { zone := .a, timer := 250 }
      probeRequest := s.tunnel.probeRequest + 1 } } := by
  have htick := s.cureTick_eq
  generalize s.cureTick = t at htick ⊢
  have htimes := (State.times_dwellTick { s with table := t.table }).trans (State.times_tryIndex _)
  generalize (State.dwellTick { s with table := t.table }).tryIndex = u at htick htimes
  have htunnel : t.tunnel = u.startPoll.tunnel := congrArg State.tunnel htick
  unfold State.Times at htimes
  rw [htimes] at htick
  rw [htunnel]
  exact htick

/-- Settles O41: the record by record laws of the tick, with the dwell and the index left to O42. -/
theorem cureTickTimesAndDoses : Obligations.CureTickTimesAndDoses := by
  refine ⟨fun s hl => ⟨s.cureTick, State.exec_cureTick hl, s.cureTick_fields, fun p h => ?_, fun p r h => ?_⟩, fun s hl => ?_⟩
  · rw [State.get_cureTick, h]
    rfl
  · refine ⟨s.ticked p r, by rw [State.get_cureTick, h]; rfl, ?_, ?_, fun _ => State.ticked_keeps, fun _ => State.ticked_arises,
      fun rc z hz hs hb => ?_, fun hidle => ?_, fun rc hp hs hb => ?_⟩
    · exact (s.ticked_eq p r).trans (by rw [State.ticked_eq])
    · rw [State.ticked_eq]
    · have hc : s.Curing p r z rc := ⟨hz, hs, hb⟩
      obtain ⟨hweight, hdose⟩ := State.cureRecord_dose hc
      have hm : (s.ticked p r).dose = (s.cureRecord p r).dose := by rw [State.ticked_eq]
      have hw : (s.ticked p r).tickWeight = (s.cureRecord p r).tickWeight := by rw [State.ticked_eq]
      intro value
      rw [hw, hm]
      refine ⟨hweight, hdose, ?_, ?_, ?_⟩
      · rw [hc.ticked_hasReason]
        simp [value, or_comm]
      · rw [hc.ticked_hasReason]
        simp [or_comm]
      · rw [hc.ticked_hasReason]
        simp [value, or_comm]
    · have hcure : s.cureRecord p r = { r with tickWeight := none } :=
        State.cureRecord_of_idle fun z rc hc => hidle.elim (fun h => by cases h.symm.trans hc.zone) fun h => by
          cases h.symm.trans hc.sprayed
      refine ⟨?_, ?_, fun helse => ?_⟩
      · rw [State.ticked_eq, hcure]
      · rw [State.ticked_eq, hcure]
      · rw [State.ticked_reasons_of_elsewhere helse, hcure]
    · have hcure : s.cureRecord p r = { r with tickWeight := none } :=
        State.cureRecord_of_idle fun z rc hc => by cases (slotZoneOf_eq_none hp).symm.trans hc.zone
      rw [State.ticked_hasReason, hcure]
      simp [hp, hs, hb, or_comm]
  · refine ⟨_, State.exec_potLifeExpiry hl, rfl, fun p => ?_⟩
    refine (PerPos.get_mapPos _ _ _).trans (congrArg (fun f => (s.table.get p).map f) (funext fun r => ?_))
    have hspent : s.PotSpent p r ↔ (p = .spray ∨ p = .gate) ∧ r.sprayedHere = true ∧
        (r.bound s.store).any (fun rc => decide (rc.potMax ≤ r.elapsed)) = true := by
      simp only [State.PotSpent, Option.any_eq_true, decide_eq_true_eq]
    split
    next h => exact State.potTest_of_spent (hspent.2 h)
    next h => exact State.potTest_of_not_spent (mt hspent.1 h)

end Sys2Proof.Machine

end

section

namespace Sys2Proof.Machine

/-! ## The probe port (R143, R144) -/

section
variable {s : State} {rd : ProbeRead}

/-- The zone whose read follows a zone's in the poll, where it is fitted (R129, R143). -/
def State.nextRead (s : State) (z : Zone) : Option Zone := (nextZone z).filter s.fitted

/-- A read of a zone ended and the next one begun, before the loss of the zone is told. -/
def State.readEnded (s : State) (z : Zone) (good : Option Int) : State :=
  { s with tunnel := { s.tunnel with
      zones := s.tunnel.zones.put z ((s.tunnel.zones.get z).afterRead good)
      poll := (s.nextRead z).map fun w => { zone := w, timer := Config.probeTime }
      probeRequest := s.tunnel.probeRequest + if (s.nextRead z).isSome then 1 else 0 } }

theorem State.notice_withTunnel (s : State) (t : Tunnel) (code : Byte) (body : List Byte) :
    State.notice { s with tunnel := t } code body = { s.notice code body with tunnel := t } := by
  unfold State.notice
  split <;> rfl

/-- A FAILED read of a zone with a value in use: it holds for three misses. -/
theorem ZoneState.afterRead_failed {z : ZoneState} {v : Int} (h : z.value = some v) :
    z.afterRead none = if z.miss < 3 then { value := some v, miss := z.miss + 1 } else { value := none, miss := 4 } := by
  simp only [ZoneState.afterRead, h]
  by_cases hm : z.miss < 3
  · rw [if_pos hm, if_neg (by omega)]
  · rw [if_neg hm, if_pos (by omega)]

/-- A zone that keeps its value in use, or had none, is not told as lost. -/
theorem State.zoneLostNotice_of_kept {z : Zone} {before : ZoneState}
    (h : (s.tunnel.zones.get z).value.isSome = true ∨ before.value = none) : s.zoneLostNotice z before = s := by
  unfold State.zoneLostNotice
  split
  next hb ha => rcases h with h | h <;> simp_all
  · rfl

theorem State.zoneLostNotice_of_lost {z : Zone} {before : ZoneState} {v : Int} (hb : before.value = some v)
    (ha : (s.tunnel.zones.get z).value = none) :
    s.zoneLostNotice z before = s.notice 9 (byteOf (zoneIndex z) :: (signed16 v ++ [byteOf (s.sprayedInZone z)])) := by
  unfold State.zoneLostNotice
  rw [hb, ha]

/-- The next read may begin before the loss of a zone is told as well as after it. -/
theorem State.startRead_zoneLostNotice (s : State) (z w : Zone) (before : ZoneState) :
    (s.zoneLostNotice z before).startRead w = (s.startRead w).zoneLostNotice z before := by
  by_cases hk : (s.tunnel.zones.get z).value.isSome = true ∨ before.value = none
  · rw [State.zoneLostNotice_of_kept hk, State.zoneLostNotice_of_kept (s := s.startRead w) hk]
  · obtain ⟨ha, hb⟩ := not_or.1 hk
    obtain ⟨v, hv⟩ := Option.ne_none_iff_exists'.1 hb
    have ha := Option.not_isSome_iff_eq_none.1 ha
    rw [State.zoneLostNotice_of_lost hv ha, State.zoneLostNotice_of_lost (s := s.startRead w) hv ha]
    change State.startRead _ _ = State.notice (s.startRead w) 9 (_ :: (signed16 v ++ [byteOf (s.sprayedInZone z)]))
    refine Eq.trans ?_ (s.notice_withTunnel _ _ _).symm
    simp only [State.startRead, State.notice_frame]

theorem State.endRead_eq (h : s.tunnel.poll = some rd) (good : Option Int) :
    s.endRead good = (s.readEnded rd.zone good).zoneLostNotice rd.zone (s.tunnel.zones.get rd.zone) := by
  unfold State.endRead State.readEnded State.nextRead
  rw [h]
  dsimp only
  cases nextZone rd.zone with
  | none => rfl
  | some w =>
    dsimp only
    split
    next hw =>
      rw [State.startRead_zoneLostNotice, Option.filter_some, if_pos hw]
      rfl
    next hw =>
      rw [Option.filter_some, if_neg hw]
      rfl

theorem State.exec_probeReadDone_of_stray {z : Zone} {n : Nat} (a : ProbeAnswer) (h : s.answersRead z n = false) :
    exec (.probeReadDone z n a) s = .next s := by
  show Host.Outcome.next (s.when (s.loaded && s.answersRead z n) _) = _
  rw [h, Bool.and_false, State.when_false]

theorem State.exec_probeReadDone (hl : s.loaded = true) (h : s.tunnel.poll = some rd) (a : ProbeAnswer) :
    exec (.probeReadDone rd.zone s.tunnel.probeRequest a) s = .next (s.endRead (goodReading a)) := by
  have hanswers : s.answersRead rd.zone s.tunnel.probeRequest = true := by simp [State.answersRead, h]
  show Host.Outcome.next (s.when (s.loaded && s.answersRead _ _) _) = _
  rw [hl, hanswers]
  rfl

theorem State.exec_probeReadTimeout (hl : s.loaded = true) : exec .probeReadTimeout s = .next (s.endRead none) :=
  congrArg Host.Outcome.next (State.live_of_loaded hl _)

theorem State.answersRead_eq_false {z : Zone} {n : Nat}
    (h : s.tunnel.poll = none ∨ (∃ rd, s.tunnel.poll = some rd ∧ rd.zone ≠ z) ∨ n ≠ s.tunnel.probeRequest) :
    s.answersRead z n = false := by
  unfold State.answersRead
  rcases h with h | ⟨rd, h, hz⟩ | hn
  · rw [h]
  · simp [h, hz]
  · split <;> simp [hn]

theorem State.nextRead_eq (s : State) (z : Zone) : s.nextRead z = match z with
    | .a => if 2 ≤ s.cfg.zoneCount then some Zone.b else none
    | .b => if 3 ≤ s.cfg.zoneCount then some Zone.c else none
    | .c => none := by
  have hfitted (w : Zone) : (some w).filter s.fitted = if zoneIndex w + 1 ≤ s.cfg.zoneCount then some w else none :=
    Option.filter_some.trans (if_congr decide_eq_true_iff rfl rfl)
  cases z with
  | a => exact hfitted .b
  | b => exact hfitted .c
  | c => rfl

theorem State.sprayedInZone_eq (s : State) (z : Zone) : s.sprayedInZone z = (slotPositions.filter fun p =>
    slotZoneOf s.cfg.slotZone p == some z && (s.table.get p).any (·.sprayedHere)).length := by
  unfold State.sprayedInZone
  congr 2
  funext p
  cases s.table.get p <;> rfl

end

/-- Settles O45: each answer or timeout of the read under way is one end of the read, GOOD or FAILED. -/
theorem probeReadTaken : Obligations.ProbeReadTaken := by
  intro s hl
  refine ⟨fun z n a h => State.exec_probeReadDone_of_stray a (State.answersRead_eq_false h), fun h => ?_,
    fun rd c good h hc => ?_⟩
  · rw [State.exec_probeReadTimeout hl, State.endRead, h]
  have hexec : exec c s = .next (s.endRead good) := by
    rcases hc with ⟨rfl, rfl⟩ | ⟨t, rfl, rfl⟩ | ⟨rfl | rfl, rfl⟩
    · exact State.exec_probeReadTimeout hl
    · exact State.exec_probeReadDone hl h _
    · exact State.exec_probeReadDone hl h _
    · exact State.exec_probeReadDone hl h _
  intro before after next ended
  have hafter : before.afterRead good = after := by
    cases good with
    | some t => rfl
    | none =>
      cases hv : before.value with
      | none => simp only [ZoneState.afterRead, after, hv]
      | some v => simp only [ZoneState.afterRead_failed hv, after, hv]
  have hnext : s.nextRead rd.zone = next := s.nextRead_eq rd.zone
  have hended : s.readEnded rd.zone good = ended := by
    unfold State.readEnded
    rw [hnext, hafter]
    rfl
  have hzone : (ended.tunnel.zones.get rd.zone).value = after.value := congrArg _ (PerZone.get_put_self _ _ _)
  rw [hexec, State.endRead_eq h, hended]
  refine ⟨fun hk => ?_, fun v hb ha => ?_⟩
  · rw [State.zoneLostNotice_of_kept (hk.imp_left fun h => by rwa [hzone])]
  · rw [State.zoneLostNotice_of_lost hb (hzone.trans ha), State.sprayedInZone_eq]

end Sys2Proof.Machine

end

section

namespace Sys2Proof.Machine

/-! ## The check of the covered positions (R16) -/

section
variable {s : State} {p : Position} {r : Record} {i : Fin 12}

/-- The record that the check of a position takes away: its sensor stands empty. -/
def State.lifts (s : State) (p : Position) : Option Record := if s.sensorEmpty p then s.table.get p else none

theorem State.lifts_eq_some : s.lifts p = some r ↔ s.sensorEmpty p = true ∧ s.table.get p = some r := by
  simp [State.lifts]

/-- The record that the check of a position leaves there. -/
def State.comparedAt (s : State) (p : Position) : Option Record :=
  match s.table.get p, (s.inputs.pos.get p).level with
  | some _, some false => none
  | some r, _ => some r
  | none, some true => some (strandedAt p)
  | none, _ => none

/-- The check of a position: a record is taken away, a STRANDED one is made, or the sensor agrees. -/
theorem State.comparePosition_cases (s : State) (p : Position) :
    (∃ r, s.lifts p = some r ∧ s.comparePosition p = s.removeLifted p) ∨
      (s.lifts p = none ∧ s.table.get p = none ∧ s.occupied p = true ∧ s.comparePosition p = s.makeStranded p) ∨
      (s.lifts p = none ∧ (s.table.get p = none → s.occupied p = false) ∧ s.comparePosition p = s) := by
  unfold State.comparePosition State.lifts State.isFree
  cases h : s.table.get p with
  | none => cases ho : s.occupied p <;> simp
  | some r => cases he : s.sensorEmpty p <;> simp

theorem State.comparePosition_of_agrees (hf : s.table.get p = none → s.occupied p = false)
    (hr : s.table.get p ≠ none → s.sensorEmpty p = false) : s.comparePosition p = s := by
  rcases s.comparePosition_cases p with ⟨r, hl, -⟩ | ⟨-, hn, ho, -⟩ | ⟨-, -, h⟩
  · obtain ⟨he, hg⟩ := State.lifts_eq_some.1 hl
    cases he.symm.trans (hr (by rw [hg]; exact Option.some_ne_none r))
  · cases ho.symm.trans (hf hn)
  · exact h

theorem State.comparedAt_of_record (h : s.table.get p = some r) (he : s.sensorEmpty p = false) : s.comparedAt p = some r := by
  rw [State.comparedAt, h]
  split
  next hv => exact absurd hv (beq_eq_false_iff_ne.1 he)
  next hr _ => exact hr.symm
  next hr _ => cases hr
  next hr _ => cases hr

theorem State.comparedAt_of_free (h : s.table.get p = none) (ho : s.occupied p = false) : s.comparedAt p = none := by
  rw [State.comparedAt, h]
  split
  · rfl
  next hr _ => cases hr
  next hv => exact absurd hv (beq_eq_false_iff_ne.1 ho)
  · rfl

theorem State.comparePosition_get_self (s : State) (p : Position) : (s.comparePosition p).table.get p = s.comparedAt p := by
  rcases s.comparePosition_cases p with ⟨r, hl, h⟩ | ⟨-, hn, ho, h⟩ | ⟨hl, ho, h⟩
  · obtain ⟨he, hg⟩ := State.lifts_eq_some.1 hl
    have hlevel : (s.inputs.pos.get p).level = some false := beq_iff_eq.1 he
    rw [h, State.removeLifted_table, PerPos.get_put_self, State.comparedAt, hg, hlevel]
  · have hlevel : (s.inputs.pos.get p).level = some true := beq_iff_eq.1 ho
    rw [h, State.makeStranded_eq, State.comparedAt, hn, hlevel]
    exact PerPos.get_put_self _ _ _
  · rw [h]
    cases hg : s.table.get p with
    | none => exact (State.comparedAt_of_free hg (ho hg)).symm
    | some r => exact (State.comparedAt_of_record hg (by simpa [State.lifts, hg] using hl)).symm

/-- The check of one position leaves what another's finds. -/
theorem State.lifts_comparePosition {q : Position} (h : q ≠ p) : (s.comparePosition p).lifts q = s.lifts q := by
  have hinputs : (s.comparePosition p).inputs = s.inputs := by simp
  rw [State.lifts, State.lifts, State.sensorEmpty, State.sensorEmpty, hinputs, State.comparePosition_get s h]

theorem State.comparedAt_comparePosition {q : Position} (h : q ≠ p) : (s.comparePosition p).comparedAt q = s.comparedAt q := by
  have hinputs : (s.comparePosition p).inputs = s.inputs := by simp
  rw [State.comparedAt, State.comparedAt, hinputs, State.comparePosition_get s h]

/-! ### Position by position -/

theorem State.compareFold_get_mem (ps : List Position) (hnd : ps.Nodup) (hp : p ∈ ps) :
    (ps.foldl State.comparePosition s).table.get p = s.comparedAt p := by
  induction ps generalizing s with
  | nil => cases hp
  | cons q ps ih =>
    obtain ⟨hq, hnd⟩ := List.nodup_cons.1 hnd
    rw [List.foldl_cons]
    by_cases hpq : p = q
    · subst hpq
      rw [State.compareFold_get ps hq, State.comparePosition_get_self]
    · rw [ih hnd (List.mem_of_ne_of_mem hpq hp), State.comparedAt_comparePosition hpq]

theorem State.compareFold_of_agrees (ps : List Position) (h : ∀ p ∈ ps, s.comparePosition p = s) :
    ps.foldl State.comparePosition s = s := by
  induction ps with
  | nil => rfl
  | cons p ps ih =>
    obtain ⟨hp, hps⟩ := List.forall_mem_cons.1 h
    rw [List.foldl_cons, hp, ih hps]

/-! ### The notices of the records lost (R15, R16) -/

/-- The notice of a record taken away from a position, if one is. -/
def State.toldLifted (s : State) (o : Option Record) (l : Link) (p : Position) : Link :=
  match o with
  | none => l
  | some r => s.removedNotice l p r

theorem State.toldLifted_of_cfg {s t : State} (h : t.cfg = s.cfg) : t.toldLifted = s.toldLifted := by
  funext o l p
  unfold State.toldLifted State.removedNotice
  rw [h]

theorem State.comparePosition_link (hp : p ≠ .spray) (hh : ∀ r, s.lifts p = some r → r.handoff = none) :
    (s.comparePosition p).link = s.toldLifted (s.lifts p) s.link p := by
  rcases s.comparePosition_cases p with ⟨r, hl, h⟩ | ⟨hl, -, -, h⟩ | ⟨hl, -, h⟩
  · have hg := (State.lifts_eq_some.1 hl).2
    rw [h, hl, State.removeLifted_unoffered hg (hh r hl), s.leave_eq hg hp]
    rfl
  · rw [h, hl, State.makeStranded_eq]
    rfl
  · rw [h, hl]
    rfl

theorem State.compareFold_link (ps : List Position) (hnd : ps.Nodup) (hs : .spray ∉ ps)
    (hh : ∀ p ∈ ps, ∀ r, s.lifts p = some r → r.handoff = none) :
    (ps.foldl State.comparePosition s).link = ps.foldl (fun l p => s.toldLifted (s.lifts p) l p) s.link := by
  induction ps generalizing s with
  | nil => rfl
  | cons q ps ih =>
    obtain ⟨hq, hnd⟩ := List.nodup_cons.1 hnd
    obtain ⟨hsq, hs⟩ := not_or.1 (mt List.mem_cons.2 hs)
    obtain ⟨hhq, hh⟩ := List.forall_mem_cons.1 hh
    have hlifts (p : Position) (hp : p ∈ ps) : (s.comparePosition q).lifts p = s.lifts p :=
      State.lifts_comparePosition fun h => hq (h ▸ hp)
    rw [List.foldl_cons, List.foldl_cons, ih hnd hs fun p hp r hr => hh p hp r (hlifts p hp ▸ hr),
      State.comparePosition_link (Ne.symm hsq) hhq, State.toldLifted_of_cfg (s := s) (by simp)]
    exact List.foldl_ext _ _ _ fun l p hp => by rw [hlifts p hp]

/-! ### The references handed back (R49) -/

/-- Some board of the table is bound to a record of the store. -/
def State.Binds (s : State) (i : Fin 12) : Prop := ∃ p, (recipesOf s.table).get p = some i

theorem State.refCount_eq_zero_iff : s.refCount i = 0 ↔ ¬ s.Binds i := by
  refine ⟨fun h ⟨p, hp⟩ => State.refCount_ne_zero hp h, fun h => List.length_eq_zero_iff.2 (List.filter_eq_nil_iff.2 ?_)⟩
  intro o ho hi
  obtain ⟨p, rfl⟩ := (PerPos.mem_toList _ _).1 ho
  cases hg : s.table.get p with
  | none => rw [hg] at hi; cases hi
  | some r =>
    rw [hg] at hi
    exact h ⟨p, get_recipesOf_eq_some.2 ⟨r, hg, beq_iff_eq.1 hi⟩⟩

/-- What becomes of a record of the store when boards leave: it is freed where it is RETIRING, a board bound to it is lost, and none
stays bound. -/
def RecipeCell.HandedBack (old new : RecipeCell) (lost bound : Prop) : Prop :=
  (old.isRetiring = true → lost → ¬ bound → new = .free) ∧ (old.isRetiring = false ∨ ¬ lost ∨ bound → new = old)

theorem RecipeCell.HandedBack.of_not_lost (c : RecipeCell) {lost bound : Prop} (h : ¬ lost) : c.HandedBack c lost bound :=
  ⟨fun _ hl => absurd hl h, fun _ => rfl⟩

theorem RecipeCell.HandedBack.congr {old new : RecipeCell} {lost lost' bound bound' : Prop} (h : old.HandedBack new lost bound)
    (hl : lost' ↔ lost) (hb : bound' ↔ bound) : old.HandedBack new lost' bound' := by
  rwa [RecipeCell.HandedBack, hl, hb]

/-- Boards leave in two parts: what stays bound after the first is lost in the second or stays bound. -/
theorem RecipeCell.HandedBack.trans {a b c : RecipeCell} {lost lost' bound bound' : Prop} (h : a.HandedBack b lost bound)
    (k : b.HandedBack c lost' bound') (hleft : bound → lost' ∨ bound') (hback : bound' → bound) :
    a.HandedBack c (lost ∨ lost') bound' := by
  obtain ⟨hfree, hsame⟩ := h
  obtain ⟨kfree, ksame⟩ := k
  by_cases hfreed : a.isRetiring = true ∧ lost ∧ ¬ bound
  · obtain ⟨hr, hl, hb⟩ := hfreed
    obtain rfl := hfree hr hl hb
    have hc : c = .free := ksame (.inl rfl)
    refine ⟨fun _ _ _ => hc, fun hk => ?_⟩
    rcases hk with hk | hk | hk
    · cases hr.symm.trans hk
    · exact absurd (.inl hl) hk
    · exact absurd (hback hk) hb
  · have hkept : a.isRetiring = false ∨ ¬ lost ∨ bound := by
      simpa only [not_and_or, not_not, Bool.not_eq_true] using hfreed
    obtain rfl := hsame hkept
    refine ⟨fun hr hl hb => kfree hr ?_ hb, fun hk => ksame (hk.imp_right (Or.imp_left fun hl => mt Or.inr hl))⟩
    exact hl.elim (fun hl => (hleft (by_contra fun hn => hfreed ⟨hr, hl, hn⟩)).resolve_right hb) id

theorem State.leave_records (h : s.table.get p = some r) (hp : p ≠ .spray) (i : Fin 12) :
    s.store.records[i].HandedBack (s.leave p).store.records[i] (r.recipe = some i) ((s.leave p).Binds i) := by
  have hbinds : (s.leave p).Binds i ↔ State.Binds { s with table := s.table.put p none } i := by
    rw [State.Binds, State.leave_table]
    rfl
  have hcount := s.refCount_put_none h i
  have hcell : (s.leave p).store.records[i] =
      if r.recipe = some i ∧ s.store.records[i].isRetiring = true ∧ s.refCount i ≤ 1 then .free else s.store.records[i] := by
    rw [s.leave_eq h hp]
    simp [State.storeWithout]
  refine RecipeCell.HandedBack.congr ?_ .rfl hbinds
  rw [hcell]
  refine ⟨fun hr hl hb => if_pos ⟨hl, hr, ?_⟩, fun hk => if_neg fun ⟨hl, hr, hone⟩ => ?_⟩
  · rw [if_pos hl, State.refCount_eq_zero_iff.2 hb] at hcount
    omega
  · rcases hk with hk | hk | hk
    · cases hr.symm.trans hk
    · exact hk hl
    · rw [if_pos hl] at hcount
      exact State.refCount_eq_zero_iff.1 (by omega) hk

theorem State.removeLifted_store (h : s.table.get p = some r) : (s.removeLifted p).store = (s.leave p).store := by
  unfold State.removeLifted
  rw [h]
  dsimp only
  split <;> simp

theorem State.comparePosition_store (hp : p ≠ .spray) :
    (s.comparePosition p).store = { s.store with records := (s.comparePosition p).store.records } := by
  rcases s.comparePosition_cases p with ⟨r, hl, h⟩ | ⟨-, -, -, h⟩ | ⟨-, -, h⟩
  · have hg := (State.lifts_eq_some.1 hl).2
    rw [h, State.removeLifted_store hg, s.leave_eq hg hp]
    rfl
  · rw [h, State.makeStranded_eq]
  · rw [h]

theorem State.comparePosition_records (hp : p ≠ .spray) (i : Fin 12) : s.store.records[i].HandedBack
    (s.comparePosition p).store.records[i] (∃ r, s.lifts p = some r ∧ r.recipe = some i) ((s.comparePosition p).Binds i) := by
  rcases s.comparePosition_cases p with ⟨r, hl, h⟩ | ⟨hl, -, -, h⟩ | ⟨hl, -, h⟩
  · have hg := (State.lifts_eq_some.1 hl).2
    have hbinds : (s.removeLifted p).Binds i ↔ (s.leave p).Binds i := by
      rw [State.Binds, State.Binds, State.removeLifted_table, State.leave_table]
    rw [h, State.removeLifted_store hg]
    exact (State.leave_records hg hp i).congr (by simp [hl]) hbinds
  · rw [h, State.makeStranded_eq]
    exact .of_not_lost _ (by simp [hl])
  · rw [h]
    exact .of_not_lost _ (by simp [hl])

/-- The check of a position binds no board. -/
theorem State.Binds.of_comparePosition (h : (s.comparePosition p).Binds i) : s.Binds i := by
  obtain ⟨q, hq⟩ := h
  refine ⟨q, ?_⟩
  by_cases hqp : q = p
  · subst hqp
    obtain ⟨r, hr, hi⟩ := get_recipesOf_eq_some.1 hq
    rw [State.comparePosition_get_self, State.comparedAt] at hr
    split at hr
    · cases hr
    next hg _ => exact get_recipesOf_eq_some.2 ⟨r, hg.trans hr, hi⟩
    · cases hr
      cases hi
    · cases hr
  · rwa [get_recipesOf, State.comparePosition_get s hqp, ← get_recipesOf] at hq

/-- A board stays bound unless the check takes it away. -/
theorem State.Binds.comparePosition (h : s.Binds i) (p : Position) :
    (∃ r, s.lifts p = some r ∧ r.recipe = some i) ∨ (s.comparePosition p).Binds i := by
  obtain ⟨q, hq⟩ := h
  obtain ⟨r, hr, hi⟩ := get_recipesOf_eq_some.1 hq
  by_cases hqp : q = p
  · subst hqp
    rcases s.comparePosition_cases q with ⟨x, hl, -⟩ | ⟨-, hn, -⟩ | ⟨-, -, h⟩
    · cases hr.symm.trans (State.lifts_eq_some.1 hl).2
      exact .inl ⟨r, hl, hi⟩
    · cases hr.symm.trans hn
    · exact .inr ⟨q, by rwa [h]⟩
  · exact .inr ⟨q, by rwa [get_recipesOf, State.comparePosition_get s hqp, ← get_recipesOf]⟩

/-- The check of some positions takes away a board bound to a record of the store. -/
def State.Loses (s : State) (ps : List Position) (i : Fin 12) : Prop := ∃ p ∈ ps, ∃ r, s.lifts p = some r ∧ r.recipe = some i

theorem State.loses_cons {ps : List Position} (h : p ∉ ps) :
    s.Loses (p :: ps) i ↔ (∃ r, s.lifts p = some r ∧ r.recipe = some i) ∨ (s.comparePosition p).Loses ps i := by
  simp only [State.Loses, List.mem_cons, exists_eq_or_imp]
  refine or_congr_right (exists_congr fun q => and_congr_right fun hq => ?_)
  rw [State.lifts_comparePosition (ne_of_mem_of_not_mem hq h)]

theorem State.Binds.compareFold (ps : List Position) (hnd : ps.Nodup) (h : s.Binds i) :
    s.Loses ps i ∨ (ps.foldl State.comparePosition s).Binds i := by
  induction ps generalizing s with
  | nil => exact .inr h
  | cons p ps ih =>
    obtain ⟨hp, hnd⟩ := List.nodup_cons.1 hnd
    rw [State.loses_cons hp, List.foldl_cons, or_assoc]
    exact (h.comparePosition p).imp_right (ih hnd)

theorem State.Binds.of_compareFold (ps : List Position) (h : (ps.foldl State.comparePosition s).Binds i) : s.Binds i := by
  induction ps generalizing s with
  | nil => exact h
  | cons p ps ih => exact (ih h).of_comparePosition

theorem State.compareFold_store (ps : List Position) (hs : .spray ∉ ps) : (ps.foldl State.comparePosition s).store =
    { s.store with records := (ps.foldl State.comparePosition s).store.records } := by
  induction ps generalizing s with
  | nil => rfl
  | cons p ps ih =>
    obtain ⟨hp, hs⟩ := not_or.1 (mt List.mem_cons.2 hs)
    rw [List.foldl_cons]
    refine (ih hs).trans ?_
    rw [State.comparePosition_store (Ne.symm hp)]

/-- The store after the check of some positions. -/
theorem State.compareFold_records (ps : List Position) (hnd : ps.Nodup) (hs : .spray ∉ ps) (i : Fin 12) :
    s.store.records[i].HandedBack (ps.foldl State.comparePosition s).store.records[i] (s.Loses ps i)
      ((ps.foldl State.comparePosition s).Binds i) := by
  induction ps generalizing s with
  | nil => exact .of_not_lost _ fun ⟨p, hp, _⟩ => by cases hp
  | cons p ps ih =>
    obtain ⟨hp, hnd⟩ := List.nodup_cons.1 hnd
    obtain ⟨hsp, hs⟩ := not_or.1 (mt List.mem_cons.2 hs)
    exact ((State.comparePosition_records (Ne.symm hsp) i).trans (ih hnd hs) (State.Binds.compareFold ps hnd)
      (State.Binds.of_compareFold ps)).congr (State.loses_cons hp) .rfl

end

end Sys2Proof.Machine

end

section

namespace Sys2Proof.Machine

/-! ## The end of an index (R138) -/

section
variable {s : State} {p : Position} {r : Record}

theorem State.shiftTunnel_table (s : State) : s.shiftTunnel.table = s.table.shifted s.tunnel.carriesGate := by
  have hexit : s.shiftTunnel.table.exit = (s.table.shifted s.tunnel.carriesGate).exit := by
    unfold State.shiftTunnel Table.shifted
    dsimp only
    cases s.table.tunnel5 <;> rfl
  exact congrArg (fun o => { s.table.shifted s.tunnel.carriesGate with exit := o }) hexit

theorem coveredPositions_nodup (gate : Bool) : (coveredPositions gate).Nodup := by
  cases gate <;> decide

theorem spray_not_mem_coveredPositions (gate : Bool) : .spray ∉ coveredPositions gate := by
  cases gate <;> decide

theorem exit_mem_coveredPositions (gate : Bool) : .exit ∈ coveredPositions gate := by
  cases gate <;> decide

theorem not_mem_coveredPositions {gate : Bool} (h : p ∉ coveredPositions gate) :
    p = .entry ∨ p = .transport ∨ p = .spray ∨ p = .gate ∧ gate = false := by
  revert h
  cases gate <;> cases p <;> decide

/-- An index leaves the places that its sensors do not cover. -/
theorem State.shiftTunnel_get_of_not_covered (h : p ∉ coveredPositions s.tunnel.carriesGate) :
    s.shiftTunnel.table.get p = s.table.get p := by
  rcases not_mem_coveredPositions h with rfl | rfl | rfl | ⟨rfl, hg⟩
  · rfl
  · rfl
  · rfl
  · exact if_neg (by simp [hg])

/-- The cell after the records have moved on, the covered positions are checked and the dwell is loaded (R138, steps 1 to 4). -/
def State.indexed (s : State) : State := s.shiftTunnel.compareCovered.reloadDwell

theorem State.indexed_table (s : State) : s.indexed.table = s.shiftTunnel.compareCovered.table := by
  simp [State.indexed]

theorem State.indexed_get (h : p ∈ coveredPositions s.tunnel.carriesGate) :
    s.indexed.table.get p = s.shiftTunnel.comparedAt p := by
  rw [State.indexed_table]
  exact State.compareFold_get_mem _ (coveredPositions_nodup _) h

theorem State.indexed_get_of_not_covered (h : p ∉ coveredPositions s.tunnel.carriesGate) :
    s.indexed.table.get p = s.table.get p := by
  rw [State.indexed_table]
  exact (State.compareFold_get _ h).trans (State.shiftTunnel_get_of_not_covered h)

/-- The record of slot 5 stands at EXIT after the check, unless it was taken away. -/
theorem State.indexed_exit (h : s.table.tunnel5 = some r) : s.indexed.table.exit = none ∨ s.indexed.table.exit = some r := by
  rw [State.indexed_table]
  refine State.compareCovered_exit ?_
  rw [State.shiftTunnel, h]

/-- An index ends with the judgement of the record that it has placed at EXIT, if it has placed one there. -/
theorem State.endIndex_cases (s : State) : s.endIndex = s.indexed ∧ (s.table.tunnel5 = none ∨ s.indexed.table.exit = none) ∨
    ∃ r, s.table.tunnel5 = some r ∧ s.indexed.table.exit = some r ∧ s.endIndex = s.indexed.placed := by
  show (if s.table.tunnel5.isSome && !s.indexed.isFree .exit then s.indexed.placed else s.indexed) = _ ∧ _ ∨ _
  have hend : s.endIndex = if s.table.tunnel5.isSome && !s.indexed.isFree .exit then s.indexed.placed else s.indexed := rfl
  cases h5 : s.table.tunnel5 with
  | none => exact .inl ⟨by simp, .inl rfl⟩
  | some r =>
    rcases State.indexed_exit h5 with hx | hx
    · exact .inl ⟨by simp [State.isFree, PerPos.get, hx], .inr hx⟩
    · exact .inr ⟨r, rfl, hx, by simp [hend, h5, State.isFree, PerPos.get, hx]⟩

/-! ### The command -/

theorem State.exec_indexDone_of_active (h : s.inputs.indexDone.level = some true) : exec .indexDone s = .next s := by
  show Host.Outcome.next (s.when (s.loaded && s.inputs.indexDone.level != some true) _) = _
  rw [h, bne_self_eq_false, Bool.and_false, State.when_false]

theorem State.exec_indexDone (hl : s.loaded = true) (h : s.inputs.indexDone.level ≠ some true) : exec .indexDone s =
    .next (if s.tunnel.phase = .indexing ∧ s.tunnel.fault = false then s.indexDoneRise.endIndex.settle else s.indexDoneRise) := by
  show Host.Outcome.next (s.when (s.loaded && s.inputs.indexDone.level != some true) _) = _
  rw [hl, Bool.true_and, bne_iff_ne.2 h]
  rfl

end

/-! ## What a judgement at EXIT leaves (R148, R149, R198) -/

section
variable {s : State} {p : Position} {r : Record}

theorem State.atExit_get (f : Record → Record) (h : p ≠ .exit) : (s.atExit f).table.get p = s.table.get p :=
  PerPos.get_put_of_ne s.table h _

theorem State.report_table (s : State) (src : Source) (margin : Int) : (s.report src margin).table = s.table := by
  simp

theorem State.judgeCure_get (h : p ≠ .exit) : s.judgeCure.table.get p = s.table.get p := by
  unfold State.judgeCure
  split
  · rfl
  · split
    · rw [State.report_table, State.atExit_get _ h]
    · rfl

theorem State.appendCoat_get (h : p ≠ .exit) : s.appendCoat.table.get p = s.table.get p := by
  unfold State.appendCoat
  split
  · rfl
  · split
    · exact State.atExit_get _ h
    · rfl

theorem State.auditTest_get (h : p ≠ .exit) : s.auditTest.table.get p = s.table.get p := by
  unfold State.auditTest
  split
  · rfl
  · split
    · exact State.atExit_get _ h
    · rfl

theorem State.setHandoff_get (o : Option Handoff) (h : p ≠ .exit) : (s.setHandoff o).table.get p = s.table.get p :=
  PerPos.get_put_of_ne s.table h _

theorem State.postOffer_get (n : Byte) (h : p ≠ .exit) : (s.postOffer n).table.get p = s.table.get p := by
  unfold State.postOffer
  split
  · rfl
  · split <;> exact State.setHandoff_get _ h

theorem State.exitDecision_get (h : p ≠ .exit) : s.exitDecision.table.get p = s.table.get p := by
  unfold State.exitDecision
  split
  · rfl
  · split
    · exact PerPos.get_put_of_ne s.table h _
    · split
      · exact State.setHandoff_get _ h
      · exact State.postOffer_get _ h

/-- A judgement at EXIT leaves every other place. -/
theorem State.placed_get (h : p ≠ .exit) : s.placed.table.get p = s.table.get p := by
  rw [State.placed, State.exitDecision_get h, State.auditTest_get h, State.appendCoat_get h, State.judgeCure_get h]

theorem State.exitDecision_moves (s : State) : s.exitDecision.tracker.moves = s.tracker.moves := by
  unfold State.exitDecision
  split
  · rfl
  · split
    · rfl
    · split
      · rfl
      · simp [State.becomeOffered]

theorem State.placed_moves (s : State) : s.placed.tracker.moves = s.tracker.moves := by
  rw [State.placed, State.exitDecision_moves]
  simp

/-! ### A record with reasons posts nothing -/

/-- An event whose counters send no NOTICE WATCH leaves the link. -/
theorem State.report_link {src : Source} {margin : Int}
    (h : ∀ i : Fin 4, s.cfg.watch[i].source = src → s.cfg.watch[i].action ≠ .notice) :
    (s.report src margin).link = s.link := by
  refine (State.report_induction (P := fun u => u.cfg = s.cfg ∧ u.link = s.link) (fun u i ⟨hc, hl⟩ => ?_) ⟨rfl, rfl⟩).2
  refine ⟨by simp [hc], ?_⟩
  unfold State.reportTo
  dsimp only
  split
  next hsrc =>
    have hact : u.cfg.watch[i].action ≠ .notice := by
      rw [hc] at hsrc ⊢
      exact h i hsrc
    split
    · unfold State.beginAction
      dsimp only
      split
      · exact hl
      · exact hl
      · exact hl
      · exact absurd ‹_› hact
    · exact hl
  · exact hl

theorem State.judgeCure_link (h : ∀ i : Fin 4, s.cfg.watch[i].source = .cureMargin → s.cfg.watch[i].action ≠ .notice) :
    s.judgeCure.link = s.link := by
  unfold State.judgeCure
  split
  · rfl
  · split
    · exact State.report_link h
    · rfl

/-- The judgement of the cure adds CURE_SHORT or nothing. -/
theorem State.judgeCure_exit (h : s.table.exit = some r) :
    ∃ c : Bool, s.judgeCure.table.exit = some (r.addReasonIf c .cureShort) := by
  unfold State.judgeCure
  split
  · exact ⟨false, h⟩
  next q rc _ =>
    split
    · refine ⟨doseShort r.dose rc, ?_⟩
      rw [State.report_table, State.atExit_exit, h]
      rfl
    · exact ⟨false, h⟩

theorem Record.unclean_addReasonIf (h : r.clean = false) (c : Bool) (x : Reason) : (r.addReasonIf c x).clean = false := by
  rw [Record.clean, beq_eq_false_iff_ne] at h ⊢
  intro hz
  refine h ((reasons_eq_zero_iff _).2 fun y => Bool.eq_false_iff.2 fun hy => ?_)
  have hkept := (Record.hasReason_addReasonIf r c y x).2 (.inl hy)
  rw [hz, hasReason_zero] at hkept
  cases hkept

theorem State.exitSprayed_of_exit (h : s.table.exit = some r) {q : Record} {rc : Recipe} (hs : s.exitSprayed = some (q, rc)) :
    q = r ∧ r.sprayedHere = true ∧ r.bound s.store = some rc := by
  unfold State.exitSprayed at hs
  rw [h] at hs
  dsimp only at hs
  split at hs
  next hsprayed hbound =>
    cases hs
    exact ⟨rfl, hsprayed, hbound⟩
  · cases hs

theorem State.appendCoat_of_unclean (h : s.table.exit = some r) (hr : r.clean = false) : s.appendCoat = s := by
  unfold State.appendCoat
  split
  · rfl
  next q rc hs =>
    obtain ⟨rfl, -⟩ := State.exitSprayed_of_exit h hs
    exact if_neg (by rw [hr]; decide)

theorem State.auditTest_of_unclean (h : s.table.exit = some r) (hr : r.clean = false) : s.auditTest = s := by
  unfold State.auditTest
  rw [h]
  exact if_neg (by simp [hr])

theorem State.exitDecision_of_unclean (h : s.table.exit = some r) (hr : r.clean = false) : s.exitDecision = s.handForDiversion := by
  unfold State.exitDecision
  rw [h]
  exact if_pos (by simp [hr])

theorem State.placed_link_of_unclean (h : s.table.exit = some r) (hr : r.clean = false)
    (hw : ∀ i : Fin 4, s.cfg.watch[i].source = .cureMargin → s.cfg.watch[i].action ≠ .notice) : s.placed.link = s.link := by
  obtain ⟨c, hc⟩ := State.judgeCure_exit h
  have hunclean := Record.unclean_addReasonIf hr c .cureShort
  rw [State.placed, State.appendCoat_of_unclean hc hunclean, State.auditTest_of_unclean hc hunclean,
    State.exitDecision_of_unclean hc hunclean]
  exact State.judgeCure_link hw

end

end Sys2Proof.Machine

end

section

namespace Sys2Proof.Machine

/-! ## What INDEX_DONE makes of the cell (R138) -/

section
variable {s : State} {p : Position} {r : Record}

/-! ### The notices, position by position -/

/-- NOTICE BOARD_REMOVED for the record lost at a position, if one is. -/
def State.tellLifted (gone : Position → Option Record) (t : State) (p : Position) : State :=
  match gone p with
  | none => t
  | some r => t.notice 3 (byteOf (positionBit p) :: (if r.trav.serial.isSome then 1 else 0) ::
      (optWord r.trav.serial ++ be16 r.trav.variant ++ be16 r.trav.lot ++ be24 r.trav.reasons))

theorem State.tellLifted_eq (gone : Position → Option Record) (t : State) (p : Position) :
    State.tellLifted gone t p = { t with link := t.toldLifted (gone p) t.link p } := by
  unfold State.tellLifted State.toldLifted
  cases gone p with
  | none => rfl
  | some r =>
    dsimp only
    rw [← flagByte_singleton, State.notice_removed]

theorem State.tellFold_link (gone : Position → Option Record) (ps : List Position) :
    (ps.foldl (State.tellLifted gone) s).link = ps.foldl (fun l p => s.toldLifted (gone p) l p) s.link := by
  induction ps generalizing s with
  | nil => rfl
  | cons p ps ih =>
    rw [List.foldl_cons, List.foldl_cons, ih, State.tellLifted_eq,
      State.toldLifted_of_cfg (s := s) (t := { s with link := s.toldLifted (gone p) s.link p }) rfl]

/-! ### The cell before the judgement at EXIT -/

/-- What a judgement at EXIT leaves, the end of the index leaves after the check. -/
theorem State.endIndex_of_indexed {β : Type} (g : State → β) (h : ∀ t : State, g t.placed = g t) :
    g s.endIndex = g s.indexed := by
  rcases s.endIndex_cases with ⟨he, -⟩ | ⟨r, -, -, he⟩
  · rw [he]
  · rw [he, h]

theorem State.indexed_tunnel (s : State) : s.indexed.tunnel = { s.tunnel with
    phase := .dwell, dwell := s.cfg.baseDwell, extensionUsed := 0, drive := false, timeout := none, carriesGate := false } := by
  have htunnel : s.shiftTunnel.compareCovered.tunnel = s.tunnel := by simp
  have hcfg : s.shiftTunnel.compareCovered.cfg = s.cfg := by simp
  rw [State.indexed, State.reloadDwell, htunnel, hcfg]

theorem State.indexed_tracker (s : State) : s.indexed.tracker = s.tracker := by
  simp [State.indexed]

theorem State.indexed_store (s : State) : s.indexed.store = s.shiftTunnel.compareCovered.store := by
  simp [State.indexed]

theorem State.indexed_link (hh : ∀ p ∈ coveredPositions s.tunnel.carriesGate, ∀ r, s.shiftTunnel.lifts p = some r →
      r.handoff = none) : s.indexed.link =
    (coveredPositions s.tunnel.carriesGate).foldl (fun l p => s.toldLifted (s.shiftTunnel.lifts p) l p) s.link := by
  have hlink : s.indexed.link = s.shiftTunnel.compareCovered.link := by simp [State.indexed]
  rw [hlink, ← State.toldLifted_of_cfg (s := s) (t := s.shiftTunnel) rfl]
  exact State.compareFold_link _ (coveredPositions_nodup _) (spray_not_mem_coveredPositions _) hh

/-! ### The record at EXIT -/

theorem Table.shifted_exit {t : Table} {gate : Bool} (h : t.tunnel5 = some r) : (t.shifted gate).exit = some r := by
  rw [Table.shifted, h]
  rfl

/-- With no record at EXIT after the move, none is judged there. -/
theorem State.endIndex_of_exit_free (h : (s.table.shifted s.tunnel.carriesGate).exit = none) : s.endIndex = s.indexed := by
  rcases s.endIndex_cases with ⟨he, -⟩ | ⟨r, h5, -⟩
  · exact he
  · cases h.symm.trans (Table.shifted_exit h5)

theorem State.endIndex_exit_of_free (h : (s.table.shifted s.tunnel.carriesGate).exit = none) :
    s.endIndex.table.exit = if s.occupied .exit then some (strandedAt .exit) else none := by
  rw [State.endIndex_of_exit_free h]
  refine (State.indexed_get (p := .exit) (exit_mem_coveredPositions _)).trans ?_
  have hfree : s.shiftTunnel.table.get .exit = none := (congrArg PerPos.exit s.shiftTunnel_table).trans h
  have hinputs : s.shiftTunnel.inputs = s.inputs := rfl
  rw [State.comparedAt, hfree, hinputs, State.occupied]
  rcases (s.inputs.pos.get .exit).level with - | - | - <;> rfl

/-- A record that the sensor at EXIT does not confirm is taken away, and not judged. -/
theorem State.indexed_exit_lost (h : (s.table.shifted s.tunnel.carriesGate).exit.isSome = true) (he : s.sensorEmpty .exit = true) :
    s.indexed.table.exit = none := by
  obtain ⟨r, hr⟩ := Option.isSome_iff_exists.1 h
  have hplaced : s.shiftTunnel.table.get .exit = some r := (congrArg PerPos.exit s.shiftTunnel_table).trans hr
  have hlevel : (s.shiftTunnel.inputs.pos.get .exit).level = some false := beq_iff_eq.1 he
  refine (State.indexed_get (p := .exit) (exit_mem_coveredPositions _)).trans ?_
  rw [State.comparedAt, hplaced, hlevel]

theorem State.endIndex_of_exit_lost (h : (s.table.shifted s.tunnel.carriesGate).exit.isSome = true)
    (he : s.sensorEmpty .exit = true) : s.endIndex = s.indexed := by
  rcases s.endIndex_cases with ⟨hend, -⟩ | ⟨r, -, hx, -⟩
  · exact hend
  · cases (State.indexed_exit_lost h he).symm.trans hx

/-- The end of an index posts what the check posts, where it judges no record, or one with reasons that no counter tells of. -/
theorem State.endIndex_link (h : s.table.tunnel5 = none ∨ s.sensorEmpty .exit = true ∨ ∃ r, s.table.tunnel5 = some r ∧
      r.trav.reasons ≠ 0 ∧ ∀ i : Fin 4, s.cfg.watch[i].source = .cureMargin → s.cfg.watch[i].action ≠ .notice) :
    s.endIndex.link = s.indexed.link := by
  rcases s.endIndex_cases with ⟨he, -⟩ | ⟨r, h5, hx, he⟩
  · rw [he]
  · rw [he]
    rcases h with h | h | ⟨q, hq, hreasons, hwatch⟩
    · cases h.symm.trans h5
    · cases (State.indexed_exit_lost (Option.isSome_of_mem (Table.shifted_exit h5)) h).symm.trans hx
    · cases h5.symm.trans hq
      have hcfg : s.indexed.cfg = s.cfg := by simp [State.indexed]
      exact State.placed_link_of_unclean hx (beq_eq_false_iff_ne.2 hreasons) (by rwa [hcfg])

/-! ### The places inside the tunnel -/

theorem State.endIndex_get_of_not_covered (h : p ∉ coveredPositions s.tunnel.carriesGate) :
    s.endIndex.table.get p = s.table.get p := by
  have hp : p ≠ .exit := fun hp => h (hp ▸ exit_mem_coveredPositions _)
  rw [State.endIndex_of_indexed (fun t => t.table.get p) fun t => State.placed_get hp, State.indexed_get_of_not_covered h]

theorem State.endIndex_get_of_covered (h : p ∈ coveredPositions s.tunnel.carriesGate) (hp : p ≠ .exit) :
    s.endIndex.table.get p = s.shiftTunnel.comparedAt p := by
  rw [State.endIndex_of_indexed (fun t => t.table.get p) fun t => State.placed_get hp, State.indexed_get h]

theorem strandedAt_of_ne (hp : p ≠ .exit) : strandedAt p = Record.strandedRecord := by
  rw [strandedAt, if_neg hp]
  rfl

/-! ### The store -/

theorem State.endIndex_store (s : State) : s.endIndex.store = s.indexed.store := s.endIndex_of_indexed (·.store) (by simp)

theorem State.endIndex_records (s : State) (i : Fin 12) : s.store.records[i].HandedBack s.endIndex.store.records[i]
    (s.shiftTunnel.Loses (coveredPositions s.tunnel.carriesGate) i)
    (∃ p r, s.endIndex.table.get p = some r ∧ r.recipe = some i) := by
  have hbinds : (∃ p r, s.endIndex.table.get p = some r ∧ r.recipe = some i) ↔ s.shiftTunnel.compareCovered.Binds i := by
    have hrecipes : recipesOf s.endIndex.table = recipesOf s.shiftTunnel.compareCovered.table := by
      rw [State.endIndex_of_indexed (fun t => recipesOf t.table) (by simp), State.indexed_table]
    rw [State.Binds, ← hrecipes]
    exact exists_congr fun p => get_recipesOf_eq_some.symm
  rw [State.endIndex_store, State.indexed_store]
  exact (State.compareFold_records (s := s.shiftTunnel) _ (coveredPositions_nodup _) (spray_not_mem_coveredPositions _) i).congr
    .rfl hbinds

end

/-- Settles O43: the index shifts the records, the check goes position by position, and the judgement at EXIT leaves the rest. -/
theorem indexDoneMovesRecords : Obligations.IndexDoneMovesRecords := by
  intro s hl taken
  refine ⟨State.exec_indexDone_of_active, fun hd hn => ?_, fun hd hphase hfault => ?_⟩
  · rw [State.exec_indexDone hl hd, if_neg (not_and_or.2 (hn.imp_right fun h => by simp [h]))]
    rfl
  intro moved gone told
  have hmoved : taken.shiftTunnel.table = moved := taken.shiftTunnel_table
  have hgone (p : Position) : taken.shiftTunnel.lifts p = gone p := by
    rw [State.lifts, hmoved]
    rfl
  have hstore : taken.endIndex.store = { s.store with records := taken.endIndex.store.records } := by
    rw [State.endIndex_store, State.indexed_store]
    exact State.compareFold_store (s := taken.shiftTunnel) _ (spray_not_mem_coveredPositions _)
  refine ⟨taken.endIndex, ?_, ?_, ?_, by simp, by simp [taken], by simp [taken], by simp [State.fixed, taken],
    fun p hp => State.endIndex_get_of_not_covered (s := taken) hp, fun p hp hx => ?_, fun hsome he => ?_, fun hnone ho => ?_,
    fun hnone ho => ?_, fun hh h => ?_, hstore, fun i => ?_⟩
  · rw [State.exec_indexDone hl hd, if_pos ⟨hphase, hfault⟩]
    rfl
  · rw [taken.endIndex_of_indexed (·.tunnel) (by simp), State.indexed_tunnel]
  · rw [taken.endIndex_of_indexed (·.tracker.moves) State.placed_moves, State.indexed_tracker]
  · rw [State.endIndex_get_of_covered (s := taken) hp hx, State.comparedAt, hmoved, strandedAt_of_ne hx]
    rfl
  · rw [State.endIndex_of_exit_lost (s := taken) hsome he, State.indexed_exit_lost (s := taken) hsome he]
  · exact (State.endIndex_exit_of_free (s := taken) hnone).trans (if_pos ho)
  · exact (State.endIndex_exit_of_free (s := taken) hnone).trans (if_neg (Bool.not_eq_true _ ▸ ho))
  · rw [State.endIndex_link (s := taken) h, State.indexed_link (s := taken) fun p hp r hr => hh p hp r (hgone p ▸ hr),
      State.toldLifted_of_cfg (s := s) (t := taken) rfl]
    simp only [hgone]
    exact (State.tellFold_link (s := s) gone _).symm
  · have hlost : (∃ p ∈ coveredPositions s.tunnel.carriesGate, ∃ r, gone p = some r ∧ r.recipe = some i) ↔
        taken.shiftTunnel.Loses (coveredPositions s.tunnel.carriesGate) i := by
      simp only [State.Loses, hgone]
    exact (taken.endIndex_records i).congr hlost .rfl

end Sys2Proof.Machine

end

section

namespace Sys2Proof.Machine

/-! ## The record placed at EXIT (R148, R149, R198, R29) -/

section
variable {s : State} {r : Record} {rc : Recipe}

/-! ### The judgement of its cure -/

/-- A record as the judgements of its cure leave it: its reasons, steps and coat results. -/
def Record.judgedAs (r : Record) (reasons : Reasons) (steps : Steps) (results : List CoatResult) : Record :=
  { r with trav := { r.trav with reasons := reasons, stepsDone := steps, results := results } }

theorem State.exitSprayed_of_sprayed (h : s.table.exit = some r) (hs : r.sprayedHere = true) (hb : r.bound s.store = some rc) :
    s.exitSprayed = some (r, rc) := by
  rw [State.exitSprayed, h]
  simp only [hs, hb]

theorem State.exitSprayed_of_other (h : s.table.exit = some r) (hn : r.sprayedHere = false ∨ r.bound s.store = none) :
    s.exitSprayed = none := by
  rw [Option.eq_none_iff_forall_ne_some]
  rintro ⟨q, rc⟩ hs
  obtain ⟨rfl, hsprayed, hbound⟩ := State.exitSprayed_of_exit h hs
  rcases hn with hn | hn
  · cases hn.symm.trans hsprayed
  · cases hn.symm.trans hbound

theorem State.judgeCure_of_sprayed (h : s.table.exit = some r) (hs : r.sprayedHere = true) (hb : r.bound s.store = some rc)
    (hc : s.cell = .run ∨ s.cell = .stopped) : s.judgeCure =
      (s.putRecord .exit (r.addReasonIf (doseShort r.dose rc) .cureShort)).report .cureMargin (cureMargin r.dose rc) := by
  rw [State.judgeCure, State.exitSprayed_of_sprayed h hs hb]
  dsimp only
  rw [if_pos hc, State.atExit, h]
  rfl

theorem State.judgeCure_of_other (h : s.exitSprayed = none) : s.judgeCure = s := by
  rw [State.judgeCure, h]

theorem State.appendCoat_of_other (h : s.exitSprayed = none) : s.appendCoat = s := by
  rw [State.appendCoat, h]

theorem State.appendCoat_of_sprayed (h : s.table.exit = some r) (hs : r.sprayedHere = true) (hb : r.bound s.store = some rc) :
    s.appendCoat.table.exit = some (if r.clean then r.withCoat s.cfg.station rc else r) := by
  rw [State.appendCoat, State.exitSprayed_of_sprayed h hs hb]
  dsimp only
  split
  · rw [State.atExit_exit, h]
    rfl
  · exact h

/-- The cure margin of the watch counters (R163). -/
theorem cureMargin_eq (dose : Nat) (rc : Recipe) :
    cureMargin dose rc = max (-65535) (min 65535 (((dose / 256 : Nat) : Int) - rc.cureMin)) := by
  unfold cureMargin clampInt
  omega

/-- What the judgements of its cure make of a record and of the counters. -/
def State.JudgedTo (s : State) (r : Record) (watch : Vector WatchCounter 4) (reasons : Reasons) (steps : Steps)
    (results : List CoatResult) : Prop :=
  r.sprayedHere = false ∧ watch = s.watch ∧ reasons = r.trav.reasons ∧ steps = r.trav.stepsDone ∧ results = r.trav.results ∨
    ∃ rc, r.sprayedHere = true ∧ r.bound s.store = some rc ∧
      watch = (s.report .cureMargin (max (-65535) (min 65535 (((r.dose / 256 : Nat) : Int) - rc.cureMin)))).watch ∧
      reasons = (if r.dose < rc.cureMin * 256 then addReason r.trav.reasons .cureShort else r.trav.reasons) ∧
      steps = (if reasons = 0 then addStep r.trav.stepsDone rc.step else r.trav.stepsDone) ∧
      results = if reasons = 0 ∧ r.trav.results.length < 4 then r.trav.results ++ [{
          step := byteOf rc.step
          cell := s.cfg.station
          filmMin := BitVec.ofNat 16 ((r.film.map (·.min)).getD 0)
          filmMax := BitVec.ofNat 16 ((r.film.map (·.max)).getD 0)
          dose := BitVec.ofNat 16 (r.dose / 256) }] else r.trav.results

/-- A judged record gains its coat result where it has no reason, and its list has room (R149). -/
theorem Record.withCoat_judged (r : Record) (b : Byte) (rc : Recipe) (reasons : Reasons) :
    (if (r.judgedAs reasons r.trav.stepsDone r.trav.results).clean then
        (r.judgedAs reasons r.trav.stepsDone r.trav.results).withCoat b rc
      else r.judgedAs reasons r.trav.stepsDone r.trav.results) =
      r.judgedAs reasons (if reasons = 0 then addStep r.trav.stepsDone rc.step else r.trav.stepsDone)
        (if reasons = 0 ∧ r.trav.results.length < 4 then r.trav.results ++ [coatResultOf b r rc] else r.trav.results) := by
  by_cases h : reasons = 0
  · simp only [h, true_and, if_true]
    rfl
  · have hclean : (r.judgedAs reasons r.trav.stepsDone r.trav.results).clean = false := beq_eq_false_iff_ne.2 h
    simp only [hclean, h, false_and, if_false, Bool.false_eq_true]

/-- A cured record short of its minimum gains CURE_SHORT (R148). -/
theorem Record.addReasonIf_short (r : Record) (rc : Recipe) : r.addReasonIf (doseShort r.dose rc) .cureShort = r.judgedAs
    (if r.dose < rc.cureMin * 256 then Machine.addReason r.trav.reasons .cureShort else r.trav.reasons)
    r.trav.stepsDone r.trav.results := by
  unfold Record.addReasonIf doseShort
  by_cases hshort : r.dose < rc.cureMin * 256
  · rw [if_pos (decide_eq_true hshort), if_pos hshort]
    rfl
  · rw [if_neg (by simpa using hshort), if_neg hshort]
    rfl

theorem State.judged_exit (h : s.table.exit = some r) (hc : s.cell = .run ∨ s.cell = .stopped)
    {watch : Vector WatchCounter 4} {reasons : Reasons} {steps : Steps} {results : List CoatResult}
    (hj : s.JudgedTo r watch reasons steps results) :
    s.judgeCure.appendCoat.watch = watch ∧ s.judgeCure.appendCoat.table.exit = some (r.judgedAs reasons steps results) := by
  rcases hj with ⟨hs, hwatch, hreasons, hsteps, hresults⟩ | ⟨rc, hs, hb, hwatch, hreasons, hsteps, hresults⟩
  · have hother := State.exitSprayed_of_other h (.inl hs)
    rw [State.judgeCure_of_other hother, State.appendCoat_of_other hother, hreasons, hsteps, hresults]
    exact ⟨hwatch.symm, h⟩
  · have hjudge := State.judgeCure_of_sprayed h hs hb hc
    rw [Record.addReasonIf_short, ← hreasons] at hjudge
    have hexit : s.judgeCure.table.exit = some (r.judgedAs reasons r.trav.stepsDone r.trav.results) := by
      rw [hjudge, State.report_table]
      rfl
    have hstore : s.judgeCure.store = s.store := by simp
    have hcfg : s.judgeCure.cfg = s.cfg := by simp
    have hcoat := State.appendCoat_of_sprayed (s := s.judgeCure) (rc := rc) hexit hs (by rw [hstore]; exact hb)
    refine ⟨?_, ?_⟩
    · have hcoated : s.judgeCure.appendCoat.watch = s.judgeCure.watch := by simp
      rw [hcoated, hjudge, hwatch, ← cureMargin_eq]
      exact State.report_watch s (s.putRecord .exit _) rfl rfl .cureMargin (cureMargin r.dose rc)
    · rw [hcoat, Record.withCoat_judged, hcfg, hsteps, hresults]
      rfl

/-- The judgements come to one outcome, also for a record sprayed here that no recipe is bound to. -/
theorem State.judged_exists (h : s.table.exit = some r) (hc : s.cell = .run ∨ s.cell = .stopped) :
    ∃ reasons steps results, s.judgeCure.appendCoat.table.exit = some (r.judgedAs reasons steps results) := by
  cases hs : r.sprayedHere with
  | false => exact ⟨_, _, _, (State.judged_exit h hc (.inl ⟨hs, rfl, rfl, rfl, rfl⟩)).2⟩
  | true =>
    cases hb : r.bound s.store with
    | some rc => exact ⟨_, _, _, (State.judged_exit h hc (.inr ⟨rc, hs, hb, rfl, rfl, rfl, rfl⟩)).2⟩
    | none =>
      have hother := State.exitSprayed_of_other h (.inr hb)
      rw [State.judgeCure_of_other hother, State.appendCoat_of_other hother]
      exact ⟨r.trav.reasons, r.trav.stepsDone, r.trav.results, h⟩

/-! ### The audit sample -/

/-- The record is clean while a counter is armed for AUDIT. -/
def State.Samples (s : State) (r : Record) : Prop :=
  r.trav.reasons = 0 ∧ ∃ i : Fin 4, s.watch[i].armed = true ∧ s.cfg.watch[i].action = .audit

theorem State.samples_iff : (r.clean && [0, 1, 2, 3].any (s.armedFor .audit)) = true ↔ s.Samples r := by
  simp only [Record.clean, State.armedFor, Bool.and_eq_true, beq_iff_eq, List.any_eq_true, State.Samples]
  refine and_congr_right fun _ => exists_congr fun i => and_iff_right ?_
  revert i
  decide

theorem State.getLsbD_snapshot (s : State) (i : Fin 4) : s.snapshot.getLsbD i.val = s.watch[i].flag := by
  have hi : i.val < 4 := i.isLt
  rw [State.snapshot, BitVec.getLsbD_setWidth, getLsbD_flagByte _ (by omega)]
  simp [State.watchFlags, hi]

theorem State.completeAction_table (s : State) (a : WatchAction) : (s.completeAction a).table = s.table := by
  simp

theorem State.auditTest_of_samples (h : s.table.exit = some r) (hs : s.Samples r) :
    s.auditTest.table.exit = some { r with trav := { r.trav with reasons := reasonBit .auditSample, snapshot := some s.snapshot } } ∧
      ∀ i : Fin 4, s.auditTest.watch[i] = if s.watch[i].armed = true ∧ s.cfg.watch[i].action = .audit then
        { s.watch[i] with count := s.cfg.watch[i].reload, flag := false, armed := false } else s.watch[i] := by
  have hreason : addReason r.trav.reasons .auditSample = reasonBit .auditSample := by
    rw [addReason, hs.1]
    exact BitVec.zero_or
  have haudit : s.auditTest = (s.atExit fun x =>
      { x with trav := { x.trav with snapshot := some s.snapshot } }.addReason .auditSample).completeAction .audit := by
    rw [State.auditTest, h]
    exact if_pos (State.samples_iff.2 hs)
  rw [haudit]
  refine ⟨?_, fun i => State.completeAction_watch _ _ i⟩
  rw [State.completeAction_table, State.atExit_exit, h]
  exact congrArg (fun x => some { r with trav := { r.trav with reasons := x, snapshot := some s.snapshot } }) hreason

theorem State.auditTest_of_no_sample (h : s.table.exit = some r) (hs : ¬ s.Samples r) : s.auditTest = s := by
  rw [State.auditTest, h]
  exact if_neg (mt State.samples_iff.1 hs)

theorem State.auditTest_exit (h : s.table.exit = some r) : ∃ reasons snapshot,
    s.auditTest.table.exit = some { r with trav := { r.trav with reasons := reasons, snapshot := snapshot } } ∧
      (s.Samples r → reasons = reasonBit .auditSample ∧ snapshot = some s.snapshot ∧
        ∀ i : Fin 4, s.auditTest.watch[i] = if s.watch[i].armed = true ∧ s.cfg.watch[i].action = .audit then
          { s.watch[i] with count := s.cfg.watch[i].reload, flag := false, armed := false } else s.watch[i]) ∧
      (¬ s.Samples r → reasons = r.trav.reasons ∧ snapshot = r.trav.snapshot ∧ s.auditTest.watch = s.watch) := by
  by_cases hs : s.Samples r
  · obtain ⟨hexit, hwatch⟩ := State.auditTest_of_samples h hs
    exact ⟨_, _, hexit, fun _ => ⟨rfl, rfl, hwatch⟩, fun hn => absurd hs hn⟩
  · rw [State.auditTest_of_no_sample h hs]
    exact ⟨r.trav.reasons, r.trav.snapshot, h, fun hy => absurd hy hs, fun _ => ⟨rfl, rfl, rfl⟩⟩

/-! ### The exit decision -/

theorem State.exitDecision_diverts (h : s.table.exit = some r) (hr : r.trav.reasons ≠ 0) :
    s.exitDecision.table.exit = some { r with handoff := none, diversion := some .waitingRack } := by
  rw [State.exitDecision_of_unclean h (beq_eq_false_iff_ne.2 hr), State.handForDiversion]
  simp [h]

theorem State.exitDecision_releases (h : s.table.exit = some r) (hr : r.trav.reasons = 0) (hd : s.cfg.downstream = 0) :
    s.exitDecision.table.exit = some { r with handoff := some (.transferring none false true none) } := by
  have hclean : r.clean = true := beq_iff_eq.2 hr
  rw [State.exitDecision, h]
  simp [hclean, hd, h]

theorem State.exitDecision_offers (h : s.table.exit = some r) (hr : r.trav.reasons = 0) (hd : s.cfg.downstream ≠ 0) :
    s.exitDecision = s.becomeOffered := by
  have hclean : r.clean = true := beq_iff_eq.2 hr
  rw [State.exitDecision, h]
  dsimp only
  rw [if_neg (by simp [hclean]), if_neg hd]

theorem State.becomeOffered_exit (h : s.table.exit = some r) : s.becomeOffered.table.exit =
    some { r with handoff := some (.offered (s.tracker.handoffCounter + 1) (if s.cell = .stopped then .due else .posting)) } := by
  unfold State.becomeOffered State.postOffer State.isStopped
  dsimp only
  rw [h]
  by_cases hc : s.cell = .stopped <;> simp [hc, h]

theorem State.becomeOffered_counter (s : State) : s.becomeOffered.tracker.handoffCounter = s.tracker.handoffCounter + 1 := by
  simp [State.becomeOffered]

theorem State.becomeOffered_posted (h : s.table.exit = some r) (hc : s.cell = .run) :
    s.becomeOffered.posted s.cfg.downstream kindOffer (offerPayload (s.tracker.handoffCounter + 1) r.trav) := by
  have hpost : s.becomeOffered.link = s.link.post
      (s.telegram s.cfg.downstream kindOffer (offerPayload (s.tracker.handoffCounter + 1) r.trav)) := by
    unfold State.becomeOffered State.postOffer State.isStopped
    dsimp only
    rw [h]
    simp only [hc]
    rfl
  refine ⟨s.telegram s.cfg.downstream kindOffer (offerPayload (s.tracker.handoffCounter + 1) r.trav), ?_, ?_⟩
  · rw [hpost]
    exact Link.mem_post (show classOf kindOffer ≠ 2 by decide)
  · simp [State.telegram]

/-- The exit decision (R29, R34): a record with reasons waits for the rack; a clean one goes into the line end, or is offered. -/
theorem State.exitDecision_exit (h : s.table.exit = some r) : ∃ handoff diversion,
    s.exitDecision.table.exit = some { r with handoff := handoff, diversion := diversion } ∧
      (r.trav.reasons ≠ 0 → diversion = some .waitingRack ∧ handoff = none) ∧
      (r.trav.reasons = 0 → s.cfg.downstream = 0 → handoff = some (.transferring none false true none)) ∧
      (r.trav.reasons = 0 → s.cfg.downstream ≠ 0 →
        s.exitDecision.tracker.handoffCounter = s.tracker.handoffCounter + 1 ∧
        handoff = some (.offered (s.tracker.handoffCounter + 1) (if s.cell = .stopped then .due else .posting)) ∧
        (s.cell = .run →
          s.exitDecision.posted s.cfg.downstream kindOffer (offerPayload (s.tracker.handoffCounter + 1) r.trav))) := by
  by_cases hr : r.trav.reasons = 0
  · by_cases hd : s.cfg.downstream = 0
    · exact ⟨_, _, State.exitDecision_releases h hr hd, fun hn => absurd hr hn, fun _ _ => rfl, fun _ hn => absurd hd hn⟩
    · rw [State.exitDecision_offers h hr hd]
      exact ⟨_, _, State.becomeOffered_exit h, fun hn => absurd hr hn, fun _ hn => absurd hn hd,
        fun _ _ => ⟨s.becomeOffered_counter, rfl, State.becomeOffered_posted h⟩⟩
  · exact ⟨_, _, State.exitDecision_diverts h hr, fun _ => ⟨rfl, rfl⟩, fun hz => absurd hz hr, fun hz => absurd hz hr⟩

/-! ### The index that places it -/

/-- Every covered sensor agrees with the table as the index leaves it (R16). -/
def State.Agrees (s : State) : Prop := ∀ p ∈ coveredPositions s.tunnel.carriesGate,
  ((s.table.shifted s.tunnel.carriesGate).get p = none → s.occupied p = false) ∧
    ((s.table.shifted s.tunnel.carriesGate).get p ≠ none → s.sensorEmpty p = false)

/-- With every sensor agreeing, the check changes nothing. -/
theorem State.indexed_of_agrees (h : s.Agrees) : s.indexed = s.shiftTunnel.reloadDwell := by
  have hcheck : s.shiftTunnel.compareCovered = s.shiftTunnel := State.compareFold_of_agrees _ fun p hp => by
    obtain ⟨hfree, hheld⟩ := h p hp
    rw [← s.shiftTunnel_table] at hfree hheld
    exact State.comparePosition_of_agrees hfree hheld
  rw [State.indexed, hcheck]

theorem State.shiftTunnel_exit (h : s.table.tunnel5 = some r) : s.shiftTunnel.reloadDwell.table.exit = some r :=
  (congrArg PerPos.exit s.shiftTunnel_table).trans (Table.shifted_exit h)

theorem State.endIndex_of_agrees (h : s.Agrees) (h5 : s.table.tunnel5 = some r) :
    s.endIndex = s.shiftTunnel.reloadDwell.placed := by
  rw [← State.indexed_of_agrees h]
  rcases s.endIndex_cases with ⟨-, hn | hn⟩ | ⟨q, -, -, he⟩
  · cases hn.symm.trans h5
  · rw [State.indexed_of_agrees h] at hn
    cases hn.symm.trans (State.shiftTunnel_exit h5)
  · exact he

/-- The outcome of the judgements rests on the counters, the configuration and the store. -/
theorem State.JudgedTo.of_same {t : State} {watch : Vector WatchCounter 4} {reasons : Reasons} {steps : Steps}
    {results : List CoatResult} (hw : t.watch = s.watch) (hc : t.cfg = s.cfg) (hs : t.store = s.store)
    (h : s.JudgedTo r watch reasons steps results) : t.JudgedTo r watch reasons steps results := by
  unfold State.JudgedTo at h ⊢
  simp only [State.report_watch s t hw hc]
  rwa [hw, hc, hs]

end

/-- Settles O44: the judgements, the audit sample and the exit decision one after the other, on the record that the index places. -/
theorem recordJudgedAtExit : Obligations.RecordJudgedAtExit := by
  intro s r hl hd hphase hfault h5 hcell hagrees
  have hend : s.indexDoneRise.endIndex = _ := State.endIndex_of_agrees (s := s.indexDoneRise) hagrees h5
  have hplaced := State.shiftTunnel_exit (s := s.indexDoneRise) h5
  generalize hi : s.indexDoneRise.shiftTunnel.reloadDwell = i at hend hplaced
  obtain ⟨hicell, hicfg, hitracker, histore, hiwatch⟩ : i.cell = s.cell ∧ i.cfg = s.cfg ∧ i.tracker = s.tracker ∧
      i.store = s.store ∧ i.watch = s.watch := by
    rw [← hi]
    exact ⟨rfl, rfl, rfl, rfl, rfl⟩
  have hcell' : i.cell = .run ∨ i.cell = .stopped := by rwa [hicell]
  obtain ⟨reasons₀, steps₀, results₀, hjudged⟩ := State.judged_exists hplaced hcell'
  obtain ⟨reasons, snapshot, haudit, hsampled, hunsampled⟩ := State.auditTest_exit hjudged
  obtain ⟨handoff, diversion, hexit, hrack, hline, hoffer⟩ := State.exitDecision_exit haudit
  have hwatch : i.placed.watch = i.judgeCure.appendCoat.auditTest.watch := by simp [State.placed]
  have hcfg : i.judgeCure.appendCoat.auditTest.cfg = s.cfg := by simp [hicfg]
  have hjcfg : i.judgeCure.appendCoat.cfg = s.cfg := by simp [hicfg]
  have htracker : i.judgeCure.appendCoat.auditTest.tracker = s.tracker := by simp [hitracker]
  have hacell : i.judgeCure.appendCoat.auditTest.cell = s.cell := by simp [hicell]
  rw [hcfg, htracker, hacell] at hoffer
  rw [hcfg] at hline
  refine ⟨i.placed, _, ?_, hexit, rfl, rfl, rfl, rfl, rfl, rfl, rfl, fun watch reasons' steps results hj => ?_,
    hrack, hline, hoffer⟩
  · rw [State.exec_indexDone hl hd, if_pos ⟨hphase, hfault⟩, hend]
  · have hj' : i.JudgedTo r watch reasons' steps results := State.JudgedTo.of_same hiwatch hicfg histore hj
    obtain ⟨hw, hx⟩ := State.judged_exit hplaced hcell' hj'
    have hsame := Option.some.inj (hjudged.symm.trans hx)
    obtain rfl : reasons₀ = reasons' := congrArg (·.trav.reasons) hsame
    obtain rfl : steps₀ = steps := congrArg (·.trav.stepsDone) hsame
    obtain rfl : results₀ = results := congrArg (·.trav.results) hsame
    have hsnapshot := i.judgeCure.appendCoat.getLsbD_snapshot
    simp only [State.Samples, hw, hjcfg] at hsampled hunsampled hsnapshot
    refine ⟨rfl, rfl, fun hs => ?_, fun hn => ?_⟩
    · obtain ⟨hr, hshot, hcounters⟩ := hsampled hs
      exact ⟨hr, ⟨_, hshot, hsnapshot⟩, fun k => by rw [hwatch]; exact hcounters k⟩
    · obtain ⟨hr, hshot, hcounters⟩ := hunsampled hn
      exact ⟨hr, hshot, hwatch.trans hcounters⟩

end Sys2Proof.Machine

end

section

namespace Sys2Proof.Machine

/-! ## The weight of a cure tick (R154 to R159) -/

/-! ### The factor table (R158) -/

theorem doseFactor_of_getElem? {r f : Nat}
    (h : [256, 274, 294, 315, 338, 362, 388, 416, 446, 478][r]? = some f) : doseFactor r = f := by
  rw [doseFactor, List.getD_eq_getElem?_getD, h, Option.getD_some]

theorem doseFactor_mono {r r' : Nat} (h : r ≤ r') (h' : r' < 10) : doseFactor r ≤ doseFactor r' := by
  have table : ∀ j < 10, ∀ i ≤ j, doseFactor i ≤ doseFactor j := by decide
  exact table r' h' r h

theorem le_doseFactor {r : Nat} (h : r < 10) : 256 ≤ doseFactor r := doseFactor_mono r.zero_le h

/-- Each factor stays below the first of the next decade. -/
theorem doseFactor_lt {r : Nat} (h : r < 10) : doseFactor r < 512 :=
  (doseFactor_mono (Nat.le_of_lt_succ h) (by decide)).trans_lt (by decide : doseFactor 9 < 512)

/-! ### The scale by decades (R157, R159) -/

theorem scaleWeight_decade {r : Nat} (q : Int) (h : r < 10) : scaleWeight (10 * q + r) =
    if 0 ≤ q then doseFactor r * 2 ^ q.toNat else if -8 ≤ q then doseFactor r / 2 ^ (-q).toNat else 0 := by
  have hq : (10 * q + r) / 10 = q := by omega
  have hr : ((10 * q + r) % 10).toNat = r := by omega
  rw [scaleWeight, hq, hr]

theorem scaleWeight_up {r : Nat} (n : Nat) (h : r < 10) : scaleWeight (10 * n + r) = doseFactor r * 2 ^ n := by
  rw [scaleWeight_decade n h, if_pos n.cast_nonneg, Int.toNat_natCast]

theorem scaleWeight_down {r n : Nat} (h : r < 10) (h1 : 1 ≤ n) (h8 : n ≤ 8) :
    scaleWeight (10 * -(n : Int) + r) = doseFactor r / 2 ^ n := by
  rw [scaleWeight_decade _ h, if_neg (by omega), if_pos (by omega), neg_neg, Int.toNat_natCast]

theorem scaleWeight_floor {q : Int} {r : Nat} (h : r < 10) (hq : q < -8) : scaleWeight (10 * q + r) = 0 := by
  rw [scaleWeight_decade q h, if_neg (by omega), if_neg (by omega)]

/-- Counted from the lowest decade that gives a weight, both scalings are one: up by 2 to the decade, then down by 2 ^ 8. -/
theorem scaleWeight_shift {r : Nat} (m : Nat) (h : r < 10) :
    scaleWeight (10 * (m - 8) + r) = doseFactor r * 2 ^ m / 2 ^ 8 := by
  rcases Nat.lt_or_ge m 8 with hm | hm
  · obtain ⟨n, hn⟩ := Nat.exists_eq_add_of_le hm.le
    have hq : (m : Int) - 8 = -(n : Int) := by omega
    rw [hq, scaleWeight_down h (by omega) (by omega), hn, pow_add, mul_comm (2 ^ m),
      Nat.mul_div_mul_right _ _ (by positivity)]
  · obtain ⟨n, rfl⟩ := Nat.exists_eq_add_of_le hm
    have hq : ((8 + n : Nat) : Int) - 8 = n := by omega
    rw [hq, scaleWeight_up n h, pow_add, mul_left_comm, Nat.mul_div_cancel_left _ (by positivity)]

/-- The factor times the power of its decade rises with the decade, whatever the rest. -/
theorem doseFactor_pow_mono {r r' m m' : Nat} (hr : r < 10) (hr' : r' < 10) (h : m < m' ∨ m = m' ∧ r ≤ r') :
    doseFactor r * 2 ^ m ≤ doseFactor r' * 2 ^ m' := by
  rcases h with hm | ⟨rfl, hle⟩
  · calc doseFactor r * 2 ^ m ≤ 512 * 2 ^ m := Nat.mul_le_mul_right _ (doseFactor_lt hr).le
      _ = 256 * 2 ^ (m + 1) := by rw [pow_succ]; omega
      _ ≤ doseFactor r' * 2 ^ m' := Nat.mul_le_mul (le_doseFactor hr') (Nat.pow_le_pow_right (by decide) hm)
  · exact Nat.mul_le_mul_right _ (doseFactor_mono hle hr')

/-- The degrees lie below the q floor, or at a decade counted from it and a rest. -/
theorem decade_cases (d : Int) : (∃ (q : Int) (r : Nat), d = 10 * q + r ∧ r < 10 ∧ q < -8) ∨
    ∃ m r : Nat, d = 10 * (m - 8) + r ∧ r < 10 := by
  rcases lt_or_ge (d / 10) (-8) with hq | hq
  · exact .inl ⟨d / 10, (d % 10).toNat, by omega, by omega, hq⟩
  · exact .inr ⟨(d / 10 + 8).toNat, (d % 10).toNat, by omega, by omega⟩

theorem scaleWeight_mono : Monotone scaleWeight := by
  intro d e hde
  rcases decade_cases d with ⟨q, r, rfl, hr, hq⟩ | ⟨m, r, rfl, hr⟩
  · rw [scaleWeight_floor hr hq]
    exact Nat.zero_le _
  · obtain ⟨m', r', rfl, hr'⟩ : ∃ m' r' : Nat, e = 10 * (m' - 8) + r' ∧ r' < 10 := by
      rcases decade_cases e with ⟨q', r', rfl, hr', hq'⟩ | he
      · omega
      · exact he
    rw [scaleWeight_shift m hr, scaleWeight_shift m' hr']
    exact Nat.div_le_div_right (doseFactor_pow_mono hr hr' (by omega))

theorem scaleWeight_le_top {d : Int} (h : d ≤ 49) : scaleWeight d ≤ 7648 :=
  (scaleWeight_mono h).trans_eq (by decide : scaleWeight 49 = 7648)

/-! ### The whole degrees (R156) -/

theorem doseDegrees_le (t tRef : Int) : doseDegrees t tRef ≤ 49 := min_le_right _ _

theorem doseDegrees_mono (tRef : Int) : Monotone (doseDegrees · tRef) := by
  intro t u htu
  simp only [doseDegrees]
  omega

theorem doseDegrees_eq {t tRef d : Int} (h : 10 * d ≤ t - tRef ∧ t - tRef < 10 * d + 10 ∧ d ≤ 49 ∨ d = 49 ∧ 490 ≤ t - tRef) :
    doseDegrees t tRef = d := by
  rw [doseDegrees]
  omega

/-! ### The weight of a reading (R155) -/

theorem weight_lost (rc : Recipe) : weight none rc = 0 := rfl

theorem weight_of_lt {rc : Recipe} {t : Int} (h : t < rc.tOn) : weight (some t) rc = 0 := if_pos h

theorem weight_of_le {rc : Recipe} {t : Int} (h : rc.tOn ≤ t) : weight (some t) rc = scaleWeight (doseDegrees t rc.tRef) :=
  if_neg h.not_gt

theorem weight_le (rc : Recipe) (t : Int) : weight (some t) rc ≤ 7648 := by
  rcases lt_or_ge t rc.tOn with h | h
  · rw [weight_of_lt h]
    exact Nat.zero_le _
  · rw [weight_of_le h]
    exact scaleWeight_le_top (doseDegrees_le t rc.tRef)

theorem weight_mono (rc : Recipe) : Monotone fun t => weight (some t) rc := by
  intro t u htu
  dsimp only
  rcases lt_or_ge t rc.tOn with h | h
  · rw [weight_of_lt h]
    exact Nat.zero_le _
  · rw [weight_of_le h, weight_of_le (h.trans htu)]
    exact scaleWeight_mono (doseDegrees_mono rc.tRef htu)

/-- Settles O40: the two cases of R155, then the scale at the degrees of R156, which rises by decades and by the rest in each. -/
theorem weightOfReading : Obligations.WeightOfReading := by
  refine ⟨weight_lost, fun rc t h => weight_of_lt h, ?_, weight_le, fun rc t u h => weight_mono rc h⟩
  intro rc t d q r f hOn hd hsplit hr hf
  rw [weight_of_le hOn, doseDegrees_eq hd, hsplit, ← doseFactor_of_getElem? hf]
  refine ⟨?_, ?_, scaleWeight_floor hr⟩
  · rintro n rfl
    exact scaleWeight_up n hr
  · rintro n rfl h1 h8
    exact scaleWeight_down hr h1 h8

end Sys2Proof.Machine

end

section

namespace Sys2Proof.Machine

/-! ## The count of the rack (R174) -/

/-- A state with another hold manager. -/
def State.withHolds (s : State) (h : Holds) : State := { s with holds := h }

/-- The near-full mark as the count of the hold list gives it. -/
def State.markNearFull (s : State) : State :=
  s.withHolds { s.holds with nearFull := decide (s.cfg.nearFull ≤ s.holds.list.length) }

section
variable {s : State}

/-- A notice is posted whatever the hold manager holds. -/
theorem State.notice_withHolds (h : Holds) (code : Byte) (body : List Byte) :
    (s.withHolds h).notice code body = (s.notice code body).withHolds h := by
  unfold State.notice State.withHolds
  dsimp only
  split <;> rfl

/-- A count that crosses the threshold upwards is told by NOTICE RACK_NEAR_FULL. -/
theorem State.nearFullTest_crossing (h : s.cfg.nearFull ≤ s.holds.list.length) (hn : s.holds.nearFull = false) :
    s.nearFullTest = s.markNearFull.notice 5 [byteOf s.holds.list.length, byteOf s.cfg.nearFull] := by
  rw [State.nearFullTest, if_pos h, if_neg (by simp [hn]), State.markNearFull, decide_eq_true h]
  rfl

/-- A count below the threshold, or not the first above it, is told by none. -/
theorem State.nearFullTest_silent (h : s.cfg.nearFull ≤ s.holds.list.length → s.holds.nearFull = true) :
    s.nearFullTest = s.markNearFull := by
  unfold State.nearFullTest State.markNearFull
  dsimp only
  by_cases hc : s.cfg.nearFull ≤ s.holds.list.length
  · rw [if_pos hc, if_pos (h hc), decide_eq_true hc, ← h hc]
    rfl
  · rw [if_neg hc, decide_eq_false hc]
    rfl

/-- The test after the hold manager has changed. -/
theorem State.nearFullTest_withHolds {c : CellCfg} (hc : s.cfg = c) (h : Holds) : (s.withHolds h).nearFullTest =
    if c.nearFull ≤ h.list.length ∧ h.nearFull = false then
      State.notice { s with holds := { h with nearFull := true } } 5 [byteOf h.list.length, byteOf c.nearFull]
    else { s with holds := { h with nearFull := decide (c.nearFull ≤ h.list.length) } } := by
  subst hc
  by_cases hx : s.cfg.nearFull ≤ h.list.length ∧ h.nearFull = false
  · obtain ⟨hcount, hmark⟩ := hx
    rw [if_pos ⟨hcount, hmark⟩, State.nearFullTest_crossing (s := s.withHolds h) hcount hmark, ← decide_eq_true hcount]
    rfl
  · have hsilent : s.cfg.nearFull ≤ h.list.length → h.nearFull = true := fun hcount => by simpa [hcount] using hx
    rw [if_neg hx, State.nearFullTest_silent (s := s.withHolds h) hsilent]
    rfl

theorem State.nearFullTest_holds (s : State) : s.nearFullTest.holds = s.markNearFull.holds := by
  by_cases h : s.cfg.nearFull ≤ s.holds.list.length ∧ s.holds.nearFull = false
  · rw [State.nearFullTest_crossing h.1 h.2]
    simp
  · rw [State.nearFullTest_silent fun hc => by simpa [hc] using h]

end

/-! ## The edges of the rack sensors (R167, R170, R179, R180) -/

/-- The edge command of a rack sensor. -/
def rackCommand (k : Fin 8) (b : Bool) : Instr := if b then .rackOccupiedEdge k else .rackEmptyEdge k

section
variable {s : State} {k : Fin 8} {b : Bool}

theorem State.exec_rackCommand (ht : s.tracking = true) (hl : s.inputs.rack[k].level = some (!b)) :
    exec (rackCommand k b) s = .next ((s.setRackLevel k b).rackEdge k b).settle := by
  have hexec : exec (rackCommand k b) s = .next (s.live fun t => t.rackChange k b) := by cases b <;> rfl
  rw [hexec, State.live_of_loaded (State.loaded_of_tracking ht), State.rackChange, if_pos hl]
  exact congrArg _ (if_pos ht)

theorem State.rackOccupied_setRackLevel (s : State) (k : Fin 8) (b : Bool) : (s.setRackLevel k b).rackOccupied k = b := by
  cases b <;> simp [State.rackOccupied, State.setRackLevel, Filter.forced]

/-- A diversion goes on while its two sensors do not both confirm it. -/
theorem State.diversionTest_of_unconfirmed (hk : s.target = some k) (h : s.rackOccupied k = false ∨ s.sensorEmpty .exit = false) :
    s.diversionTest = s := by
  unfold State.diversionTest
  rw [hk]
  split
  next r t _ ht =>
    cases ht
    exact if_neg (by rcases h with h | h <;> simp [h])
  · rfl

theorem State.rackEdge_target (hk : s.target = some k) : s.rackEdge k b = s.diversionTest := if_pos hk

theorem State.entryAt_eq_none : s.entryAt k = none ↔ ∀ e ∈ s.holds.list, e.rack ≠ k := by
  simp [State.entryAt]

theorem State.entryAt_of_first {before after : List HoldEntry} {e : HoldEntry} (hl : s.holds.list = before ++ e :: after)
    (hb : ∀ x ∈ before, x.rack ≠ k) (he : e.rack = k) : s.entryAt k = some e :=
  List.find?_eq_some_iff_append.2 ⟨by simp [he], before, after, hl, fun x hx => by simpa using hb x hx⟩

section
variable (hk : s.target ≠ some k)
include hk

theorem State.rackEdge_removes {e : HoldEntry} (he : s.entryAt k = some e) : s.rackEdge k false = s.removeEntry e := by
  unfold State.rackEdge
  rw [if_neg hk, he]

theorem State.rackEdge_strands (he : s.entryAt k = none) :
    s.rackEdge k true = (s.appendHold (strandedEntry k s.seconds)).nearFullTest := by
  unfold State.rackEdge
  rw [if_neg hk, he]

/-- An empty edge at a free position, and an occupied one at a position with an entry. -/
theorem State.rackEdge_idle (h : (s.entryAt k).isSome = b) : s.rackEdge k b = s := by
  unfold State.rackEdge
  rw [if_neg hk]
  cases he : s.entryAt k with
  | none =>
    rw [he] at h
    subst h
    rfl
  | some e =>
    rw [he] at h
    subst h
    rfl

end

/-- The body of NOTICE RACK_TAKEN (R179, section 11.6). -/
def rackTakenBody (e : HoldEntry) : List Byte :=
  byteOf e.rack.val :: flagByte [e.serial.isSome, e.variantLot.isSome] ::
    (optWord e.serial ++ be16 ((e.variantLot.map (·.1)).getD 0) ++ be16 ((e.variantLot.map (·.2)).getD 0) ++
      be24 e.reasons ++ be32 e.time)

/-- The hold list without the entries at a rack position. -/
def State.withoutRack (s : State) (k : Fin 8) : State :=
  s.withHolds { s.holds with list := s.holds.list.filter fun h => h.rack != k }

section
variable {e : HoldEntry} (h : s.cfg.nearFull ≤ (s.holds.list.filter fun h => h.rack != e.rack).length → s.holds.nearFull = true)
include h

theorem State.removeEntry_held (hs : e.state = .held) :
    s.removeEntry e = (s.withoutRack e.rack).markNearFull.notice 6 (rackTakenBody e) := by
  have htaken : (s.withoutRack e.rack).rackTaken e = (s.withoutRack e.rack).notice 6 (rackTakenBody e) := by
    rw [State.rackTaken, hs]
    rfl
  have hsilent := State.nearFullTest_silent (s := (s.withoutRack e.rack).notice 6 (rackTakenBody e))
    (by simpa [State.withoutRack, State.withHolds] using h)
  show ((s.withoutRack e.rack).rackTaken e).nearFullTest = _
  rw [htaken, hsilent, State.markNearFull, State.markNearFull, State.notice_withHolds]
  simp

theorem State.removeEntry_released (hs : e.state ≠ .held) : s.removeEntry e = (s.withoutRack e.rack).markNearFull := by
  have htaken : (s.withoutRack e.rack).rackTaken e = s.withoutRack e.rack := by
    unfold State.rackTaken
    split
    · exact absurd ‹_› hs
    all_goals rfl
  show ((s.withoutRack e.rack).rackTaken e).nearFullTest = _
  rw [htaken]
  exact State.nearFullTest_silent (s := s.withoutRack e.rack) h

end

end

/-- Settles O47: an edge at the target of a diversion leaves it unconfirmed; any other goes by the entry at its position. -/
theorem rackEdgesTaken : Obligations.RackEdgesTaken := by
  intro s c k b ht hl hc level listed rest more
  have hexec : exec c s = .next (level.rackEdge k b).settle := by
    rw [hc]
    exact State.exec_rackCommand ht hl
  have hlevel : level = s.setRackLevel k b := rfl
  rw [hexec]
  refine ⟨fun hk hidle => ?_, fun hk => ⟨fun e before after hb hlist hbefore he hnear => ?_, fun hfree hb => ?_,
    fun hfree hb => ?_, fun hentry hb => ?_⟩⟩
  · have hstill : level.diversionTest = level := State.diversionTest_of_unconfirmed (s := level) hk
      (hidle.imp_left fun hb => by rw [hlevel, State.rackOccupied_setRackLevel, hb])
    rw [State.rackEdge_target (s := level) hk, hstill]
  · subst he hb
    rw [State.rackEdge_removes (s := level) hk (State.entryAt_of_first hlist hbefore rfl)]
    refine ⟨fun hs => ?_, fun hs => ?_⟩
    · rw [State.removeEntry_released (s := level) hnear hs]
      rfl
    · rw [State.removeEntry_held (s := level) hnear hs]
      rfl
  · subst hb
    rw [State.rackEdge_strands (s := level) hk (State.entryAt_eq_none.2 hfree)]
    let t : State := level.appendHold (strandedEntry k s.seconds)
    refine ⟨fun _ hnear => ?_, fun hcount hnear => ?_, fun hcount => ?_⟩
    · exact congrArg _ (congrArg _ (State.nearFullTest_silent (s := t) fun _ => hnear))
    · exact congrArg _ (congrArg _ (State.nearFullTest_crossing (s := t) hcount hnear))
    · exact congrArg _ (congrArg _ (State.nearFullTest_silent (s := t) fun h => absurd hcount h.not_gt))
  · have hnone : level.entryAt k = none := State.entryAt_eq_none.2 hfree
    rw [State.rackEdge_idle (s := level) hk (by rw [hnone, hb]; rfl)]
  · have hsome : level.entryAt k ≠ none := fun hnone => by
      obtain ⟨e, he, hek⟩ := hentry
      exact State.entryAt_eq_none.1 hnone e he hek
    rw [State.rackEdge_idle (s := level) hk (by rw [hb]; exact Option.isSome_iff_ne_none.2 hsome)]

end Sys2Proof.Machine

end

section

namespace Sys2Proof.Machine

/-! ## The start of a diversion (R168, R169) -/

section
variable {s : State} {r : Record} {k : Fin 8}

theorem State.waitsForRack_iff : s.waitsForRack = true ↔ ∃ r, s.table.exit = some r ∧ r.diversion = some .waitingRack := by
  unfold State.waitsForRack
  cases h : s.table.exit <;> simp

/-- While no diversion has a target, the free rack positions are those without an entry. -/
theorem State.rackFree_iff (ht : s.target = none) (j : Fin 8) : s.rackFree j = true ↔ ∀ e ∈ s.holds.list, e.rack ≠ j := by
  simp [State.rackFree, ht]

/-- In a list in ascending order, the first that a test takes is the lowest. -/
theorem find?_of_lowest {p : Fin 8 → Bool} (hk : p k = true) (hlow : ∀ j, j < k → p j = false) {l : List (Fin 8)}
    (hl : l.Pairwise (· < ·)) (hmem : k ∈ l) : l.find? p = some k := by
  rw [List.find?_eq_findSome?_guard]
  exact findSome?_of_lowest (by simp [Option.guard, hk]) (fun j hj => by simp [Option.guard, hlow j hj]) hl hmem

theorem mem_rackPositions (k : Fin 8) : k ∈ rackPositions := by revert k; decide

theorem State.lowestFreeRack_eq_some (ht : s.target = none) (hk : ∀ e ∈ s.holds.list, e.rack ≠ k)
    (hlow : ∀ j : Fin 8, j < k → ∃ e ∈ s.holds.list, e.rack = j) : s.lowestFreeRack = some k := by
  refine find?_of_lowest ((State.rackFree_iff ht k).2 hk) (fun j hj => ?_) (by decide) (mem_rackPositions k)
  obtain ⟨e, he, hej⟩ := hlow j hj
  exact Bool.eq_false_iff.2 fun hfree => (State.rackFree_iff ht j).1 hfree e he hej

theorem State.lowestFreeRack_eq_none (h : ∀ k : Fin 8, ∃ e ∈ s.holds.list, e.rack = k) : s.lowestFreeRack = none := by
  refine List.find?_eq_none.2 fun j _ hfree => ?_
  obtain ⟨e, he, hej⟩ := h j
  simp only [State.rackFree, Bool.and_eq_true, List.all_eq_true, bne_iff_ne] at hfree
  exact hfree.1 e he hej

theorem State.exec_diversionStart (hl : s.loaded = true) : exec .diversionStart s = .next s.tryDiversion :=
  congrArg Host.Outcome.next (State.live_of_loaded hl _)

theorem State.target_of_waitingRack (hr : s.table.exit = some r) (hd : r.diversion = some .waitingRack) : s.target = none := by
  unfold State.target
  rw [hr]
  dsimp only
  rw [hd]

theorem State.tryDiversion_starts (hr : s.table.exit = some r) (hd : r.diversion = some .waitingRack)
    (hh : s.tracker.hold = false) (hk : s.lowestFreeRack = some k) : s.tryDiversion = { s with
      table := { s.table with exit := some { r with diversion := some (.diverting k) } }
      holds := { s.holds with rackSelect := k } } := by
  unfold State.tryDiversion
  rw [if_pos (by simp [State.waitsForRack_iff.2 ⟨r, hr, hd⟩, hh]), hk]
  simp [State.setDiversion, hr]

theorem State.tryDiversion_idle (h : s.tracker.hold = true ∨ s.lowestFreeRack = none ∨ s.waitsForRack = false) :
    s.tryDiversion = s := by
  unfold State.tryDiversion
  rcases h with h | h | h
  · rw [if_neg (by simp [h])]
  · rw [h]
    exact ite_self _
  · rw [if_neg (by simp [h])]

end

/-! ## Events and the hold manager (R192) -/

section
variable {s : State} {h : Holds}

theorem State.beginAction_withHolds (k : Fin 4) : (s.withHolds h).beginAction k = (s.beginAction k).withHolds h := by
  unfold State.beginAction
  have hsame : (s.withHolds h).cfg = s.cfg := rfl
  rw [hsame]
  dsimp only
  split
  · rfl
  · rfl
  · rfl
  · rw [State.notice_withHolds]
    rfl

theorem State.reportTo_withHolds (src : Source) (margin : Int) (k : Fin 4) :
    State.reportTo src margin (s.withHolds h) k = (State.reportTo src margin s k).withHolds h := by
  unfold State.reportTo
  have hsame : (s.withHolds h).cfg = s.cfg := rfl
  have hwatch : (s.withHolds h).watch = s.watch := rfl
  rw [hsame, hwatch]
  dsimp only
  split
  · split
    · exact State.beginAction_withHolds (h := h)
        (s := { s with watch := s.watch.set k.val (s.watch[k].event s.cfg.watch[k] margin) k.isLt }) k
    · rfl
  · rfl

/-- An event reaches the counters whatever the hold manager holds. -/
theorem State.report_withHolds (src : Source) (margin : Int) :
    (s.withHolds h).report src margin = (s.report src margin).withHolds h := by
  unfold State.report
  generalize ([0, 1, 2, 3] : List (Fin 4)) = l
  induction l generalizing s with
  | nil => rfl
  | cons k l ih => rw [List.foldl_cons, List.foldl_cons, State.reportTo_withHolds, ih]

/-- An event that no counter counts changes nothing. -/
theorem State.report_of_no_source {src : Source} {margin : Int} (h : ∀ i : Fin 4, s.cfg.watch[i].source ≠ src) :
    s.report src margin = s := by
  refine State.report_induction (P := fun u => u = s) (fun u i hu => ?_) rfl
  subst hu
  exact if_neg (h i)

end

/-! ## Telegrams that stay in the queue (R213) -/

section
variable {l : Link} {x e : OutEntry}

/-- The outbound queue is the telegram in its send, if there is one, and those that wait. -/
theorem Link.out_eq (l : Link) : l.out = l.inSend.toList ++ l.waitingOut := by
  unfold Link.inSend Link.waitingOut
  cases l.line with
  | sending => cases l.out <;> rfl
  | busy => rfl
  | idle => rfl
  | receiving _ _ => rfl
  | slot _ _ => rfl

theorem Link.mem_out_post_of_room (h : l.out.length < Config.queueRoom) : e ∈ (l.post e).out := by
  rw [Link.post, if_pos h]
  exact Link.mem_out_enter

/-- A telegram of class 2 displaces none. -/
theorem Link.mem_out_post (he : e.cls = 2) (h : x ∈ l.out) : x ∈ (l.post e).out := by
  unfold Link.post
  split
  · show x ∈ l.inSend.toList ++ insertYoungest e l.waitingOut
    rw [Link.out_eq, List.mem_append] at h
    exact List.mem_append.2 (h.imp_right fun hw => mem_insertYoungest.2 (.inr hw))
  · exact h

variable {s : State}

theorem State.mem_out_notice (code : Byte) (body : List Byte) (h : x ∈ s.link.out) : x ∈ (s.notice code body).link.out := by
  unfold State.notice
  split
  · exact h
  · exact Link.mem_out_post (show classOf kindNotice = 2 by decide) h

theorem State.mem_out_report (src : Source) (margin : Int) (h : x ∈ s.link.out) : x ∈ (s.report src margin).link.out := by
  refine State.report_induction (P := fun u => x ∈ u.link.out) (fun u i hu => ?_) h
  unfold State.reportTo
  dsimp only
  split
  · split
    · unfold State.beginAction
      dsimp only
      split
      · exact hu
      · exact hu
      · exact hu
      · exact State.mem_out_notice _ _ hu
    · exact hu
  · exact hu

theorem State.mem_out_nearFullTest (h : x ∈ s.link.out) : x ∈ s.nearFullTest.link.out := by
  rw [State.nearFullTest_link]
  split
  · exact State.mem_out_notice _ _ h
  · exact h

end

/-! ## The completion of a diversion (R170, R171) -/

section
variable {s : State} {r : Record} {k : Fin 8}

/-- The hold manager with the entry of a diverted record. -/
def State.holdsWith (s : State) (k : Fin 8) (r : Record) : Holds :=
  { s.holds with list := s.holds.list ++ [heldEntry k r.trav s.seconds] }

theorem State.leave_exit (hr : s.table.exit = some r) : s.leave .exit = { s with
    table := { s.table with exit := none }
    store := s.storeWithout r
    mask := if s.mask.cand = some .exit then s.mask.drop else s.mask } :=
  s.leave_eq (p := .exit) hr (by decide)

/-- The notice and the event look at nothing of the hold list, which the near-full test then counts. -/
theorem State.completeDiversion_eq : s.completeDiversion r k =
    ((((s.leave .exit).notice 4 (holdPlacedBody k r s.seconds)).report .holdPlaced 0).withHolds
      (s.holdsWith k r)).nearFullTest := by
  have happend : (s.leave .exit).appendHold (heldEntry k r.trav s.seconds) = (s.leave .exit).withHolds (s.holdsWith k r) := by
    unfold State.appendHold State.holdsWith State.withHolds
    simp
  unfold State.completeDiversion
  rw [happend, State.notice_withHolds, State.report_withHolds]

theorem State.completeDiversion_holds : (s.completeDiversion r k).holds = { s.holds with
    list := s.holds.list ++ [heldEntry k r.trav s.seconds]
    nearFull := decide (s.cfg.nearFull ≤ s.holds.list.length + 1) } := by
  rw [State.completeDiversion_eq, State.nearFullTest_holds]
  simp [State.markNearFull, State.withHolds, State.holdsWith]

theorem State.completeDiversion_table (hr : s.table.exit = some r) :
    (s.completeDiversion r k).table = { s.table with exit := none } := by
  simp [State.completeDiversion, State.leave_exit hr]

theorem State.completeDiversion_supply (hr : s.table.exit = some r) : (s.completeDiversion r k).supply = s.supply := by
  simp [State.completeDiversion, State.leave_exit hr]

theorem State.completeDiversion_store : (s.completeDiversion r k).store = (s.leave .exit).store := by
  simp [State.completeDiversion]

theorem State.completeDiversion_counters (hr : s.table.exit = some r)
    (h : ∀ i : Fin 4, s.cfg.watch[i].source ≠ .holdPlaced) :
    (s.completeDiversion r k).watch = s.watch ∧ (s.completeDiversion r k).spray = s.spray := by
  rw [State.completeDiversion, State.report_of_no_source (by simpa using h)]
  simp [State.leave_exit hr]

/-- What NOTICE HOLD_PLACED leaves in the queue, neither the event nor the near-full test displaces. -/
theorem State.mem_out_completeDiversion {x : OutEntry}
    (h : x ∈ ((s.leave .exit).notice 4 (holdPlacedBody k r s.seconds)).link.out) : x ∈ (s.completeDiversion r k).link.out := by
  have hstays := State.mem_out_report .holdPlaced 0 h
  rw [State.completeDiversion_eq]
  generalize State.report _ .holdPlaced 0 = u at hstays ⊢
  exact State.mem_out_nearFullTest (s := u.withHolds _) hstays

theorem State.completeDiversion_posted (hr : s.table.exit = some r) (ht : s.cfg.terminal ≠ 0)
    (hroom : s.link.out.length < Config.queueRoom) : (s.completeDiversion r k).posted s.cfg.terminal kindNotice
      (4 :: holdPlacedBody k r s.seconds) := by
  have hnotice : ((s.leave .exit).notice 4 (holdPlacedBody k r s.seconds)).link =
      s.link.post (s.telegram s.cfg.terminal kindNotice (4 :: holdPlacedBody k r s.seconds)) := by
    rw [State.notice, if_neg (by simpa using ht), State.leave_exit hr]
    rfl
  refine ⟨_, List.mem_append_left _ (State.mem_out_completeDiversion (hnotice ▸ Link.mem_out_post_of_room hroom)), ?_⟩
  simp [State.telegram]

/-- A board without a recipe hands no reference back. -/
theorem State.leave_store_of_unbound (hr : s.table.exit = some r) (h : r.recipe = none) : (s.leave .exit).store = s.store := by
  rw [State.leave_exit hr]
  simp [State.storeWithout, h]

/-- The last board bound to a RETIRING recipe frees its record (R49, R59). -/
theorem State.leave_frees {i : Fin 12} {rc : Recipe} (hr : s.table.exit = some r) (h : r.recipe = some i)
    (hi : s.store.records[i] = .retiring rc) (hlast : ∀ p q, p ≠ .exit → s.table.get p = some q → q.recipe ≠ some i) :
    (s.leave .exit).store.records[i] = .free := by
  refine (State.leave_records (p := .exit) hr (by decide) i).1 (by rw [hi]; rfl) h ?_
  rintro ⟨p, hp⟩
  obtain ⟨q, hq, hqi⟩ := get_recipesOf_eq_some.1 hp
  rw [State.leave_exit hr] at hq
  by_cases hx : p = .exit
  · subst hx
    cases hq
  · exact hlast p q hx ((PerPos.get_put_of_ne s.table hx none).symm.trans hq) hqi

theorem State.diversionTest_confirmed (hr : s.table.exit = some r) (hd : r.diversion = some (.diverting k))
    (ho : s.rackOccupied k = true) (he : s.sensorEmpty .exit = true) : s.diversionTest = s.completeDiversion r k := by
  have hk : s.target = some k := State.target_eq_some.2 ⟨r, hr, hd⟩
  unfold State.diversionTest
  rw [hr, hk]
  exact if_pos (by simp [ho, he])

/-- A diversion completes at the later of the two edges, which its inputs then show. -/
theorem State.exec_diversion_completes {c : Instr} (ht : s.tracking = true) (hr : s.table.exit = some r)
    (hd : r.diversion = some (.diverting k))
    (h : c = .rackOccupiedEdge k ∧ s.inputs.rack[k].level = some false ∧ s.sensorEmpty .exit = true ∨
      c = .emptyEdge .exit ∧ s.inputs.rack[k].level = some true ∧ s.occupied .exit = true ∧ s.tunnel.phase ≠ .indexing) :
    exec c s = .next (State.settle (State.completeDiversion (s.withInputs
      (if c = .emptyEdge .exit then s.setLevel .exit false else s.setRackLevel k true).inputs) r k)) := by
  rcases h with ⟨rfl, hl, he⟩ | ⟨rfl, hl, ho, hi⟩
  · have hexec : exec (.rackOccupiedEdge k) s = _ := State.exec_rackCommand (b := true) ht hl
    rw [hexec, State.rackEdge_target (s := s.setRackLevel k true) (State.target_eq_some.2 ⟨r, hr, hd⟩),
      State.diversionTest_confirmed (s := s.setRackLevel k true) hr hd (s.rackOccupied_setRackLevel k true) he, if_neg (by simp)]
    rfl
  · have hedge : (s.setLevel .exit false).exitEdge r false = (s.setLevel .exit false).diversionTest := by
      unfold State.exitEdge
      rw [hd]
    rw [State.exec_emptyEdge ht ho,
      State.emptyEdge_exit (s := s.setLevel .exit false) hr (State.covered_exit_of_not_indexing hi), hedge,
      State.diversionTest_confirmed (s := s.setLevel .exit false) hr hd (beq_iff_eq.2 hl)
        (by simp [State.sensorEmpty_setLevel]), if_pos rfl]
    rfl

end

/-! ## The other edges of EXIT under a diversion (R169) -/

section
variable {s : State} {r : Record} {b : Bool}

theorem State.exitEdge_diversion (hr : s.table.exit = some r) (h : r.diversion = some .waitingRack ∨
    ∃ k : Fin 8, r.diversion = some (.diverting k) ∧ (s.sensorEmpty .exit = false ∨ s.rackOccupied k = false)) :
    s.exitEdge r b = s := by
  unfold State.exitEdge
  rcases h with hd | ⟨k, hd, h⟩
  · rw [hd]
  · rw [hd]
    exact State.diversionTest_of_unconfirmed (State.target_eq_some.2 ⟨r, hr, hd⟩) h.symm

/-- A sensor edge at EXIT that an index covers, or that the record there takes for nothing. -/
theorem State.exec_exitEdge_idle (ht : s.tracking = true) (hr : s.table.exit = some r)
    (hl : (s.inputs.pos.get .exit).level = some (!b)) (h : (s.setLevel .exit b).exitEdge r b = s.setLevel .exit b) :
    exec (edgeCommand .exit b) s = .next (s.setLevel .exit b).settle := by
  cases b with
  | true =>
    have hedge : (s.setLevel .exit true).occupiedEdge .exit = s.setLevel .exit true := by
      by_cases hc : (s.setLevel .exit true).covered .exit = true
      · unfold State.occupiedEdge
        rw [if_neg (by simp [State.conveyed]), if_pos hc]
      · rw [State.occupiedEdge_exit (s := s.setLevel .exit true) hr (Bool.eq_false_iff.2 hc), h]
    show exec (.occupiedEdge .exit) s = _
    rw [State.exec_occupiedEdge ht (by simpa [State.sensorEmpty] using hl), hedge]
  | false =>
    have hedge : (s.setLevel .exit false).emptyEdge .exit = s.setLevel .exit false := by
      by_cases hc : (s.setLevel .exit false).covered .exit = true
      · unfold State.emptyEdge
        rw [show (s.setLevel .exit false).raiseStop .exit = s.setLevel .exit false from rfl]
        dsimp only
        rw [if_neg (by simp [State.conveyed]), if_pos hc]
      · rw [State.emptyEdge_exit (s := s.setLevel .exit false) hr (Bool.eq_false_iff.2 hc), h]
    show exec (.emptyEdge .exit) s = _
    rw [State.exec_emptyEdge ht (by simpa [State.occupied] using hl), hedge]

end

/-- Settles O46: the lowest free position starts it, the later of the two edges completes it, and the other edges leave it. -/
theorem diversionStartsAndCompletes : Obligations.DiversionStartsAndCompletes := by
  refine ⟨fun s hl => ⟨fun r k hr hd hh hfree hlow => ?_, fun h => ?_⟩, fun s c r k ht hr hd hc => ?_,
    fun s r b ht hr hl h => ?_⟩
  · rw [State.exec_diversionStart hl, State.tryDiversion_starts hr hd hh
      (State.lowestFreeRack_eq_some (State.target_of_waitingRack hr hd) hfree hlow)]
  · rw [State.exec_diversionStart hl, State.tryDiversion_idle (h.imp_right (Or.imp State.lowestFreeRack_eq_none fun hno => ?_))]
    exact Bool.eq_false_iff.2 fun hw => let ⟨r, hr, hd⟩ := State.waitsForRack_iff.1 hw; hno r hr hd
  · intro list clip body near
    let t : State := s.withInputs (if c = .emptyEdge .exit then s.setLevel .exit false else s.setRackLevel k true).inputs
    have hrt : t.table.exit = some r := hr
    refine ⟨t.completeDiversion r k, State.exec_diversion_completes ht hr hd hc, fun hm => ?_,
      State.completeDiversion_table hrt, State.completeDiversion_holds, by simp [t, State.withInputs],
      by simp [t, State.withInputs], State.completeDiversion_supply hrt, by simp [t, State.withInputs],
      fun hterm hroom => State.completeDiversion_posted (s := t) hrt hterm hroom,
      fun hw => State.completeDiversion_counters (s := t) hrt hw, fun hn => ?_, fun i rc hi hret hlast => ?_⟩
    · have hleave : t.leave .exit = { t with table := { s.table with exit := none }, store := s.storeWithout r } := by
        rw [State.leave_exit hrt, if_neg (show ¬ t.mask.cand = some .exit from hm)]
        rfl
      have hnear (u : State) (hc : u.cfg = s.cfg) : (u.withHolds (t.holdsWith k r)).nearFullTest = near u :=
        State.nearFullTest_withHolds hc _
      rw [State.completeDiversion_eq, hleave, hnear _ (by simp [t, State.withInputs])]
      rfl
    · rw [State.completeDiversion_store]
      exact State.leave_store_of_unbound hrt hn
    · rw [State.completeDiversion_store]
      exact State.leave_frees hrt hi hret hlast
  · refine State.exec_exitEdge_idle ht hr hl (State.exitEdge_diversion (s := s.setLevel .exit b) hr (h.imp_right ?_))
    rintro ⟨k, hd, hb⟩
    exact ⟨k, hd, hb.imp (fun hb => by simp [State.sensorEmpty_setLevel, hb]) fun hrack =>
      Bool.eq_false_iff.2 (mt beq_iff_eq.1 hrack)⟩

end Sys2Proof.Machine

end

section

namespace Sys2Proof.Machine

/-! ## The answer to a RELEASE (R176, R177) -/

/-- A RELEASE as R176 asks for it. -/
theorem releaseOk_iff (p : List Byte) : releaseOk p = true ↔
    p.length = 6 ∧ (byteAt p 0 = 1 ∨ byteAt p 0 = 2 ∧ (wordAt p 1).toNat ≤ 7) ∧ (byteAt p 5 = 1 ∨ byteAt p 5 = 2) := by
  simp [releaseOk, and_assoc]

/-- A selector of either kind names an entry by its serial or by its rack position. -/
theorem selects_iff {p : List Byte} {e : HoldEntry} (hp : byteAt p 0 = 1 ∨ byteAt p 0 = 2) : selects p e = true ↔
    byteAt p 0 = 1 ∧ e.serial = some (wordAt p 1) ∨ byteAt p 0 = 2 ∧ e.rack.val = (wordAt p 1).toNat := by
  rcases hp with h | h
  · simp [selects, h]
  · simp [selects, h, eq_comm]

/-- The bytes behind the selector where an entry is found: its presence byte tells whether a serial follows. -/
theorem releaseAnswer_found (selector : List Byte) (c : ReleaseCode) (e : HoldEntry) : releaseAnswer selector c (some e) =
    selector ++ (c.code :: (if e.serial.isSome then 3 else 1) :: byteOf e.rack.val :: (optWord e.serial ++ [e.state.code])) := by
  cases h : e.serial <;> simp [releaseAnswer, h] <;> rfl

theorem releaseAnswer_none (selector : List Byte) (c : ReleaseCode) :
    releaseAnswer selector c none = selector ++ [c.code, 0, 0, 0, 0, 0, 0, 0] := by
  rw [releaseAnswer, List.append_assoc, List.append_assoc]
  rfl

theorem withFree_of_length_le {p : List Byte} {n : Nat} (h : n ≤ p.length) (used : Nat) : withFree p n used = p := by
  simp [withFree, Nat.sub_eq_zero_of_le h]

section
variable {s : State} {g : Telegram}

theorem State.exec_release {rest : List Telegram} (hl : s.loaded = true) (hg : s.link.inbound = g :: rest)
    (hk : g.kind = kindRelease) : exec .release s = .next (State.takeRelease { s with link := s.link.popInbound } g) :=
  congrArg Host.Outcome.next (State.hand_untracked State.takeRelease hl hg hk rfl)

/-- A RELEASE that does not pass R176: bytes of the selector that its payload does not hold are free values (log 15). -/
theorem State.takeRelease_malformed (h : releaseOk g.payload = false) : s.takeRelease g =
    State.post { s with free := s.free + (5 - g.payload.length) } g.src kindReleaseAnswer
      ((withFree g.payload 5 s.free).take 5 ++ [4, 0, 0, 0, 0, 0, 0, 0]) := by
  rw [State.takeRelease, if_pos (by simp [h]), releaseAnswer_none]
  rfl

theorem State.takeRelease_malformed_whole (h : releaseOk g.payload = false) (hlen : 5 ≤ g.payload.length) : s.takeRelease g =
    s.post g.src kindReleaseAnswer (g.payload.take 5 ++ [4, 0, 0, 0, 0, 0, 0, 0]) := by
  rw [State.takeRelease_malformed h, withFree_of_length_le hlen, Nat.sub_eq_zero_of_le hlen]
  rfl

theorem State.takeRelease_malformed_short (h : releaseOk g.payload = false) (hlen : g.payload.length < 5) :
    ∃ more : List Byte, g.payload.length + more.length = 5 ∧ s.takeRelease g =
      State.post { s with free := s.free + more.length } g.src kindReleaseAnswer
        (g.payload ++ more ++ [4, 0, 0, 0, 0, 0, 0, 0]) := by
  let more := (List.range (5 - g.payload.length)).map fun k => Config.freeByte (s.free + k)
  have hmore : more.length = 5 - g.payload.length := by simp [more]
  have hall : (withFree g.payload 5 s.free).take 5 = g.payload ++ more :=
    List.take_of_length_le (by rw [withFree, List.length_append, hmore]; omega)
  exact ⟨more, by omega, by rw [State.takeRelease_malformed h, hall, hmore]⟩

section
variable {e : HoldEntry} (hok : releaseOk g.payload = true)
include hok

theorem State.takeRelease_notHeld (h : s.holds.list.find? (selects g.payload) = none) : s.takeRelease g =
    s.post g.src kindReleaseAnswer (g.payload.take 5 ++ [2, 0, 0, 0, 0, 0, 0, 0]) := by
  rw [State.takeRelease, if_neg (by simp [hok]), h]
  dsimp only
  rw [releaseAnswer_none]
  rfl

theorem State.takeRelease_released (h : s.holds.list.find? (selects g.payload) = some e) (hs : e.state ≠ .held) :
    s.takeRelease g = s.post g.src kindReleaseAnswer (g.payload.take 5 ++
      (3 :: (if e.serial.isSome then 3 else 1) :: byteOf e.rack.val :: (optWord e.serial ++ [e.state.code]))) := by
  have hanswer := releaseAnswer_found (g.payload.take 5) .alreadyReleased e
  rw [State.takeRelease, if_neg (by simp [hok]), h]
  dsimp only
  cases he : e.state with
  | held => exact absurd he hs
  | releasedRework => rw [he] at hanswer; exact congrArg (s.post g.src kindReleaseAnswer) hanswer
  | releasedScrap => rw [he] at hanswer; exact congrArg (s.post g.src kindReleaseAnswer) hanswer

theorem State.takeRelease_held (h : s.holds.list.find? (selects g.payload) = some e) (hs : e.state = .held) :
    s.takeRelease g = (s.setHoldState e.rack (disposed (byteAt g.payload 5))).post g.src kindReleaseAnswer
      (g.payload.take 5 ++ (1 :: (if e.serial.isSome then 3 else 1) :: byteOf e.rack.val ::
        (optWord e.serial ++ [(disposed (byteAt g.payload 5)).code]))) := by
  rw [State.takeRelease, if_neg (by simp [hok]), h]
  dsimp only
  rw [hs, releaseAnswer_found]
  rfl

end

/-- A new state for the one entry at a rack position. -/
theorem State.setHoldState_eq {before after : List HoldEntry} {e : HoldEntry} (hl : s.holds.list = before ++ e :: after)
    (h : ∀ x ∈ before ++ after, x.rack ≠ e.rack) (st : HoldState) : s.setHoldState e.rack st = { s with
      holds := { s.holds with list := before ++ { e with state := st } :: after } } := by
  have hkept (l : List HoldEntry) (hl : ∀ x ∈ l, x.rack ≠ e.rack) :
      l.map (fun x => if x.rack = e.rack then { x with state := st } else x) = l :=
    (List.map_congr_left fun x hx => if_neg (hl x hx)).trans l.map_id
  rw [State.setHoldState, hl, List.map_append, List.map_cons, if_pos rfl,
    hkept before fun x hx => h x (List.mem_append_left _ hx), hkept after fun x hx => h x (List.mem_append_right _ hx)]

end

/-- Settles O48: the form, then the first entry that the selector names, and its state. -/
theorem releaseAnswered : Obligations.ReleaseAnswered := by
  intro s g rest hl hg hk p popped passes named answer found
  have hok : releaseOk p = true ↔ passes := releaseOk_iff p
  rw [State.exec_release hl hg hk]
  refine ⟨fun hn hlen => ?_, fun hlen => ?_, fun hp => ?_⟩
  · rw [State.takeRelease_malformed_whole (Bool.eq_false_iff.2 fun h => hn (hok.1 h)) hlen]
  · have hn : ¬ passes := fun hp => by have := hp.1; omega
    obtain ⟨more, hmore, htake⟩ := State.takeRelease_malformed_short (s := popped)
      (Bool.eq_false_iff.2 fun h => hn (hok.1 h)) hlen
    exact ⟨more, hmore, congrArg _ htake⟩
  · have hform := hok.2 hp
    obtain ⟨-, hkind, -⟩ := hp
    have hnamed (e : HoldEntry) : selects p e = true ↔ named e := selects_iff (hkind.imp_right And.left)
    refine ⟨fun hno => ?_, fun before e after hlist hbefore he => ?_⟩
    · rw [State.takeRelease_notHeld (s := popped) hform (List.find?_eq_none.2 fun e he h => hno e he ((hnamed e).1 h))]
    have hfirst : popped.holds.list.find? (selects p) = some e := List.find?_eq_some_iff_append.2
      ⟨(hnamed e).2 he, before, after, hlist, fun x hx => by simpa using mt (hnamed x).1 (hbefore x hx)⟩
    refine ⟨fun hs => ?_, fun hs => ?_, fun hs hothers => ⟨fun hd => ?_, fun hd => ?_⟩⟩
    · rw [State.takeRelease_released (s := popped) hform hfirst (by simp [hs]), hs]
      rfl
    · rw [State.takeRelease_released (s := popped) hform hfirst (by simp [hs]), hs]
      rfl
    · rw [State.takeRelease_held (s := popped) hform hfirst hs, State.setHoldState_eq (s := popped) hlist hothers, disposed,
        if_pos hd]
      rfl
    · rw [State.takeRelease_held (s := popped) hform hfirst hs, State.setHoldState_eq (s := popped) hlist hothers, disposed,
        if_neg (show ¬ byteAt g.payload 5 = 1 by rw [show byteAt g.payload 5 = 2 from hd]; decide)]
      rfl

end Sys2Proof.Machine

end

section

namespace Sys2Proof.Machine

/-! ## The match of a lot filter (R182) -/

/-- Two words agree outside a mask exactly where they agree at every bit that the mask holds 0 at. -/
theorem and_not_mask_eq_iff {n : Nat} (a b mask : BitVec n) : (a &&& ~~~mask) = (b &&& ~~~mask) ↔
    ∀ i, i < n → mask.getLsbD i = false → a.getLsbD i = b.getLsbD i := by
  constructor
  · intro h i hi hm
    have hbit := congrArg (BitVec.getLsbD · i) h
    simpa only [BitVec.getLsbD_and, BitVec.getLsbD_not, hi, hm, decide_true, Bool.not_false, Bool.and_true] using hbit
  · intro h
    refine BitVec.eq_of_getLsbD_eq fun i hi => ?_
    cases hm : mask.getLsbD i with
    | true => simp [hm]
    | false => simp [hm, h i hi hm]

section
variable {f : LotFilter} {variant lot : Half}

theorem LotFilter.hits_iff : f.hits variant lot = true ↔
    (∀ i, i < 16 → f.variantMask.getLsbD i = false → variant.getLsbD i = f.variantBase.getLsbD i) ∧
      (∀ i, i < 16 → f.lotMask.getLsbD i = false → lot.getLsbD i = f.lotBase.getLsbD i) := by
  rw [LotFilter.hits, Bool.and_eq_true, beq_iff_eq, beq_iff_eq, and_not_mask_eq_iff, and_not_mask_eq_iff]

/-- A full mask leaves nothing of a value to compare. -/
theorem and_not_full (v : Half) : v &&& ~~~(0xFFFF : Half) = 0 := BitVec.and_zero

/-- An empty mask leaves the whole value. -/
theorem and_not_empty (v : Half) : v &&& ~~~(0 : Half) = v := BitVec.and_allOnes

theorem LotFilter.hits_of_full_variantMask (h : f.variantMask = 0xFFFF) (w : Half) : f.hits variant lot = f.hits w lot := by
  simp only [LotFilter.hits, h, and_not_full]

theorem LotFilter.hits_of_full_lotMask (h : f.lotMask = 0xFFFF) (w : Half) : f.hits variant lot = f.hits variant w := by
  simp only [LotFilter.hits, h, and_not_full]

theorem LotFilter.variant_of_hits (h : f.variantMask = 0) (hh : f.hits variant lot = true) : variant = f.variantBase := by
  simp only [LotFilter.hits, h, and_not_empty, Bool.and_eq_true, beq_iff_eq] at hh
  exact hh.1

theorem LotFilter.lot_of_hits (h : f.lotMask = 0) (hh : f.hits variant lot = true) : lot = f.lotBase := by
  simp only [LotFilter.hits, h, and_not_empty, Bool.and_eq_true, beq_iff_eq] at hh
  exact hh.2

end

section
variable {s : State} {r : Record}

theorem State.applyFilters_of_lotHeld (h : s.lotHeld r.trav.variant r.trav.lot) : s.applyFilters r = r.addReason .lotHold := by
  rw [State.applyFilters, (State.anyFilter_iff _ _).2 h]
  rfl

theorem State.applyFilters_of_not_lotHeld (h : ¬ s.lotHeld r.trav.variant r.trav.lot) : s.applyFilters r = r := by
  rw [State.applyFilters, Bool.eq_false_iff.2 fun hany => h ((State.anyFilter_iff _ _).1 hany)]
  rfl

end

/-- Settles O49: the masked comparison bit by bit, and LOT_HOLD by whether any stored filter matches. -/
theorem lotFilterMatches : Obligations.LotFilterMatches := by
  refine ⟨fun f variant lot => LotFilter.hits_iff, fun f variant lot => ⟨fun h => LotFilter.hits_of_full_variantMask h,
    LotFilter.variant_of_hits, fun h => LotFilter.hits_of_full_lotMask h, LotFilter.lot_of_hits⟩,
    fun s r => ⟨State.applyFilters_of_lotHeld, fun h => State.applyFilters_of_not_lotHeld ?_⟩⟩
  rintro ⟨k, f, hf, hhit⟩
  cases (h k f hf).symm.trans hhit

end Sys2Proof.Machine

end

section

namespace Sys2Proof.Machine

/-! ## The slot of a lot filter (R181) -/

section
variable {s : State} {id : Byte} {k : Fin 8}

theorem mem_filterSlots (k : Fin 8) : k ∈ filterSlots := by revert k; decide

theorem State.slotHolds_iff : s.slotHolds id k = true ↔ ∃ h, s.holds.filters[k] = some h ∧ h.id = id := by
  simp [State.slotHolds, Option.any_eq_true]

theorem State.filterSlot_of_id (hk : s.slotHolds id k = true) (hlow : ∀ j, j < k → s.slotHolds id j = false) :
    s.filterSlot id = some k := by
  unfold State.filterSlot
  rw [find?_of_lowest hk hlow (by decide) (mem_filterSlots k)]

section
variable (hno : ∀ j, s.slotHolds id j = false)
include hno

theorem State.filterSlot_of_no_id : s.filterSlot id = filterSlots.find? fun j => s.holds.filters[j].isNone := by
  unfold State.filterSlot
  rw [List.find?_eq_none.2 fun j _ => by simp [hno j]]

theorem State.filterSlot_of_empty (hk : s.holds.filters[k] = none) (hlow : ∀ j, j < k → s.holds.filters[j] ≠ none) :
    s.filterSlot id = some k := by
  rw [State.filterSlot_of_no_id hno]
  refine find?_of_lowest (Option.isNone_iff_eq_none.2 hk) (fun j hj => ?_) (by decide) (mem_filterSlots k)
  exact Bool.eq_false_iff.2 (mt Option.isNone_iff_eq_none.1 (hlow j hj))

theorem State.filterSlot_of_full (hfull : ∀ j : Fin 8, s.holds.filters[j] ≠ none) : s.filterSlot id = none := by
  rw [State.filterSlot_of_no_id hno]
  exact List.find?_eq_none.2 fun j _ h => hfull j (Option.isNone_iff_eq_none.1 h)

end

end

/-! ## A new filter over the table (R183) -/

/-- A record that waits for supply is SKIPPED. -/
def Record.skipWaiting (r : Record) : Record := if r.spray = .waitingSupply then { r with spray := .skipped } else r

/-- An OFFERED record is handed for diversion. -/
def Record.divertOffered (r : Record) : Record :=
  match r.handoff with
  | some (.offered _ _) => { r with handoff := none, diversion := some .waitingRack }
  | _ => r

/-- What a new filter makes of a record at a position that it matches: LOT_HOLD, and with it what SPRAY and EXIT add. -/
def Record.lotHeldAt (r : Record) (p : Position) : Record :=
  if p = .spray then (r.addReason .lotHold).skipWaiting
  else if p = .exit then (r.addReason .lotHold).divertOffered
  else r.addReason .lotHold

section
variable {s : State} {f : LotFilter} {r : Record} {p : Position}

theorem Record.divertOffered_of_offered {n : Byte} {w : OfferWait} (h : r.handoff = some (.offered n w)) :
    r.divertOffered = { r with handoff := none, diversion := some .waitingRack } := by
  unfold Record.divertOffered
  rw [h]

theorem Record.divertOffered_of_not_offered (h : ∀ n w, r.handoff ≠ some (.offered n w)) : r.divertOffered = r := by
  unfold Record.divertOffered
  split
  next n w hr => exact absurd hr (h n w)
  · rfl

theorem State.skipWaiting_of_not_waiting (h : s.sprayIs .waitingSupply = false) : s.skipWaiting = s := if_neg (by simp [h])

theorem State.skipWaiting_of_waiting (h : s.sprayIs .waitingSupply = true) : s.skipWaiting =
    { (s.atSpray fun r => { r with spray := .skipped }).endBoardClaim with spray := { s.spray with schedule := none } } := by
  unfold State.skipWaiting
  rw [if_pos h]
  simp [State.atSpray]

theorem State.skipWaiting_spray (s : State) : s.skipWaiting.table.spray = s.table.spray.map Record.skipWaiting := by
  cases hr : s.table.spray with
  | none =>
    rw [State.skipWaiting_of_not_waiting (by simp [State.sprayIs, hr]), hr]
    rfl
  | some r =>
    by_cases hw : r.spray = .waitingSupply
    · rw [State.skipWaiting_of_waiting (by rw [State.sprayIs_eq hr, hw]; rfl)]
      simp [State.atSpray, hr, Record.skipWaiting, hw]
    · rw [State.skipWaiting_of_not_waiting (by rw [State.sprayIs_eq hr]; exact beq_eq_false_iff_ne.2 hw), hr, Option.map_some,
        Record.skipWaiting, if_neg hw]

theorem State.skipWaiting_get (h : p ≠ .spray) : s.skipWaiting.table.get p = s.table.get p := by
  cases hw : s.sprayIs .waitingSupply with
  | true =>
    rw [State.skipWaiting_of_waiting hw]
    simp only [State.endBoardClaim_frame]
    exact PerPos.get_put_of_ne s.table h _
  | false => rw [State.skipWaiting_of_not_waiting hw]

theorem State.divertOffered_of_offered {n : Byte} {w : OfferWait} (hr : s.table.exit = some r)
    (hh : r.handoff = some (.offered n w)) : s.divertOffered = (s.withdrawKind kindOffer).handForDiversion := by
  unfold State.divertOffered
  rw [State.exitHandoff_eq hr, hh]

theorem State.divertOffered_of_not_offered (h : ∀ r n w, s.table.exit = some r → r.handoff ≠ some (.offered n w)) :
    s.divertOffered = s := by
  unfold State.divertOffered
  split
  next n w hh =>
    obtain ⟨r, hr, hh⟩ := Option.bind_eq_some_iff.1 hh
    exact absurd hh (h r n w hr)
  · rfl

theorem State.divertOffered_cases (s : State) : s.divertOffered = (s.withdrawKind kindOffer).handForDiversion ∧
    (∃ r n w, s.table.exit = some r ∧ r.handoff = some (.offered n w)) ∨
    s.divertOffered = s ∧ ∀ r n w, s.table.exit = some r → r.handoff ≠ some (.offered n w) := by
  by_cases h : ∃ r n w, s.table.exit = some r ∧ r.handoff = some (.offered n w)
  · obtain ⟨r, n, w, hr, hh⟩ := h
    exact .inl ⟨State.divertOffered_of_offered hr hh, r, n, w, hr, hh⟩
  · have hno : ∀ r n w, s.table.exit = some r → r.handoff ≠ some (.offered n w) := fun r n w hr hh => h ⟨r, n, w, hr, hh⟩
    exact .inr ⟨State.divertOffered_of_not_offered hno, hno⟩

theorem State.divertOffered_exit (s : State) : s.divertOffered.table.exit = s.table.exit.map Record.divertOffered := by
  rcases s.divertOffered_cases with ⟨he, r, n, w, hr, hh⟩ | ⟨he, hno⟩
  · rw [he]
    simp [State.handForDiversion, hr, Record.divertOffered_of_offered hh]
  · rw [he]
    cases hr : s.table.exit with
    | none => rfl
    | some r => rw [Option.map_some, Record.divertOffered_of_not_offered fun n w => hno r n w hr]

theorem State.divertOffered_get (h : p ≠ .exit) : s.divertOffered.table.get p = s.table.get p := by
  rcases s.divertOffered_cases with ⟨he, -⟩ | ⟨he, -⟩
  · rw [he]
    exact PerPos.get_put_of_ne s.table h _
  · rw [he]

theorem LotFilter.mark_of_hit (h : f.hits r.trav.variant r.trav.lot = true) : f.mark r = r.addReason .lotHold := if_pos h

theorem LotFilter.mark_of_miss (h : f.hits r.trav.variant r.trav.lot = false) : f.mark r = r := if_neg (by simp [h])

/-- The new filter's marks, and what SPRAY adds to them. -/
def State.markedAndSkipped (s : State) (f : LotFilter) : State :=
  if s.filterHits f .spray then (s.mapRecords fun _ r => f.mark r).skipWaiting else s.mapRecords fun _ r => f.mark r

theorem State.applyFilter_eq (s : State) (f : LotFilter) : s.applyFilter f =
    if s.filterHits f .exit then (s.markedAndSkipped f).divertOffered else s.markedAndSkipped f := rfl

theorem State.filterHits_eq (h : s.table.get p = some r) : s.filterHits f p = f.hits r.trav.variant r.trav.lot := by
  rw [State.filterHits, h]

theorem State.filterHits_of_free (h : s.table.get p = none) : s.filterHits f p = false := by
  rw [State.filterHits, h]

/-- A place that the filter does not match keeps what it has. -/
theorem State.applyFilter_get_of_miss (h : s.filterHits f p = false) : (s.applyFilter f).table.get p = s.table.get p := by
  have hmarked : (s.mapRecords fun _ r => f.mark r).table.get p = s.table.get p := by
    refine (PerPos.get_mapPos _ _ _).trans ?_
    cases hr : s.table.get p with
    | none => rfl
    | some r =>
      rw [State.filterHits_eq hr] at h
      exact congrArg some (LotFilter.mark_of_miss h)
  have hskipped : (s.markedAndSkipped f).table.get p = s.table.get p := by
    unfold State.markedAndSkipped
    split
    next hspray => exact (State.skipWaiting_get (fun hp => by rw [hp, hspray] at h; cases h)).trans hmarked
    · exact hmarked
  rw [State.applyFilter_eq]
  split
  next hexit => exact (State.divertOffered_get (fun hp => by rw [hp, hexit] at h; cases h)).trans hskipped
  · exact hskipped

theorem State.markedAndSkipped_get_of_hit (h : s.table.get p = some r) (hhit : f.hits r.trav.variant r.trav.lot = true) :
    (s.markedAndSkipped f).table.get p =
      some (if p = .spray then (r.addReason .lotHold).skipWaiting else r.addReason .lotHold) := by
  have hmarked : (s.mapRecords fun _ r => f.mark r).table.get p = some (r.addReason .lotHold) := by
    refine (PerPos.get_mapPos _ _ _).trans ?_
    rw [h]
    exact congrArg some (LotFilter.mark_of_hit hhit)
  by_cases hp : p = .spray
  · subst hp
    rw [State.markedAndSkipped, if_pos ((State.filterHits_eq h).trans hhit), if_pos rfl]
    exact (State.skipWaiting_spray _).trans (congrArg (Option.map Record.skipWaiting) hmarked)
  · rw [if_neg hp, ← hmarked, State.markedAndSkipped]
    split
    · exact State.skipWaiting_get hp
    · rfl

theorem State.applyFilter_get_of_hit (h : s.table.get p = some r) (hhit : f.hits r.trav.variant r.trav.lot = true) :
    (s.applyFilter f).table.get p = some (r.lotHeldAt p) := by
  have hskipped := State.markedAndSkipped_get_of_hit h hhit
  rw [State.applyFilter_eq]
  by_cases hx : p = .exit
  · subst hx
    rw [if_pos ((State.filterHits_eq h).trans hhit)]
    exact (State.divertOffered_exit _).trans (congrArg (Option.map Record.divertOffered) hskipped)
  · rw [Record.lotHeldAt, if_neg hx, ← hskipped]
    split
    · exact State.divertOffered_get hx
    · rfl

/-- Once a filter has diverted the record at EXIT, none of its OFFERs waits for the pair (R33). -/
theorem State.applyFilter_withdraws {n : Byte} {w : OfferWait} (h : s.table.exit = some r)
    (hhit : f.hits r.trav.variant r.trav.lot = true) (hh : r.handoff = some (.offered n w)) :
    ∀ e ∈ (s.applyFilter f).link.waitingOut ++ (s.applyFilter f).link.held, e.tg.kind ≠ kindOffer := by
  have hexit : (s.markedAndSkipped f).table.exit = some (r.addReason .lotHold) :=
    State.markedAndSkipped_get_of_hit (p := .exit) h hhit
  rw [State.applyFilter_eq, if_pos ((State.filterHits_eq (p := .exit) h).trans hhit), State.divertOffered_of_offered hexit hh]
  intro e he
  simpa using Link.not_mem_withdraw he

/-- A new filter that matches the record waiting for supply discards its schedule and ends its claim (R125). -/
theorem State.applyFilter_waiting (h : s.table.spray = some r) (hhit : f.hits r.trav.variant r.trav.lot = true)
    (hw : r.spray = .waitingSupply) : (s.applyFilter f).spray = { s.spray with schedule := none } ∧
      (s.supply.holder = some .board → s.supply.own = .waiting ∨ s.supply.own = .granted →
        (s.applyFilter f).supply = { s.supply with own := .ending }) := by
  let t : State := (s.mapRecords fun _ r => f.mark r).atSpray fun r => { r with spray := .skipped }
  have hwaits : (s.mapRecords fun _ r => f.mark r).sprayIs .waitingSupply = true := by
    have hmarked : (s.mapRecords fun _ r => f.mark r).table.spray = some (f.mark r) := congrArg (Option.map f.mark) h
    rw [State.sprayIs_eq hmarked, LotFilter.spray_mark, hw]
    rfl
  have hskipped : s.markedAndSkipped f = { t.endBoardClaim with spray := { s.spray with schedule := none } } := by
    rw [State.markedAndSkipped, if_pos ((State.filterHits_eq (p := .spray) h).trans hhit), State.skipWaiting_of_waiting hwaits]
    rfl
  have hlast : (s.applyFilter f).spray = (s.markedAndSkipped f).spray ∧
      (s.applyFilter f).supply = (s.markedAndSkipped f).supply := by
    rw [State.applyFilter_eq]
    split <;> simp
  rw [hlast.1, hlast.2, hskipped]
  refine ⟨rfl, fun hb ho => ?_⟩
  show t.endBoardClaim.supply = _
  rw [State.endBoardClaim, if_pos (show t.supply.holder = some .board from hb), State.endClaim_of_active (s := t) ho]
  rfl

end

/-! ## The commands (R181, R185) -/

section
variable {s : State} {g : Telegram} {rest : List Telegram} {k : Fin 8}

theorem State.exec_lotHold (hl : s.loaded = true) (hg : s.link.inbound = g :: rest) (hk : g.kind = kindLotHold) :
    exec .lotHold s = .next (State.starts (State.takeLotHold { s with link := s.link.popInbound } g)) :=
  congrArg Host.Outcome.next (State.hand_untracked (fun t g => (t.takeLotHold g).starts) hl hg hk rfl)

theorem State.exec_lotLift (hl : s.loaded = true) (hg : s.link.inbound = g :: rest) (hk : g.kind = kindLotLift) :
    exec .lotLift s = .next (State.takeLotLift { s with link := s.link.popInbound } g) :=
  congrArg Host.Outcome.next (State.hand_untracked State.takeLotLift hl hg hk rfl)

theorem State.takeLotHold_misfit (h : g.payload.length ≠ 9 ∨ byteAt g.payload 0 = 0) : s.takeLotHold g = s := if_pos h

section
variable (hlen : g.payload.length = 9) (hid : byteAt g.payload 0 ≠ 0)
include hlen hid

theorem State.takeLotHold_full (h : s.filterSlot (byteAt g.payload 0) = none) :
    s.takeLotHold g = s.notice 11 [byteAt g.payload 0] := by
  unfold State.takeLotHold
  dsimp only
  rw [show (filterAt g.payload).id = byteAt g.payload 0 from rfl, if_neg (not_or.2 ⟨not_not_intro hlen, hid⟩), h]

theorem State.takeLotHold_stored (h : s.filterSlot (byteAt g.payload 0) = some k) :
    s.takeLotHold g = (s.setFilter k (some (filterAt g.payload))).applyFilter (filterAt g.payload) := by
  unfold State.takeLotHold
  dsimp only
  rw [show (filterAt g.payload).id = byteAt g.payload 0 from rfl, if_neg (not_or.2 ⟨not_not_intro hlen, hid⟩), h]

end

theorem State.takeLotLift_misfit (h : g.payload.length ≠ 1) : s.takeLotLift g = s := if_pos h

theorem State.takeLotLift_lifts (h : g.payload.length = 1) : s.takeLotLift g = { s with holds := { s.holds with
    filters := s.holds.filters.mapIdx fun _ o => liftSlot (byteAt g.payload 0) o } } := if_neg (not_not_intro h)

/-- Id 0 empties every slot, another the slots that hold it. -/
theorem liftSlot_cases (id : Byte) (o : Option LotFilter) : (id = 0 → liftSlot id o = none) ∧
    (∀ h, o = some h → h.id = id → liftSlot id o = none) ∧
    (id ≠ 0 → (∀ h, o = some h → h.id ≠ id) → liftSlot id o = o) := by
  cases o with
  | none => exact ⟨fun _ => rfl, fun _ _ _ => rfl, fun _ _ => rfl⟩
  | some f =>
    refine ⟨fun h => if_pos (.inl h), ?_, fun hn hf => if_neg (not_or.2 ⟨hn, hf f rfl⟩)⟩
    rintro h ⟨⟩ hid
    exact if_pos (.inr hid)

end

section
variable {r : Record} {p : Position}

theorem Record.skipWaiting_eq (r : Record) :
    r.skipWaiting = { r with spray := if r.spray = .waitingSupply then .skipped else r.spray } := by
  unfold Record.skipWaiting
  split <;> rfl

theorem Record.divertOffered_eq (r : Record) : ∃ handoff diversion,
    r.divertOffered = { r with handoff := handoff, diversion := diversion } := by
  unfold Record.divertOffered
  split
  · exact ⟨_, _, rfl⟩
  · exact ⟨r.handoff, r.diversion, rfl⟩

/-- What LOT_HOLD leaves of a record, and the spray state it gives. -/
theorem Record.lotHeldAt_frame (r : Record) (p : Position) : (r.lotHeldAt p).trav = (r.addReason .lotHold).trav ∧
    (r.lotHeldAt p).recipe = r.recipe ∧ (r.lotHeldAt p).dose = r.dose ∧ (r.lotHeldAt p).elapsed = r.elapsed ∧
    (r.lotHeldAt p).verdicts = r.verdicts ∧ (r.lotHeldAt p).film = r.film ∧
    (r.lotHeldAt p).spray = if p = .spray ∧ r.spray = .waitingSupply then .skipped else r.spray := by
  unfold Record.lotHeldAt
  split
  next hp =>
    have hwaits : p = .spray ∧ r.spray = .waitingSupply ↔ r.spray = .waitingSupply := and_iff_right hp
    rw [Record.skipWaiting_eq]
    exact ⟨rfl, rfl, rfl, rfl, rfl, rfl, (if_congr hwaits rfl rfl).symm⟩
  next hp =>
    rw [if_neg (not_and.2 fun h => absurd h hp)]
    split
    · obtain ⟨handoff, diversion, he⟩ := (r.addReason .lotHold).divertOffered_eq
      rw [he]
      exact ⟨rfl, rfl, rfl, rfl, rfl, rfl, rfl⟩
    · exact ⟨rfl, rfl, rfl, rfl, rfl, rfl, rfl⟩

theorem Record.lotHeldAt_offered {n : Byte} {w : OfferWait} (h : r.handoff = some (.offered n w)) :
    (r.lotHeldAt .exit).handoff = none ∧ (r.lotHeldAt .exit).diversion = some .waitingRack := by
  rw [Record.lotHeldAt, if_neg (by decide), if_pos rfl, Record.divertOffered_of_offered (r := r.addReason .lotHold) h]
  exact ⟨rfl, rfl⟩

theorem Record.lotHeldAt_not_offered (h : ¬ (p = .exit ∧ ∃ n w, r.handoff = some (.offered n w))) :
    (r.lotHeldAt p).handoff = r.handoff ∧ (r.lotHeldAt p).diversion = r.diversion := by
  unfold Record.lotHeldAt
  split
  · rw [Record.skipWaiting_eq]
    exact ⟨rfl, rfl⟩
  · split
    next hx =>
      rw [Record.divertOffered_of_not_offered (r := r.addReason .lotHold) fun n w hh => h ⟨hx, n, w, hh⟩]
      exact ⟨rfl, rfl⟩
    · exact ⟨rfl, rfl⟩

end

/-- Settles O50: the slot by its id or the lowest empty one; the new filter record by record; and the slots that a lift empties. -/
theorem lotFiltersStoredAndApplied : Obligations.LotFiltersStoredAndApplied := by
  refine ⟨fun s g rest hl hg hk => ?_, fun s g rest hl hg hk => ?_⟩
  · intro p popped f holds
    have hholds (j : Fin 8) : popped.slotHolds (byteAt p 0) j = true ↔ holds j := State.slotHolds_iff
    have hother {j : Fin 8} (h : ¬ holds j) : popped.slotHolds (byteAt p 0) j = false := Bool.eq_false_iff.2 (mt (hholds j).1 h)
    rw [State.exec_lotHold hl hg hk]
    refine ⟨fun h => ?_, fun hlen hid hfull => ?_, fun k hlen hid hslot => ?_⟩
    · rw [State.takeLotHold_misfit h]
    · have hnone : popped.filterSlot (byteAt p 0) = none :=
        State.filterSlot_of_full (fun j => hother (hfull j).2) fun j => (hfull j).1
      rw [State.takeLotHold_full hlen hid hnone]
    · have hsome : popped.filterSlot (byteAt p 0) = some k := by
        rcases hslot with ⟨hk, hlow⟩ | ⟨hno, hk, hlow⟩
        · exact State.filterSlot_of_id ((hholds k).2 hk) fun j hj => hother (hlow j hj)
        · exact State.filterSlot_of_empty (fun j => hother (hno j)) hk hlow
      let t : State := popped.setFilter k (some f)
      have ht : t.table = s.table := rfl
      refine ⟨t.applyFilter f, congrArg _ (congrArg _ (State.takeLotHold_stored hlen hid hsome)),
        by simp [t, State.setFilter, popped], by simp [t, popped], by simp [t, popped], by simp [t, popped], by simp [t, popped], by simp [t, popped],
        fun q hq => ?_, fun q r hr hmiss => ?_, fun q r hr hhit => ?_,
        fun r hr hhit hw => State.applyFilter_waiting (s := t) hr hhit hw⟩
      · rw [State.applyFilter_get_of_miss (State.filterHits_of_free (s := t) hq), ht, hq]
      · rw [State.applyFilter_get_of_miss ((State.filterHits_eq (s := t) hr).trans hmiss), ht, hr]
      · obtain ⟨htrav, hrecipe, hdose, helapsed, hverdicts, hfilm, hspray⟩ := r.lotHeldAt_frame q
        refine ⟨r.lotHeldAt q, State.applyFilter_get_of_hit (s := t) hr hhit, htrav, hrecipe, hdose, helapsed, hverdicts, hfilm,
          hspray, ?_, Record.lotHeldAt_not_offered⟩
        rintro ⟨rfl, n, w, hh⟩
        obtain ⟨hhandoff, hdiversion⟩ := Record.lotHeldAt_offered hh
        exact ⟨hhandoff, hdiversion, State.applyFilter_withdraws (s := t) hr hhit hh⟩
  · intro popped
    rw [State.exec_lotLift hl hg hk]
    refine ⟨fun h => ?_, fun h => ⟨_, congrArg _ (State.takeLotLift_lifts h), rfl, fun k => ?_⟩⟩
    · rw [State.takeLotLift_misfit h]
    · simpa using liftSlot_cases (byteAt g.payload 0) s.holds.filters[k]

end Sys2Proof.Machine

end

section

namespace Sys2Proof.Machine

/-! ## When a counter counts an event, and when its action begins (R193 to R195) -/

section
variable {c : WatchCfg} {w : WatchCounter} {src : Source} {margin : Int}

theorem Source.isMargin_iff : src.isMargin = true ↔ src = .filmMargin ∨ src = .cureMargin := by
  simp [Source.isMargin]

/-- An event without a margin qualifies; one with a margin qualifies by its comparison (R193). -/
theorem WatchCfg.qualifies_iff : c.qualifies margin = true ↔ (c.source = .filmMargin ∨ c.source = .cureMargin →
    (c.compare = .atLeast → c.threshold ≤ margin) ∧ (c.compare = .below → margin < c.threshold)) := by
  rw [← Source.isMargin_iff]
  unfold WatchCfg.qualifies
  cases c.source.isMargin <;> cases c.compare <;> simp

/-- A qualified event is counted but for one that an EDGE counter of margins has marked (R194). -/
theorem WatchCfg.counts_iff : c.counts w margin = true ↔ c.qualifies margin = true ∧
    ¬ (c.mode = .edge ∧ (c.source = .filmMargin ∨ c.source = .cureMargin) ∧ w.edgeMark = true) := by
  rw [← Source.isMargin_iff]
  simp only [WatchCfg.counts, Bool.and_eq_true, Bool.not_eq_true', beq_iff_eq, ← Bool.not_eq_true, and_assoc]

theorem WatchCounter.begins_iff :
    w.begins c margin = true ↔ c.counts w margin = true ∧ w.count = 0xFFFF ∧ w.armed = false := by
  simp [WatchCounter.begins, and_assoc]

theorem WatchCounter.event_of_not_counts (h : ¬ c.counts w margin = true) :
    w.event c margin = { w with edgeMark := c.qualifies margin } := if_neg h

theorem WatchCounter.event_of_raised (h : c.counts w margin = true) (hw : w.count ≠ 0xFFFF) :
    w.event c margin = { w with edgeMark := c.qualifies margin, count := w.count + 1 } :=
  (if_pos h).trans (if_neg hw)

theorem WatchCounter.event_of_overflow (h : c.counts w margin = true) (hw : w.count = 0xFFFF) :
    w.event c margin = { count := 0, flag := true, armed := true, edgeMark := c.qualifies margin } :=
  (if_pos h).trans (if_pos hw)

end

/-! ## A counter that an event has reached (R192, R197) -/

/-- A counter after an event of a source and the action that the event begins there: a NOTICE reloads and disarms it (R197). -/
def WatchCounter.reachedBy (w : WatchCounter) (c : WatchCfg) (src : Source) (margin : Int) : WatchCounter :=
  if c.source = src then
    if w.begins c margin = true ∧ c.action = .notice then { w.event c margin with count := c.reload, armed := false }
    else w.event c margin
  else w

section
variable {c : WatchCfg} {w : WatchCounter} {src : Source} {margin : Int}

theorem WatchCounter.reachedBy_of_other (h : c.source ≠ src) : w.reachedBy c src margin = w := if_neg h

theorem WatchCounter.reachedBy_of_notice (h : c.source = src) (hb : w.begins c margin = true) (ha : c.action = .notice) :
    w.reachedBy c src margin = { w.event c margin with count := c.reload, armed := false } :=
  (if_pos h).trans (if_pos ⟨hb, ha⟩)

theorem WatchCounter.reachedBy_of_no_notice (h : c.source = src) (hn : ¬ (w.begins c margin = true ∧ c.action = .notice)) :
    w.reachedBy c src margin = w.event c margin :=
  (if_pos h).trans (if_neg hn)

end

/-! ## An event reported, counter by counter (R192, R203, log 50) -/

/-- The event overflows the counter, which is of its source and not armed, so the counter's action begins, and it is `a`. -/
def State.beginsAt (s : State) (src : Source) (margin : Int) (a : WatchAction) (i : Fin 4) : Bool :=
  s.cfg.watch[i].source == src && s.watch[i].begins s.cfg.watch[i] margin && s.cfg.watch[i].action == a

/-- The counters below `n` at which the event begins the action `a`, in counter order. -/
def State.begun (s : State) (src : Source) (margin : Int) (a : WatchAction) (n : Nat) : List (Fin 4) :=
  ((List.finRange 4).take n).filter (s.beginsAt src margin a)

/-- The counters when the event has reached those below `n`. -/
def State.watchUpTo (s : State) (src : Source) (margin : Int) (n : Nat) : Vector WatchCounter 4 :=
  Vector.ofFn fun j => if j.val < n then s.watch[j].reachedBy s.cfg.watch[j] src margin else s.watch[j]

/-- The flags that the NOTICE WATCH of a counter shows: the event has reached that counter and those before it (log 50). -/
def State.noticeFlags (s : State) (src : Source) (margin : Int) (i : Fin 4) : Byte :=
  flagByte ((s.watchUpTo src margin (i.val + 1)).toList.map (·.flag))

/-- The NOTICE WATCH of a counter posted, where there is a terminal (R196, R216). -/
def State.postWatchNotice (s : State) (src : Source) (margin : Int) (l : Link) (i : Fin 4) : Link :=
  if s.cfg.terminal = 0 then l else l.post (s.telegram s.cfg.terminal kindNotice
    (7 :: byteOf i.val :: src.code :: (be16 s.cfg.watch[i].reload ++ s.noticeFlags src margin i :: be32 s.seconds)))

/-- The state when the event has reached the counters below `n`. -/
def State.reportedUpTo (s : State) (src : Source) (margin : Int) (n : Nat) : State := { s with
  watch := s.watchUpTo src margin n
  link := (s.begun src margin .notice n).foldl (s.postWatchNotice src margin) s.link
  spray := (s.begun src margin .purge n).foldl (fun sp _ => sp.requestPurge) s.spray }

section
variable {s : State} {src : Source} {margin : Int} {a : WatchAction} {i : Fin 4}

theorem State.beginsAt_iff : s.beginsAt src margin a i = true ↔
    s.cfg.watch[i].source = src ∧ s.watch[i].begins s.cfg.watch[i] margin = true ∧ s.cfg.watch[i].action = a := by
  simp [State.beginsAt, and_assoc]

theorem State.beginsAt_of_other (h : s.cfg.watch[i].source ≠ src) : s.beginsAt src margin a i = false :=
  Bool.eq_false_iff.2 fun hb => h (State.beginsAt_iff.1 hb).1

theorem State.beginsAt_of_not_begins (h : ¬ s.watch[i].begins s.cfg.watch[i] margin = true) : s.beginsAt src margin a i = false :=
  Bool.eq_false_iff.2 fun hb => h (State.beginsAt_iff.1 hb).2.1

theorem State.beginsAt_eq (h : s.cfg.watch[i].source = src) (hb : s.watch[i].begins s.cfg.watch[i] margin = true) :
    s.beginsAt src margin a i = (s.cfg.watch[i].action == a) := by
  rw [Bool.eq_iff_iff, State.beginsAt_iff, and_iff_right h, and_iff_right hb, beq_iff_eq]

theorem State.begun_succ (s : State) (src : Source) (margin : Int) (a : WatchAction) (i : Fin 4) :
    s.begun src margin a (i.val + 1) = s.begun src margin a i.val ++ if s.beginsAt src margin a i then [i] else [] := by
  have hi : (List.finRange 4)[i.val]? = some i := by simp
  rw [State.begun, List.take_add_one, List.filter_append, hi]
  simp [State.begun, List.filter_cons]

theorem State.mem_begun : i ∈ s.begun src margin a 4 ↔ s.beginsAt src margin a i = true := by
  have hall : (List.finRange 4).take 4 = List.finRange 4 := rfl
  rw [State.begun, hall, List.mem_filter, and_iff_right (List.mem_finRange i)]

theorem State.begun_pairwise (n : Nat) : (s.begun src margin a n).Pairwise (· < ·) := by
  have h : (List.finRange 4).Pairwise (· < ·) := by decide
  exact (h.sublist (List.take_sublist n _)).filter _

/-- What the event has reached differs by the counter that it reaches next. -/
theorem State.watchUpTo_succ (s : State) (src : Source) (margin : Int) (i : Fin 4) : s.watchUpTo src margin (i.val + 1) =
    (s.watchUpTo src margin i.val).set i.val (s.watch[i].reachedBy s.cfg.watch[i] src margin) i.isLt := by
  refine Vector.ext fun j hj => ?_
  rw [Vector.getElem_set]
  split
  next h => subst h; simp [State.watchUpTo]
  next h =>
    have hlt : j < i.val + 1 ↔ j < i.val := by omega
    simp only [State.watchUpTo, Vector.getElem_ofFn, hlt]

theorem State.watchUpTo_getElem (n : Nat) : (s.watchUpTo src margin n)[i] =
    if i.val < n then s.watch[i].reachedBy s.cfg.watch[i] src margin else s.watch[i] := by
  simp [State.watchUpTo]

/-- The event at its next counter: the counter is reached, a NOTICE that begins there is posted, a PURGE that begins is requested. -/
theorem State.reportedUpTo_succ (s : State) (src : Source) (margin : Int) (i : Fin 4) :
    s.reportedUpTo src margin (i.val + 1) = { s.reportedUpTo src margin i.val with
      watch := (s.watchUpTo src margin i.val).set i.val (s.watch[i].reachedBy s.cfg.watch[i] src margin) i.isLt
      link := if s.beginsAt src margin .notice i then s.postWatchNotice src margin (s.reportedUpTo src margin i.val).link i
        else (s.reportedUpTo src margin i.val).link
      spray := if s.beginsAt src margin .purge i then (s.reportedUpTo src margin i.val).spray.requestPurge
        else (s.reportedUpTo src margin i.val).spray } := by
  have hif {α : Type} (b : Bool) (f : α → Fin 4 → α) (l : List (Fin 4)) (x : α) :
      (l ++ if b then [i] else []).foldl f x = if b then f (l.foldl f x) i else l.foldl f x := by
    cases b <;> simp
  rw [State.reportedUpTo, State.watchUpTo_succ, State.begun_succ, State.begun_succ, hif, hif]
  rfl

end

/-! ### The action begun -/

section
variable {s : State} {i : Fin 4}

theorem State.beginAction_of_silent (hn : s.cfg.watch[i].action ≠ .notice) (hp : s.cfg.watch[i].action ≠ .purge) :
    s.beginAction i = s := by
  unfold State.beginAction
  dsimp only
  split
  · rfl
  · rfl
  · exact absurd ‹_› hp
  · exact absurd ‹_› hn

/-- A PURGE counter's action: the purge is requested (R201). -/
theorem State.beginAction_of_purge (h : s.cfg.watch[i].action = .purge) :
    s.beginAction i = { s with spray := s.spray.requestPurge } := by
  unfold State.beginAction
  dsimp only
  rw [h]

/-- A NOTICE counter's action: NOTICE WATCH is posted where there is a terminal, and it is reloaded (R196, R197). -/
theorem State.beginAction_of_notice (h : s.cfg.watch[i].action = .notice) : s.beginAction i = { s with
    watch := s.watch.set i.val { s.watch[i] with count := s.cfg.watch[i].reload, armed := false } i.isLt
    link := if s.cfg.terminal = 0 then s.link else s.link.post (s.telegram s.cfg.terminal kindNotice
      (7 :: byteOf i.val :: s.cfg.watch[i].source.code ::
        (be16 s.cfg.watch[i].reload ++ flagByte s.watchFlags :: be32 s.seconds))) } := by
  unfold State.beginAction
  dsimp only
  rw [h]
  dsimp only
  unfold State.notice
  split <;> rfl

end

/-! ### The report -/

section
variable {s : State} {src : Source} {margin : Int} {i : Fin 4}

/-- The counters when the event has raised counter `i` and its action is still to begin. -/
def State.watchRaised (s : State) (src : Source) (margin : Int) (i : Fin 4) : Vector WatchCounter 4 :=
  (s.watchUpTo src margin i.val).set i.val (s.watch[i].event s.cfg.watch[i] margin) i.isLt

section
variable (hs : s.cfg.watch[i].source = src) (hb : s.watch[i].begins s.cfg.watch[i] margin = true)
include hs hb

/-- A NOTICE's reload of its counter (R197) ends what the event does there. -/
theorem State.watchRaised_reloaded (hn : s.cfg.watch[i].action = .notice) : (s.watchRaised src margin i).set i.val
      { (s.watchRaised src margin i)[i] with count := s.cfg.watch[i].reload, armed := false } i.isLt =
    (s.watchUpTo src margin i.val).set i.val (s.watch[i].reachedBy s.cfg.watch[i] src margin) i.isLt := by
  have hi : (s.watchRaised src margin i)[i] = s.watch[i].event s.cfg.watch[i] margin := Vector.getElem_set_self _
  rw [hi, WatchCounter.reachedBy_of_notice hs hb hn, State.watchRaised, Vector.set_set]

/-- The reload leaves the flag, so the flags of a NOTICE WATCH are those before it. -/
theorem State.noticeFlags_eq (hn : s.cfg.watch[i].action = .notice) :
    s.noticeFlags src margin i = flagByte ((s.watchRaised src margin i).toList.map (·.flag)) := by
  rw [State.noticeFlags, State.watchUpTo_succ, WatchCounter.reachedBy_of_notice hs hb hn, State.watchRaised]
  simp only [Vector.toList_set, List.map_set]

/-- The action of a counter begins after those of the counters before it (R203). -/
theorem State.beginAction_reportedUpTo :
    State.beginAction { s.reportedUpTo src margin i.val with watch := s.watchRaised src margin i } i =
      s.reportedUpTo src margin (i.val + 1) := by
  rw [State.reportedUpTo_succ, State.beginsAt_eq hs hb, State.beginsAt_eq hs hb]
  by_cases hn : s.cfg.watch[i].action = .notice
  · refine (State.beginAction_of_notice ?_).trans ?_
    · exact hn
    · rw [← State.watchRaised_reloaded hs hb hn, State.postWatchNotice, State.noticeFlags_eq hs hb hn, hn, ← hs]
      rfl
  · rw [WatchCounter.reachedBy_of_no_notice hs fun h => hn h.2]
    by_cases hp : s.cfg.watch[i].action = .purge
    · refine (State.beginAction_of_purge ?_).trans ?_
      · exact hp
      · rw [hp]
        rfl
    · refine (State.beginAction_of_silent ?_ ?_).trans ?_
      · exact hn
      · exact hp
      · rw [beq_eq_false_iff_ne.2 hn, beq_eq_false_iff_ne.2 hp]
        rfl

end

/-- The event at the counter behind those it has reached. -/
theorem State.reportTo_reportedUpTo (s : State) (src : Source) (margin : Int) (i : Fin 4) :
    State.reportTo src margin (s.reportedUpTo src margin i.val) i = s.reportedUpTo src margin (i.val + 1) := by
  have hw : (s.reportedUpTo src margin i.val).watch[i] = s.watch[i] :=
    (State.watchUpTo_getElem i.val).trans (if_neg (lt_irrefl _))
  have hc : (s.reportedUpTo src margin i.val).cfg = s.cfg := rfl
  unfold State.reportTo
  dsimp only
  rw [hw, hc]
  by_cases hs : s.cfg.watch[i].source = src
  · rw [if_pos hs]
    by_cases hb : s.watch[i].begins s.cfg.watch[i] margin = true
    · rw [if_pos hb]
      exact State.beginAction_reportedUpTo hs hb
    · rw [if_neg hb, State.reportedUpTo_succ, State.beginsAt_of_not_begins hb, State.beginsAt_of_not_begins hb,
        WatchCounter.reachedBy_of_no_notice hs fun h => hb h.1]
      rfl
  · have hsame : (s.watchUpTo src margin i.val).set i.val s.watch[i] i.isLt = s.watchUpTo src margin i.val := by
      rw [← hw]
      exact Vector.set_getElem_self _
    rw [if_neg hs, State.reportedUpTo_succ, State.beginsAt_of_other hs, State.beginsAt_of_other hs,
      WatchCounter.reachedBy_of_other hs, hsame]
    rfl

theorem State.reportedUpTo_zero (s : State) (src : Source) (margin : Int) : s.reportedUpTo src margin 0 = s := by
  have hw : s.watchUpTo src margin 0 = s.watch := Vector.ext fun j hj => by simp [State.watchUpTo]
  rw [State.reportedUpTo, hw]
  rfl

theorem State.foldl_reportTo (s : State) (src : Source) (margin : Int) {n : Nat} (hn : n ≤ 4) :
    ((List.finRange 4).take n).foldl (State.reportTo src margin) s = s.reportedUpTo src margin n := by
  induction n with
  | zero => exact (s.reportedUpTo_zero src margin).symm
  | succ n ih =>
    have hget : (List.finRange 4)[n]? = some ⟨n, hn⟩ := by simp [Nat.lt_of_succ_le hn]
    rw [List.take_add_one, hget, List.foldl_append, ih (Nat.le_of_succ_le hn)]
    exact State.reportTo_reportedUpTo s src margin ⟨n, hn⟩

/-- An event reported has reached every counter. -/
theorem State.report_eq (s : State) (src : Source) (margin : Int) : s.report src margin = s.reportedUpTo src margin 4 := by
  have hall : ([0, 1, 2, 3] : List (Fin 4)) = (List.finRange 4).take 4 := rfl
  rw [State.report, hall, s.foldl_reportTo src margin le_rfl]

theorem State.report_counter (i : Fin 4) :
    (s.report src margin).watch[i] = s.watch[i].reachedBy s.cfg.watch[i] src margin := by
  rw [State.report_eq]
  exact (State.watchUpTo_getElem 4).trans (if_pos i.isLt)

theorem State.noticeFlags_lt (s : State) (src : Source) (margin : Int) (i : Fin 4) : (s.noticeFlags src margin i).toNat < 16 :=
  flagByte_four_lt _ _ _ _

/-- A NOTICE WATCH shows the flags of its counter and of those before it as the event leaves them, the others as it finds them
(log 50). -/
theorem State.getLsbD_noticeFlags (s : State) (src : Source) (margin : Int) (i j : Fin 4) :
    (s.noticeFlags src margin i).getLsbD j.val = if j ≤ i then (s.report src margin).watch[j].flag else s.watch[j].flag := by
  have hj : j.val < 4 := j.isLt
  have hle : j.val < i.val + 1 ↔ j ≤ i := Nat.lt_succ_iff
  rw [State.noticeFlags, getLsbD_flagByte _ (by omega), State.report_counter, ← apply_ite WatchCounter.flag]
  simp only [← hle, ← State.watchUpTo_getElem]
  simp [hj]

/-! ### The purge that a report requests (R109, R201) -/

theorem Sprayer.foldl_requestPurge {l : List (Fin 4)} (h : l ≠ []) (sp : Sprayer) :
    l.foldl (fun sp _ => sp.requestPurge) sp = sp.requestPurge := by
  induction l generalizing sp with
  | nil => exact absurd rfl h
  | cons i l ih =>
    rw [List.foldl_cons]
    rcases eq_or_ne l [] with rfl | hl
    · rfl
    · rw [ih hl, sp.requestPurge_idem]

theorem Sprayer.requestPurge_purge_ne_none (sp : Sprayer) : sp.requestPurge.purge ≠ .none := by
  unfold Sprayer.requestPurge
  cases sp.purge <;> simp

theorem State.report_spray_of_purge (h : s.beginsAt src margin .purge i = true) :
    (s.report src margin).spray = s.spray.requestPurge := by
  rw [State.report_eq]
  exact Sprayer.foldl_requestPurge (List.ne_nil_of_mem (State.mem_begun.2 h)) s.spray

theorem State.report_spray_of_no_purge (h : ∀ i : Fin 4, s.cfg.watch[i].source = src → s.cfg.watch[i].action ≠ .purge) :
    (s.report src margin).spray = s.spray := by
  have hnil : s.begun src margin .purge 4 = [] := List.eq_nil_iff_forall_not_mem.2 fun i hi => by
    obtain ⟨hs, -, ha⟩ := State.beginsAt_iff.1 (State.mem_begun.1 hi)
    exact h i hs ha
  rw [State.report_eq, State.reportedUpTo, hnil]
  rfl

/-- All that a report may change. -/
theorem State.report_changes (s : State) (src : Source) (margin : Int) : s.report src margin = { s with
    watch := (s.report src margin).watch
    link := (s.report src margin).link
    spray := { s.spray with
      purgeMark := (s.report src margin).spray.purgeMark
      purge := (s.report src margin).spray.purge } } := by
  have hspray : (s.report src margin).spray = { s.spray with
      purgeMark := (s.report src margin).spray.purgeMark
      purge := (s.report src margin).spray.purge } := by
    rcases State.report_spray s src margin with h | h
    · rw [h]
    · rw [h]
      rfl
  rw [← hspray, State.report_eq]
  rfl

end

/-! ## WATCH_CLEAR (R202) -/

section
variable {s : State} {g : Telegram} {rest : List Telegram}

theorem State.exec_watchClear (hl : s.loaded = true) (hg : s.link.inbound = g :: rest) (hk : g.kind = kindWatchClear) :
    exec .watchClear s = .next (State.takeWatchClear { s with link := s.link.popInbound } g) :=
  congrArg Host.Outcome.next (State.hand_untracked State.takeWatchClear hl hg hk rfl)

theorem watchClearFits_iff {p : List Byte} : watchClearFits p = true ↔ p.length = 1 ∧ (byteAt p 0).toNat < 16 := by
  simp [watchClearFits]

theorem State.takeWatchClear_misfit (h : g.payload.length ≠ 1 ∨ 16 ≤ (byteAt g.payload 0).toNat) : s.takeWatchClear g = s :=
  if_neg fun hf => by
    obtain ⟨hlen, hlt⟩ := watchClearFits_iff.1 hf
    omega

section
variable (hlen : g.payload.length = 1) (hlt : (byteAt g.payload 0).toNat < 16)
include hlen hlt

/-- A WATCH_CLEAR that fits touches the counters alone. -/
theorem State.takeWatchClear_changes : s.takeWatchClear g = { s with watch := (s.takeWatchClear g).watch } := by
  unfold State.takeWatchClear
  rw [if_pos (watchClearFits_iff.2 ⟨hlen, hlt⟩)]

theorem State.takeWatchClear_counter (i : Fin 4) : (s.takeWatchClear g).watch[i] =
    if (byteAt g.payload 0).getLsbD i.val then s.watch[i].complete s.cfg.watch[i] else s.watch[i] := by
  have hi : i.val < 4 := i.isLt
  unfold State.takeWatchClear
  rw [if_pos (watchClearFits_iff.2 ⟨hlen, hlt⟩)]
  simp [hi]

end

end

/-- Settles O51: the event at each counter, the notices in counter order with the flags of their moment, and the counters that
WATCH_CLEAR names. -/
theorem eventsCountedAndCleared : Obligations.EventsCountedAndCleared := by
  refine ⟨fun s src margin => ?_, fun s g rest hl hg hk => ?_⟩
  · intro isMargin passes counted code
    have hcode : src.code = code := by cases src <;> rfl
    have hpasses {i : Fin 4} (h : s.cfg.watch[i].source = src) : s.cfg.watch[i].qualifies margin = true ↔ passes i := by
      rw [WatchCfg.qualifies_iff, h]
    have hcounted {i : Fin 4} (h : s.cfg.watch[i].source = src) :
        s.cfg.watch[i].counts s.watch[i] margin = true ↔ counted i := by
      rw [WatchCfg.counts_iff, hpasses h, h]
    have hbegins {i : Fin 4} (h : s.cfg.watch[i].source = src) : s.watch[i].begins s.cfg.watch[i] margin = true ↔
        counted i ∧ s.watch[i].count = 0xFFFF ∧ s.watch[i].armed = false := by
      rw [WatchCounter.begins_iff, hcounted h]
    refine ⟨_, rfl, State.report_changes s src margin, fun i => ?_,
      ⟨s.begun src margin .notice 4, s.noticeFlags src margin, State.begun_pairwise 4, fun i => ?_,
        fun i => ⟨s.noticeFlags_lt src margin i, s.getLsbD_noticeFlags src margin i⟩, ?_⟩,
      State.report_spray_of_no_purge, State.report_link⟩
    · intro c w
      rw [State.report_counter]
      refine ⟨WatchCounter.reachedBy_of_other, fun hs => ⟨c.qualifies margin, hpasses hs, fun hn => ?_, fun hc hw => ?_,
        fun hc hw hor => ?_, fun hc hw ha hact => ?_, fun hc hw ha hact => ?_⟩⟩
      · rw [WatchCounter.reachedBy_of_no_notice hs fun h => hn ((hbegins hs).1 h.1).1,
          WatchCounter.event_of_not_counts (mt (hcounted hs).1 hn)]
      · rw [WatchCounter.reachedBy_of_no_notice hs fun h => hw ((hbegins hs).1 h.1).2.1,
          WatchCounter.event_of_raised ((hcounted hs).2 hc) hw]
      · have hno : ¬ (w.begins c margin = true ∧ c.action = .notice) := fun ⟨hb, hact⟩ => by
          obtain ⟨-, -, harmed⟩ := (hbegins hs).1 hb
          rcases hor with h | h
          · exact absurd (harmed.symm.trans h) (by decide)
          · exact h hact
        rw [WatchCounter.reachedBy_of_no_notice hs hno, WatchCounter.event_of_overflow ((hcounted hs).2 hc) hw]
      · rw [WatchCounter.reachedBy_of_notice hs ((hbegins hs).2 ⟨hc, hw, ha⟩) hact,
          WatchCounter.event_of_overflow ((hcounted hs).2 hc) hw]
      · rw [State.report_spray_of_purge (State.beginsAt_iff.2 ⟨hs, (hbegins hs).2 ⟨hc, hw, ha⟩, hact⟩)]
        exact ⟨rfl, s.spray.requestPurge_purge_ne_none⟩
    · rw [State.mem_begun, State.beginsAt_iff]
      refine and_congr_right fun hs => ?_
      rw [hbegins hs]
      tauto
    · rw [State.report_eq, ← hcode]
      rfl
  · intro popped
    rw [State.exec_watchClear hl hg hk]
    refine ⟨fun h => ?_, fun hlen hlt =>
      ⟨_, rfl, State.takeWatchClear_changes hlen hlt, State.takeWatchClear_counter hlen hlt⟩⟩
    rw [State.takeWatchClear_misfit h]

end Sys2Proof.Machine

end

section

namespace Sys2Proof.Machine

/-! ## The outbound queue under the operations of the link (R213, R214) -/

/-- The outbound queue has its room, and what waits in it stands by class (R213). -/
def Link.ordered (l : Link) : Prop :=
  l.out.length ≤ Config.queueRoom ∧ l.waitingOut.Pairwise fun a b => a.cls ≤ b.cls

section
variable {l : Link} {e : OutEntry} {q : List OutEntry}

@[simp] theorem length_insertYoungest (e : OutEntry) (q : List OutEntry) : (insertYoungest e q).length = q.length + 1 := by
  induction q with
  | nil => rfl
  | cons h t ih =>
    unfold insertYoungest
    split <;> simp [ih]

@[simp] theorem length_insertOldest (e : OutEntry) (q : List OutEntry) : (insertOldest e q).length = q.length + 1 := by
  induction q with
  | nil => rfl
  | cons h t ih =>
    unfold insertOldest
    split <;> simp [ih]

theorem mem_insertOldest {x : OutEntry} : x ∈ insertOldest e q ↔ x = e ∨ x ∈ q := by
  induction q with
  | nil => simp [insertOldest]
  | cons h t ih =>
    unfold insertOldest
    split
    · simp only [List.mem_cons, ih]
      tauto
    · simp

/-- The place of the youngest of a class keeps the order by class. -/
theorem pairwise_insertYoungest (h : q.Pairwise fun a b => a.cls ≤ b.cls) :
    (insertYoungest e q).Pairwise fun a b => a.cls ≤ b.cls := by
  induction q with
  | nil => exact List.pairwise_singleton _ _
  | cons a t ih =>
    obtain ⟨ha, ht⟩ := List.pairwise_cons.1 h
    unfold insertYoungest
    split
    next hae =>
      refine List.pairwise_cons.2 ⟨fun x hx => ?_, ih ht⟩
      rcases mem_insertYoungest.1 hx with rfl | hx
      · exact hae
      · exact ha x hx
    next hae =>
      have hea : e.cls ≤ a.cls := Nat.le_of_not_le hae
      refine List.pairwise_cons.2 ⟨fun x hx => ?_, h⟩
      rcases List.mem_cons.1 hx with rfl | hx
      · exact hea
      · exact hea.trans (ha x hx)

/-- So does the place of the oldest (R209). -/
theorem pairwise_insertOldest (h : q.Pairwise fun a b => a.cls ≤ b.cls) :
    (insertOldest e q).Pairwise fun a b => a.cls ≤ b.cls := by
  induction q with
  | nil => exact List.pairwise_singleton _ _
  | cons a t ih =>
    obtain ⟨ha, ht⟩ := List.pairwise_cons.1 h
    unfold insertOldest
    split
    next hae =>
      refine List.pairwise_cons.2 ⟨fun x hx => ?_, ih ht⟩
      rcases mem_insertOldest.1 hx with rfl | hx
      · exact hae.le
      · exact ha x hx
    next hae =>
      have hea : e.cls ≤ a.cls := Nat.le_of_not_lt hae
      refine List.pairwise_cons.2 ⟨fun x hx => ?_, h⟩
      rcases List.mem_cons.1 hx with rfl | hx
      · exact hea
      · exact hea.trans (ha x hx)

/-- What displaces a class-2 telegram takes out one telegram and leaves the order of the others. -/
theorem dropYoungest_sublist {r : List OutEntry} (h : dropYoungest q = some r) : r.Sublist q ∧ r.length + 1 = q.length := by
  induction q generalizing r with
  | nil => cases h
  | cons a t ih =>
    unfold dropYoungest at h
    split at h
    next t' ht =>
      cases h
      obtain ⟨hs, hl⟩ := ih ht
      exact ⟨hs.cons_cons a, by simp [hl]⟩
    · split at h
      · cases h
        exact ⟨List.sublist_cons_self _ _, rfl⟩
      · cases h

theorem Link.waitingOut_withWaitingOut_sublist (l : Link) (q : List OutEntry) :
    (l.withWaitingOut q).waitingOut.Sublist q := by
  unfold Link.withWaitingOut Link.waitingOut Link.inSend
  cases l.line with
  | sending =>
    cases l.out with
    | nil => exact List.tail_sublist q
    | cons a t => exact .refl _
  | busy => exact .refl _
  | idle => exact .refl _
  | receiving _ _ => exact .refl _
  | slot _ _ => exact .refl _

/-- The queue has one place for the telegram in its send and one for each that waits. -/
theorem Link.length_out (l : Link) : l.out.length = l.inSend.toList.length + l.waitingOut.length := by
  conv_lhs => rw [l.out_eq]
  exact List.length_append

theorem Link.ordered_withWaitingOut (hlen : l.inSend.toList.length + q.length ≤ Config.queueRoom)
    (hq : q.Pairwise fun a b => a.cls ≤ b.cls) : (l.withWaitingOut q).ordered :=
  ⟨by simpa [Link.withWaitingOut] using hlen, hq.sublist (l.waitingOut_withWaitingOut_sublist q)⟩

/-- Fewer telegrams wait, in their order. -/
theorem Link.ordered.fewer (h : l.ordered) (hq : q.Sublist l.waitingOut) : (l.withWaitingOut q).ordered := by
  obtain ⟨hlen, hord⟩ := h
  have := l.length_out
  have := hq.length_le
  exact Link.ordered_withWaitingOut (by omega) (hord.sublist hq)

theorem Link.ordered.enter (h : l.ordered) (hroom : l.out.length < Config.queueRoom) : (l.enter e).ordered := by
  obtain ⟨-, hord⟩ := h
  have := l.length_out
  exact Link.ordered_withWaitingOut (by rw [length_insertYoungest]; omega) (pairwise_insertYoungest hord)

theorem Link.length_withWaitingOut (l : Link) (q : List OutEntry) :
    (l.withWaitingOut q).out.length = l.inSend.toList.length + q.length := List.length_append

theorem Link.ordered.post (h : l.ordered) (e : OutEntry) : (l.post e).ordered := by
  unfold Link.post
  split
  next hroom => exact h.enter hroom
  split
  · exact h
  split
  next q hq =>
    obtain ⟨hsub, hlen⟩ := dropYoungest_sublist hq
    have hout := l.length_out
    have hlt : (l.withWaitingOut q).out.length < Config.queueRoom := by
      rw [Link.length_withWaitingOut]
      have := h.1
      omega
    exact Link.ordered.enter (h.fewer hsub) hlt
  · exact h

theorem Link.ordered.fillPlace (h : l.ordered) (stopped : Bool) : (l.fillPlace stopped).ordered := by
  rcases l.fillPlace_cases stopped with ⟨-, he⟩ | ⟨f, rest, -, ⟨hroom, he⟩ | ⟨-, he⟩⟩
  · rw [he]; exact h
  · rw [he]; exact Link.ordered.enter (l := { l with held := rest }) h hroom
  · rwa [he]

theorem Link.ordered.offerHeld (h : l.ordered) (stopped : Bool) : (l.offerHeld stopped).ordered := by
  rcases l.offerHeld_cases stopped with ⟨-, he⟩ | ⟨f, rest, -, ⟨-, he⟩ | ⟨-, he⟩⟩
  · rwa [he]
  · rw [he]; exact Link.ordered.post (l := { l with held := rest, owed := l.owed && stopped }) h f
  · rw [he]; exact h

end

/-! ## Events that leave the line to itself -/

/-- What becomes of a link when blocks post and withdraw telegrams, and take those that have come: the line goes on as it was, nothing
comes in, and the outbound queue keeps its room and order. -/
structure Link.Tidy (l m : Link) : Prop where
  line : m.line = l.line
  inbound : m.inbound.length ≤ l.inbound.length
  clashes : m.clashes ≤ l.clashes
  ordered : l.ordered → m.ordered

section
variable (l : Link)

theorem Link.Tidy.refl : l.Tidy l := ⟨rfl, Nat.le_refl _, Nat.le_refl _, id⟩

theorem Link.Tidy.trans {l m n : Link} (h : l.Tidy m) (k : m.Tidy n) : l.Tidy n :=
  ⟨k.line.trans h.line, k.inbound.trans h.inbound, k.clashes.trans h.clashes, k.ordered ∘ h.ordered⟩

/-- A posting leaves the line, the inbound queue and the CLASH count. -/
theorem Link.post_frame (e : OutEntry) :
    (l.post e).line = l.line ∧ (l.post e).inbound = l.inbound ∧ (l.post e).clashes = l.clashes := by
  unfold Link.post
  repeat' split
  all_goals exact ⟨rfl, rfl, rfl⟩

theorem Link.fillPlace_frame (stopped : Bool) : (l.fillPlace stopped).line = l.line ∧
    (l.fillPlace stopped).inbound = l.inbound ∧ (l.fillPlace stopped).clashes = l.clashes := by
  rcases l.fillPlace_cases stopped with ⟨-, he⟩ | ⟨f, rest, -, ⟨-, he⟩ | ⟨-, he⟩⟩
  all_goals rw [he]; exact ⟨rfl, rfl, rfl⟩

theorem Link.Tidy.of_frame {l m : Link} (h : m.line = l.line ∧ m.inbound = l.inbound ∧ m.clashes = l.clashes)
    (ho : l.ordered → m.ordered) : l.Tidy m := by
  obtain ⟨hline, hin, hclash⟩ := h
  exact ⟨hline, by rw [hin], hclash.le, ho⟩

theorem Link.tidy_post (e : OutEntry) : l.Tidy (l.post e) := .of_frame (l.post_frame e) fun h => h.post e

theorem Link.tidy_fillPlace (stopped : Bool) : l.Tidy (l.fillPlace stopped) :=
  .of_frame (l.fillPlace_frame stopped) fun h => h.fillPlace stopped

theorem Link.tidy_offerHeld (stopped : Bool) : l.Tidy (l.offerHeld stopped) := by
  refine .of_frame ?_ fun h => h.offerHeld stopped
  rcases l.offerHeld_cases stopped with ⟨-, he⟩ | ⟨f, rest, -, ⟨-, he⟩ | ⟨-, he⟩⟩
  · rw [he]; exact ⟨rfl, rfl, rfl⟩
  · rw [he]; exact Link.post_frame _ f
  · rw [he]; exact ⟨rfl, rfl, rfl⟩

theorem Link.tidy_withdraw (stopped : Bool) (mine : OutEntry → Bool) : l.Tidy (l.withdraw stopped mine) := by
  have hbase (held : List OutEntry) (owed asked : Bool) : l.Tidy { l.withWaitingOut (l.waitingOut.filter fun e => !mine e) with
      held := held, owed := owed, withdrawAsked := asked } :=
    .of_frame ⟨rfl, rfl, rfl⟩ fun h => h.fewer List.filter_sublist
  unfold Link.withdraw
  dsimp only
  split
  · exact (hbase _ _ _).trans (Link.tidy_fillPlace _ _)
  · exact hbase _ _ _

theorem Link.tidy_popInbound : l.Tidy l.popInbound := by
  refine ⟨rfl, ?_, Nat.le_refl _, id⟩
  exact (List.dropWhile_sublist _).length_le.trans (List.tail_sublist _).length_le

end

/-- An event that leaves the load, the configuration and the line, and keeps the outbound queue in order. -/
structure State.Tidy (s t : State) : Prop where
  loaded : t.loaded = s.loaded
  cfg : t.cfg = s.cfg
  link : s.link.Tidy t.link

/-- What the law of the queues reads of a state. -/
def State.linked (s : State) : Bool × CellCfg × Link := (s.loaded, s.cfg, s.link)

section
variable {s t u : State}

theorem State.Tidy.refl (s : State) : s.Tidy s := ⟨rfl, rfl, .refl _⟩

theorem State.Tidy.trans (h : s.Tidy t) (k : t.Tidy u) : s.Tidy u :=
  ⟨k.loaded.trans h.loaded, k.cfg.trans h.cfg, h.link.trans k.link⟩

/-- An event that leaves the link. -/
theorem State.Tidy.of_same (h : t.linked = s.linked) : s.Tidy t := by
  simp only [State.linked, Prod.mk.injEq] at h
  obtain ⟨hl, hc, hk⟩ := h
  exact ⟨hl, hc, hk ▸ .refl _⟩

theorem State.Tidy.of_link {l : Link} (h : s.link.Tidy l) (ht : t.linked = (s.loaded, s.cfg, l)) : s.Tidy t := by
  simp only [State.linked, Prod.mk.injEq] at ht
  obtain ⟨hl, hc, hk⟩ := ht
  exact ⟨hl, hc, hk ▸ h⟩

/-- An event behind a change of other parts of the state. -/
theorem State.Tidy.behind (k : t.Tidy u) (h : t.linked = s.linked) : s.Tidy u := (State.Tidy.of_same h).trans k

/-- An event that posts one telegram. -/
theorem State.Tidy.of_posted {e : OutEntry} (ht : t.linked = (s.loaded, s.cfg, s.link.post e)) : s.Tidy t :=
  .of_link (s.link.tidy_post e) ht

/-- A good telegram that waits for the end of its slot has its place kept where nothing comes in meanwhile. -/
theorem State.Tidy.queueLaw (h : s.Tidy t) (hs : s.queueLaw) : t.queueLaw := by
  obtain ⟨hl, hc, hline, hin, hclash, hord⟩ := h
  obtain ⟨hout, hroom, hcount, hwait, hbusy, hslot⟩ := hs
  obtain ⟨hout', hwait'⟩ := hord ⟨hout, hwait⟩
  refine ⟨hout', hin.trans hroom, hclash.trans hcount, hwait', fun hn => ?_, fun g hg hcon hcls => ?_⟩
  · rw [hline]; exact hbusy (hl ▸ hn)
  · have hcon' : s.concerns g = true := by simpa only [State.concerns, State.otherStation, hc] using hcon
    exact hin.trans_lt (hslot g (hline ▸ hg) hcon' hcls)

end

end Sys2Proof.Machine

end

section

namespace Sys2Proof.Machine

/-! ## Blocks that post, withdraw and report leave the line to itself -/

section
variable (s : State)

/-! ### Telegrams, events reported and the own claim -/

theorem State.tidy_post (dst kind : Byte) (payload : List Byte) : s.Tidy (s.post dst kind payload) := .of_posted rfl

theorem State.tidy_notice (code : Byte) (body : List Byte) : s.Tidy (s.notice code body) := by
  unfold State.notice
  split
  · exact .refl s
  · exact s.tidy_post _ _ _

theorem State.tidy_withdrawKind (kind : Byte) : s.Tidy (s.withdrawKind kind) := .of_link (s.link.tidy_withdraw _ _) rfl

theorem State.tidy_beginAction (i : Fin 4) : s.Tidy (s.beginAction i) := by
  unfold State.beginAction
  dsimp only
  split
  · exact .refl s
  · exact .refl s
  · exact .of_same rfl
  · exact (s.tidy_notice 7 _).trans (.of_same rfl)

theorem State.tidy_report (src : Source) (margin : Int) : s.Tidy (s.report src margin) := by
  refine State.report_induction (P := fun u => s.Tidy u) (fun u i hu => hu.trans ?_) (.refl s)
  unfold State.reportTo
  dsimp only
  split
  · split
    · refine (State.tidy_beginAction _ i).behind rfl
    · exact .of_same rfl
  · exact .refl u

theorem State.tidy_reportDots (n : Nat) : s.Tidy (s.reportDots n) := by
  induction n generalizing s with
  | zero => exact .refl s
  | succ n ih =>
    rw [State.reportDots]
    exact (s.tidy_report .jetDots 0).trans (ih _)

theorem State.tidy_completeAction (a : WatchAction) : s.Tidy (s.completeAction a) := .of_same rfl

/-- The supply block goes its own way. -/
theorem State.tidy_withSupply (v : Supply) : s.Tidy { s with supply := v } := .of_same rfl

/-- The sequencer goes its own way. -/
theorem State.tidy_withSpray (sp : Sprayer) : s.Tidy { s with spray := sp } := .of_same rfl

theorem State.tidy_endClaim : s.Tidy s.endClaim := by
  have posted (v : Supply) : s.Tidy (State.postDone { s with supply := v }) := (s.tidy_withSupply v).trans (State.tidy_post _ _ _ _)
  have withdrawn (v : Supply) : s.Tidy (State.withdrawKind { s with supply := v } kindSupplyClaim) :=
    (s.tidy_withSupply v).trans (State.tidy_withdrawKind _ _)
  unfold State.endClaim
  split
  · exact .refl s
  · exact withdrawn _
  · exact withdrawn _
  · exact posted _
  · exact posted _
  · split <;> exact s.tidy_withSupply _
  · exact .refl s

theorem State.tidy_endBoardClaim : s.Tidy s.endBoardClaim := by
  unfold State.endBoardClaim
  split
  · exact s.tidy_endClaim
  · exact .refl s

theorem State.tidy_endPurgeClaim : s.Tidy s.endPurgeClaim := by
  unfold State.endPurgeClaim
  split
  · exact s.tidy_endClaim
  · exact .refl s

theorem State.tidy_tryGrant : s.Tidy s.tryGrant := .of_same (by simp [State.linked])

theorem State.tidy_tryBoardClaim : s.Tidy s.tryBoardClaim := by
  unfold State.tryBoardClaim
  split
  · exact .of_posted rfl
  · exact .refl s

theorem State.tidy_tryPurgeClaim : s.Tidy s.tryPurgeClaim := by
  unfold State.tryPurgeClaim
  split
  · exact .of_posted rfl
  · exact .refl s

/-! ### Records that leave the table (R3, R15, R32, R33) -/

theorem State.tidy_dropSpray : s.Tidy s.dropSpray := by
  unfold State.dropSpray
  dsimp only
  split
  · exact (s.tidy_withSpray _).trans (State.tidy_endClaim _)
  · exact s.tidy_withSpray _

theorem State.tidy_leave (p : Position) : s.Tidy (s.leave p) := by
  unfold State.leave
  split
  · exact .refl s
  next r _ =>
    have hback : s.Tidy ({ s with table := s.table.put p none }.handBack r.recipe) := .of_same (by simp [State.linked])
    generalize { s with table := s.table.put p none }.handBack r.recipe = u at hback ⊢
    have hmask : u.Tidy (if u.mask.cand = some p then { u with mask := u.mask.drop } else u) := by
      split
      · exact .of_same rfl
      · exact .refl u
    dsimp only
    split
    · exact (hback.trans hmask).trans (State.tidy_dropSpray _)
    · exact hback.trans hmask

theorem State.tidy_departClean : s.Tidy s.departClean := (s.tidy_leave .exit).trans (State.tidy_report _ _ _)

theorem State.tidy_removeLifted (p : Position) : s.Tidy (s.removeLifted p) := by
  unfold State.removeLifted
  split
  · exact .refl s
  · dsimp only
    refine (s.tidy_leave p).trans (State.Tidy.trans ?_ (State.tidy_notice _ _ _))
    split
    · exact State.tidy_withdrawKind _ _
    · exact .refl _

/-! ### The handoff (chapter 2) -/

theorem State.tidy_setHandoff (h : Option Handoff) : s.Tidy (s.setHandoff h) := .of_same rfl

theorem State.tidy_postOffer (n : Byte) : s.Tidy (s.postOffer n) := by
  unfold State.postOffer
  split
  · exact .refl s
  split
  · exact s.tidy_setHandoff _
  · exact .of_posted rfl

theorem State.tidy_exitDecision : s.Tidy s.exitDecision := by
  unfold State.exitDecision
  split
  · exact .refl s
  split
  · exact .of_same rfl
  split
  · exact s.tidy_setHandoff _
  · exact State.Tidy.trans (t := { s with tracker := { s.tracker with handoffCounter := s.tracker.handoffCounter + 1 } })
      (.of_same rfl) (State.tidy_postOffer _ _)

theorem State.tidy_takeAccept (t : Telegram) : s.Tidy (s.takeAccept t) := by
  unfold State.takeAccept
  split
  · split
    · exact (s.tidy_setHandoff _).trans (State.tidy_withdrawKind _ _)
    · exact .refl s
  · exact .refl s

theorem State.tidy_takeReceived (t : Telegram) : s.Tidy (s.takeReceived t) := by
  unfold State.takeReceived
  split
  · split
    · split
      · exact s.tidy_departClean
      · exact s.tidy_setHandoff _
    · exact .refl s
  · exact .refl s

theorem State.tidy_exitCleared (n : Option Byte) (received : Bool) : s.Tidy (s.exitCleared n received) := by
  unfold State.exitCleared
  split
  · exact s.tidy_departClean
  · exact s.tidy_setHandoff _

theorem State.tidy_reOfferExpiry : s.Tidy s.reOfferExpiry := by
  unfold State.reOfferExpiry
  split
  · exact s.tidy_postOffer _
  · exact .refl s

theorem State.tidy_postDueOffer : s.Tidy s.postDueOffer := by
  unfold State.postDueOffer
  split
  · exact s.tidy_postOffer _
  · exact .refl s

theorem State.tidy_dropUnconfirmed (r : Record) (n : Option Byte) : s.Tidy (s.dropUnconfirmed r n) :=
  (s.tidy_notice _ _).trans (State.tidy_departClean _)

theorem State.tidy_completeMatch (e : ArrivalEntry) (others : List ArrivalEntry) (mismatch : Option Serial) :
    s.Tidy (s.completeMatch e others mismatch) := .of_posted rfl

theorem State.tidy_matchEntry (o : ReadOutcome) : s.Tidy (s.matchEntry o) := by
  unfold State.matchEntry
  split
  · exact .refl s
  · exact s.tidy_completeMatch _ _ _
  · split
    · exact s.tidy_completeMatch _ _ _
    split
    · split
      · exact (s.tidy_notice _ _).trans (State.tidy_completeMatch _ _ _ _)
      · exact s.tidy_completeMatch _ _ _
    · exact s.tidy_completeMatch _ _ _

theorem State.tidy_endEntryRead (o : ReadOutcome) : s.Tidy (s.endEntryRead o) := by
  unfold State.endEntryRead
  split
  · exact .of_same rfl
  · exact s.tidy_matchEntry o

theorem State.tidy_takeOffer (t : Telegram) : s.Tidy (s.takeOffer t) := by
  unfold State.takeOffer
  split
  · exact .refl s
  split
  · exact .of_posted rfl
  dsimp only
  have hanswered : s.Tidy ((if !s.isRepeat t.src (byteAt t.payload 0) (offerTraveller t.payload).serial
      then s.appendArrival t else s).post t.src kindAccept
      (answerPayload (byteAt t.payload 0) (offerTraveller t.payload).serial)) := by
    split <;> exact .of_posted rfl
  split
  · exact hanswered.trans (State.tidy_matchEntry _ _)
  · exact hanswered

theorem State.tidy_expireArrival (i : Fin 2) : s.Tidy (s.expireArrival i) := by
  unfold State.expireArrival
  split
  · exact .refl s
  · exact State.Tidy.behind (State.tidy_notice _ _ _) rfl

theorem State.tidy_repost : s.Tidy s.repost := by
  unfold State.repost
  split
  · exact .refl s
  · exact .of_posted rfl

/-! ### The recipe store (chapter 3) -/

theorem State.tidy_commit (dst : Byte) (slot : Fin 8) (im : List Byte) : s.Tidy (s.commit dst slot im) := by
  unfold State.commit
  dsimp only
  repeat' split
  all_goals exact .of_posted rfl

theorem State.tidy_breakAssembly : s.Tidy s.breakAssembly :=
  .of_link (l := { s.link with assemblyBroken := true }) ⟨rfl, Nat.le_refl _, Nat.le_refl _, id⟩ rfl

theorem State.tidy_takeData (dst : Byte) (slot : Fin 8) (n : Nat) (last : Bool) (data : List Byte) :
    s.Tidy (s.takeData dst slot n last data) := by
  have hset (a : Assembler) : s.Tidy (s.setAssembler a) := .of_same rfl
  unfold State.takeData
  split
  · exact (hset _).trans (State.tidy_commit _ _ _ _)
  split
  · exact s.tidy_breakAssembly.trans (State.tidy_post _ _ _ _)
  · exact hset _

theorem State.tidy_takeFragment (dst : Byte) (slot : Fin 8) (n : Nat) (last : Bool) (data : List Byte) :
    s.Tidy (s.takeFragment dst slot n last data) := by
  have hopen : s.Tidy (if s.assemblyOpen then s.breakAssembly else s) := by
    split
    · exact s.tidy_breakAssembly
    · exact .refl s
  unfold State.takeFragment
  split
  · exact hopen.trans (State.tidy_takeData _ _ _ _ _ _)
  split
  · exact s.tidy_post _ _ _
  split
  · exact s.tidy_post _ _ _
  split
  · exact s.tidy_takeData _ _ _ _ _
  · exact s.tidy_breakAssembly.trans (State.tidy_post _ _ _ _)

theorem State.tidy_takeRecipePart (t : Telegram) : s.Tidy (s.takeRecipePart t) := by
  unfold State.takeRecipePart
  dsimp only
  split
  · exact .of_posted rfl
  split
  · exact s.tidy_post _ _ _
  · exact s.tidy_takeFragment _ _ _ _ _

theorem State.tidy_takeActivate (t : Telegram) : s.Tidy (s.takeActivate t) := by
  unfold State.takeActivate
  dsimp only
  repeat' split
  · exact .refl s
  all_goals exact .of_posted rfl

theorem State.tidy_takeDrop (t : Telegram) : s.Tidy (s.takeDrop t) := by
  unfold State.takeDrop
  dsimp only
  repeat' split
  · exact .refl s
  all_goals exact .of_posted rfl

/-! ### The spray sequencer (chapter 5) -/

theorem State.tidy_startWaiting (r : Record) (rc : Recipe) : s.Tidy (s.startWaiting r rc) := by
  have hnotice (u : State) (k : Option Conflict) : u.Tidy (u.conflictNotice r rc k) := by
    unfold State.conflictNotice
    split
    · exact .refl u
    · exact u.tidy_notice _ _
  have hset (q : Record) (sp : Sprayer) : s.Tidy { s.putRecord .spray q with spray := sp } := .of_same rfl
  unfold State.startWaiting
  dsimp only
  split
  · exact (hset _ _).trans ((hnotice _ _).trans (State.tidy_report _ _ _))
  · exact (hset _ _).trans (hnotice _ _)

theorem State.tidy_sprayDecision : s.Tidy s.sprayDecision := by
  unfold State.sprayDecision
  split
  · exact .refl s
  split
  · split
    · exact .of_same rfl
    · exact .of_same rfl
    · exact s.tidy_startWaiting _ _
  · exact .refl s

theorem State.tidy_finishSpray (f : Record → Record) (e : Option (Nat × Nat)) : s.Tidy (s.finishSpray f e) := by
  unfold State.finishSpray
  dsimp only
  split
  · exact s.tidy_withSpray _
  have hput (sp : Sprayer) (q : Record) : s.Tidy (State.putRecord { s with spray := sp } .spray q) := .of_same rfl
  split
  · exact (hput _ _).trans (State.tidy_report _ _ _)
  · exact hput _ _

theorem State.tidy_abortPass : s.Tidy s.abortPass := (s.tidy_finishSpray _ _).trans (State.tidy_endBoardClaim _)

theorem State.tidy_tryPass : s.Tidy s.tryPass := by
  have hstart : s.Tidy s.startPass := .of_same rfl
  unfold State.tryPass
  split
  · split
    · exact hstart
    · exact hstart.trans (State.tidy_finishSpray _ _ _)
  · exact .refl s

theorem State.tidy_passForward : s.Tidy s.passForward := by
  have hfired (sp : Sprayer) (n : Nat) : s.Tidy (State.reportDots { s with spray := sp } n) :=
    (s.tidy_withSpray sp).trans (State.tidy_reportDots _ _)
  unfold State.passForward
  dsimp only
  split
  · exact (hfired _ _).trans (State.tidy_abortPass _)
  split
  · exact (hfired _ _).trans ((State.tidy_finishSpray _ _ _).trans (State.tidy_endBoardClaim _))
  · exact hfired _ _

theorem State.tidy_sprayCount (dir : Direction) : s.Tidy (s.sprayCount dir) := by
  unfold State.sprayCount
  split
  · dsimp only
    split
    · exact (s.tidy_withSpray s.spray.windowed).trans (State.tidy_passForward _)
    · exact s.tidy_withSpray _
  · split
    · unfold State.passReverse
      split
      · exact s.tidy_abortPass
      · exact .of_same (by simp [State.linked])
    · exact .refl s

theorem State.tidy_purgeEnd : s.Tidy s.purgeEnd :=
  s.tidy_endPurgeClaim.trans ((State.tidy_withSpray _ _).trans (State.tidy_completeAction _ _))

theorem State.tidy_purgeInterrupt : s.Tidy s.purgeInterrupt := by
  unfold State.purgeInterrupt
  split
  · exact s.tidy_endPurgeClaim.trans (State.tidy_withSpray _ _)
  · exact .refl s

/-! ### What starts at an event (R25), and the supply view (chapter 6) -/

theorem State.tidy_starts : s.Tidy s.starts :=
  have hbefore : s.Tidy s.tryDiversion.tryIndex := .of_same (by simp [State.linked])
  have hmoves (u : State) : u.Tidy u.tryToGate.tryToSpray.tryToTransport := .of_same (by simp [State.linked])
  hbefore.trans <| (State.tidy_tryPass _).trans <| (hmoves _).trans <|
    (State.tidy_tryBoardClaim _).trans (State.tidy_tryPurgeClaim _)

theorem State.tidy_settle : s.Tidy s.settle :=
  State.Tidy.trans (t := s.clearOutTest) (.of_same (by simp [State.linked])) (State.tidy_starts _)

theorem State.tidy_afterView : s.Tidy s.afterView := s.tidy_tryGrant.trans (State.tidy_starts _)

theorem State.tidy_takeSupplyClaim (b : Byte) (p : List Byte) : s.Tidy (s.takeSupplyClaim b p) := by
  unfold State.takeSupplyClaim
  split
  · exact (s.tidy_withSupply _).trans (State.tidy_afterView _)
  · exact .refl s

theorem State.tidy_takeSupplyDone (b : Byte) (p : List Byte) : s.Tidy (s.takeSupplyDone b p) := by
  unfold State.takeSupplyDone
  split
  · exact (s.tidy_withSupply _).trans (State.tidy_afterView _)
  · exact .refl s

theorem State.tidy_viewAged (v : List ClaimEntry) : s.Tidy (s.viewAged v) := by
  unfold State.viewAged
  dsimp only
  refine State.Tidy.trans ?_ (State.tidy_afterView _)
  split
  · exact (s.tidy_withSupply { s.supply with view := v }).trans (.of_same (by simp [State.linked]))
  · exact s.tidy_withSupply _

theorem State.tidy_claimReadback (refused : Bool) : s.Tidy (s.claimReadback refused) := by
  unfold State.claimReadback
  split
  · split
    · exact .of_posted rfl
    · exact (s.tidy_withSupply _).trans (State.tidy_tryGrant _)
  · exact s.tidy_post _ _ _
  all_goals exact .refl s

/-! ### The hold manager (chapter 9) -/

theorem State.tidy_nearFullTest : s.Tidy s.nearFullTest := by
  have hset (h : Holds) : s.Tidy { s with holds := h } := .of_same rfl
  unfold State.nearFullTest
  dsimp only
  split
  · split
    · exact .refl s
    · exact (hset _).trans (State.tidy_notice _ _ _)
  · exact hset _

theorem State.tidy_diversionTest : s.Tidy s.diversionTest := by
  have hheld (u : State) (e : HoldEntry) : u.Tidy (u.appendHold e) := .of_same rfl
  unfold State.diversionTest
  split
  · split
    · exact (s.tidy_leave .exit).trans <| (hheld _ _).trans <| (State.tidy_notice _ _ _).trans <|
        (State.tidy_report _ _ _).trans (State.tidy_nearFullTest _)
    · exact .refl s
  · exact .refl s

theorem State.tidy_rackEdge (t : Fin 8) (b : Bool) : s.Tidy (s.rackEdge t b) := by
  have htaken (u : State) (e : HoldEntry) : u.Tidy (u.rackTaken e) := by
    unfold State.rackTaken
    split
    · exact u.tidy_notice _ _
    all_goals exact .refl u
  have hremoved (e : HoldEntry) : s.Tidy (s.removeEntry e) :=
    ((htaken _ e).trans (State.tidy_nearFullTest _)).behind rfl
  unfold State.rackEdge
  split
  · exact s.tidy_diversionTest
  split
  · exact hremoved _
  · exact State.Tidy.trans (t := s.appendHold _) (.of_same rfl) (State.tidy_nearFullTest _)
  all_goals exact .refl s

theorem State.tidy_rackChange (r : Fin 8) (b : Bool) : s.Tidy (s.rackChange r b) := by
  have hlevel : s.Tidy (s.setRackLevel r b) := .of_same rfl
  unfold State.rackChange
  dsimp only
  split
  · split
    · exact hlevel.trans ((State.tidy_rackEdge _ r b).trans (State.tidy_settle _))
    · exact hlevel
  · exact .refl s

theorem State.tidy_takeRelease (t : Telegram) : s.Tidy (s.takeRelease t) := by
  unfold State.takeRelease
  dsimp only
  repeat' split
  all_goals exact .of_posted rfl

theorem State.tidy_takeLotHold (t : Telegram) : s.Tidy (s.takeLotHold t) := by
  have hskip (u : State) : u.Tidy u.skipWaiting := by
    unfold State.skipWaiting
    split
    · exact State.Tidy.trans (t := u.atSpray _) (.of_same rfl)
        ((State.tidy_endBoardClaim _).trans (State.tidy_withSpray _ _))
    · exact .refl u
  have hdivert (u : State) : u.Tidy u.divertOffered := by
    unfold State.divertOffered
    split
    · exact (u.tidy_withdrawKind _).trans (.of_same rfl)
    · exact .refl u
  have hfilter (u : State) (f : LotFilter) : u.Tidy (u.applyFilter f) := by
    have hmark : u.Tidy (u.mapRecords fun _ r => f.mark r) := .of_same rfl
    unfold State.applyFilter
    dsimp only
    split <;> split
    · exact hmark.trans ((hskip _).trans (hdivert _))
    · exact hmark.trans (hdivert _)
    · exact hmark.trans (hskip _)
    · exact hmark
  unfold State.takeLotHold
  dsimp only
  split
  · exact .refl s
  split
  · exact State.Tidy.trans (t := s.setFilter _ _) (.of_same rfl) (hfilter _ _)
  · exact s.tidy_notice _ _

/-! ### Moves, edges and the end of an index (chapter 1) -/

theorem State.tidy_completeMove (m : ConvMove) : s.Tidy (s.completeMove m) := by
  have hcarry (u : State) : u.Tidy (u.carryOver m) := .of_same rfl
  cases m with
  | toTransport => exact hcarry s
  | toSpray =>
    exact (hcarry s).trans (State.Tidy.trans (.of_same (by simp [State.linked])) (State.tidy_sprayDecision _))
  | toGate =>
    unfold State.completeMove
    dsimp only
    split
    · exact s.tidy_abortPass.trans (hcarry _)
    · exact hcarry s

theorem State.tidy_moveTest (m : ConvMove) : s.Tidy (s.moveTest m) := by
  unfold State.moveTest
  dsimp only
  split
  · split
    · exact (s.tidy_completeMove m).trans (.of_same (by simp [State.linked]))
    · exact s.tidy_completeMove m
  · exact .refl s

theorem State.tidy_moveTests (p : Position) : s.Tidy (s.moveTests p) := by
  unfold State.moveTests
  split
  · exact s.tidy_moveTest _
  · exact (s.tidy_moveTest _).trans (State.tidy_moveTest _ _)
  · exact (s.tidy_moveTest _).trans (State.tidy_moveTest _ _)
  · exact s.tidy_moveTest _
  all_goals exact .refl s

theorem State.tidy_exitEdge (r : Record) (b : Bool) : s.Tidy (s.exitEdge r b) := by
  unfold State.exitEdge
  split
  · exact s.tidy_diversionTest
  · exact .refl s
  · exact s.tidy_setHandoff _
  · exact .refl s
  · exact s.tidy_exitCleared _ _
  · exact .refl s
  · exact s.tidy_removeLifted _

theorem State.tidy_occupiedEdge (p : Position) : s.Tidy (s.occupiedEdge p) := by
  unfold State.occupiedEdge
  split
  · exact s.tidy_moveTests p
  split
  · exact .refl s
  split
  · exact s.tidy_exitEdge _ _
  · exact .of_same (by simp [State.linked])

theorem State.tidy_emptyEdge (p : Position) : s.Tidy (s.emptyEdge p) := by
  have hstop : s.Tidy (s.raiseStop p) := .of_same (by simp [State.linked])
  have hlifted (u : State) : u.Tidy (u.lifted p) := by
    unfold State.lifted
    split
    · split
      · exact .of_same rfl
      · exact .refl u
    · exact u.tidy_removeLifted p
  unfold State.emptyEdge
  dsimp only
  split
  · exact hstop.trans (State.tidy_moveTests _ _)
  split
  · exact hstop
  split
  · exact hstop.trans (State.tidy_exitEdge _ _ _)
  · exact hstop.trans (hlifted _)

theorem State.tidy_transferExpiry : s.Tidy s.transferExpiry := by
  unfold State.transferExpiry
  split
  · exact .refl s
  split
  · split
    · exact .refl s
    · exact (s.tidy_dropUnconfirmed _ _).trans (State.tidy_settle _)
  · exact .refl s

theorem State.tidy_orphanExpiry : s.Tidy s.orphanExpiry := by
  unfold State.orphanExpiry
  split
  · split
    · exact .refl s
    · exact State.Tidy.trans (t := s.orphanRecord _) (.of_same rfl) (State.tidy_starts _)
  · exact .refl s

theorem State.tidy_placed : s.Tidy s.placed := by
  have hcure : s.Tidy s.judgeCure := by
    unfold State.judgeCure
    split
    · exact .refl s
    split
    · exact State.Tidy.trans (t := s.atExit _) (.of_same rfl) (State.tidy_report _ _ _)
    · exact .refl s
  have hcoat (u : State) : u.Tidy u.appendCoat.auditTest := .of_same (by simp [State.linked])
  exact hcure.trans ((hcoat _).trans (State.tidy_exitDecision _))

theorem State.tidy_endIndex : s.Tidy s.endIndex := by
  have hposition (u : State) (p : Position) : u.Tidy (u.comparePosition p) := by
    unfold State.comparePosition
    split
    · exact .of_same (by split <;> simp [State.linked])
    split
    · exact u.tidy_removeLifted p
    · exact .refl u
  have hcovered (l : List Position) (u : State) : u.Tidy (l.foldl State.comparePosition u) := by
    induction l generalizing u with
    | nil => exact .refl u
    | cons p l ih => exact (hposition u p).trans (ih _)
  have hshift : s.Tidy s.shiftTunnel.compareCovered.reloadDwell :=
    State.Tidy.trans (t := s.shiftTunnel) (.of_same rfl) ((hcovered _ _).trans (.of_same rfl))
  unfold State.endIndex
  dsimp only
  split
  · exact hshift.trans (State.tidy_placed _)
  · exact hshift

/-! ### The tunnel (chapter 7) -/

theorem State.tidy_indexTimeout : s.Tidy s.indexTimeout :=
  State.Tidy.behind (State.tidy_notice _ _ _) rfl

theorem State.tidy_endRead (good : Option Int) : s.Tidy (s.endRead good) := by
  have hlost (u : State) (z : Zone) (b : ZoneState) : u.Tidy (u.zoneLostNotice z b) := by
    unfold State.zoneLostNotice
    split
    · exact u.tidy_notice _ _
    · exact .refl u
  have hread (u : State) (z : Zone) : u.Tidy (u.startRead z) := .of_same rfl
  unfold State.endRead
  split
  · exact .refl s
  next rd _ =>
    have hended : s.Tidy (State.zoneLostNotice { s with tunnel := { s.tunnel with
        poll := none, zones := s.tunnel.zones.put rd.zone ((s.tunnel.zones.get rd.zone).afterRead good) } } rd.zone
        (s.tunnel.zones.get rd.zone)) :=
      (hlost _ _ _).behind rfl
    dsimp only
    split
    · split
      · exact hended.trans (hread _ _)
      · exact hended
    · exact hended

/-! ### STATUS (R215), the guard (R24, R25) and the clear-out scan (R21) -/

theorem State.tidy_takeStatusQuery (t : Telegram) : s.Tidy (s.takeStatusQuery t) := by
  unfold State.takeStatusQuery
  split
  · dsimp only
    split
    · refine (s.tidy_post t.src kindStatus s.statusCell).trans ?_
      exact .of_link (l := Link.clearFlags _) ⟨rfl, Nat.le_refl _, Nat.zero_le _, id⟩ rfl
    · exact s.tidy_post _ _ _
  · exact s.tidy_post _ _ _
  · exact .refl s

theorem State.tidy_guardOpens : s.Tidy s.guardOpens := by
  have hspray (u : State) : u.Tidy u.guardSpray := by
    unfold State.guardSpray
    split
    · exact u.tidy_abortPass
    split
    · exact u.tidy_endBoardClaim
    · exact .refl u
  have hindex (u : State) : u.Tidy u.guardIndex := .of_same (by simp [State.linked])
  exact State.Tidy.trans (t := s.putHold) (.of_same rfl) <| (hspray _).trans <| (State.tidy_purgeInterrupt _).trans (hindex _)

theorem State.tidy_enterHeld : s.Tidy s.enterHeld := .of_link (s.link.tidy_offerHeld _) rfl

theorem State.tidy_endHold : s.Tidy s.endHold :=
  State.Tidy.trans (t := s.liftHold.resumeIndex) (.of_same (by simp [State.linked])) <| (State.tidy_enterHeld _).trans <|
    (State.tidy_postDueOffer _).trans (State.tidy_starts _)

theorem State.tidy_scan : s.Tidy s.scan := by
  have htable (u : State) : u.Tidy u.scanTable := .of_same (by simp [State.linked])
  have hrack (u : State) : u.Tidy u.scanRack :=
    State.Tidy.behind (State.tidy_nearFullTest _) rfl
  exact State.Tidy.trans (t := { s with cell := .clearOut }) (.of_same rfl) <| (htable _).trans <| (hrack _).trans <|
    State.Tidy.trans (t := State.scanTunnel _) (.of_same rfl) (State.tidy_settle _)

theorem State.tidy_idleMs : s.Tidy s.idleMs := by
  have hseconds : s.Tidy s.secondsMsDown := by
    unfold State.secondsMsDown
    split <;> exact .of_same rfl
  have hlive (u : State) : u.Tidy u.liveMs := by
    refine .of_link (l := { u.link with access := u.link.access.map fun _ => 127 }) ⟨rfl, Nat.le_refl _, Nat.le_refl _, id⟩ ?_
    unfold State.liveMs
    dsimp only
    split <;> rfl
  unfold State.idleMs
  split
  · exact hseconds.trans (hlive _)
  · exact hseconds

/-! ### The wrappers of the commands -/

variable {s}

theorem State.Tidy.of_when {c : Bool} {f : State → State} (h : s.Tidy (f s)) : s.Tidy (s.when c f) := by
  unfold State.when
  split
  · exact h
  · exact .refl s

theorem State.Tidy.of_live {f : State → State} (h : s.Tidy (f s)) : s.Tidy (s.live f) := by
  unfold State.live
  split
  · exact h
  · exact .refl s

theorem State.Tidy.of_hand {kind : Byte} {f : State → Telegram → State} (h : ∀ (u : State) t, u.Tidy (f u t)) :
    s.Tidy (s.hand kind f) := by
  unfold State.hand
  split
  · exact (State.Tidy.of_link s.link.tidy_popInbound rfl).trans (h _ _)
  · exact .refl s

end

end Sys2Proof.Machine

end

section

namespace Sys2Proof.Machine

/-! ## The events of the line and the law of the queues (R206 to R213) -/

/-- An event keeps the law of the queues. -/
def State.KeepsQueues (s t : State) : Prop := s.queueLaw → t.queueLaw

section
variable {s t : State}

theorem State.Tidy.keeps (h : s.Tidy t) : s.KeepsQueues t := h.queueLaw

/-- An event of the line of a loaded cell that begins no slot: the queues keep their room and order. -/
theorem State.queueLaw_of_line (hl : t.loaded = true) (hline : ∀ g d, t.link.line ≠ .slot g d) (ho : t.link.ordered)
    (hin : t.link.inbound.length ≤ Config.queueRoom) (hclash : t.link.clashes ≤ 255) : t.queueLaw := by
  obtain ⟨hout, hwait⟩ := ho
  exact ⟨hout, hin, hclash, hwait, fun hn => absurd (hl.symm.trans hn) (by simp), fun g hg => absurd hg (hline _ _)⟩

theorem State.queueLaw.ordered (h : s.queueLaw) : s.link.ordered := by
  obtain ⟨hout, -, -, hwait, -, -⟩ := h
  exact ⟨hout, hwait⟩

theorem State.queueLaw.inboundRoom (h : s.queueLaw) : s.link.inbound.length ≤ Config.queueRoom := h.2.1

theorem State.queueLaw.clashCount (h : s.queueLaw) : s.link.clashes ≤ 255 := h.2.2.1

/-- A queue whose head is not in its send is ordered whatever the line is taken for. -/
theorem Link.ordered.ofQueue {l m : Link} (h : l.ordered) (hl : l.line ≠ .sending) (hm : m.out = l.out) : m.ordered := by
  obtain ⟨hlen, hord⟩ := h
  have hwait : l.waitingOut = l.out := by
    unfold Link.waitingOut
    split
    next hs => exact absurd hs hl
    all_goals rfl
  rw [hwait] at hord
  refine ⟨hm ▸ hlen, hord.sublist ?_⟩
  rw [← hm]
  unfold Link.waitingOut
  split
  · exact List.tail_sublist _
  all_goals exact .refl _

/-- The line is taken for something else while nothing is sent, and no slot begins. -/
theorem State.queueLaw.onLine (h : s.queueLaw) (hl : t.loaded = true) (hs : s.link.line ≠ .sending)
    (hline : ∀ g d, t.link.line ≠ .slot g d)
    (hqueues : (t.link.out, t.link.inbound, t.link.clashes) = (s.link.out, s.link.inbound, s.link.clashes)) : t.queueLaw := by
  simp only [Prod.mk.injEq] at hqueues
  obtain ⟨hout, hin, hclash⟩ := hqueues
  exact State.queueLaw_of_line hl hline (h.ordered.ofQueue hs hout) (hin ▸ h.inboundRoom) (hclash ▸ h.clashCount)

/-- The queue behind the telegram in its send, on a line that goes on without it. -/
theorem Link.ordered.behindSend {l : Link} (h : l.ordered) (hs : l.line = .sending) :
    l.out.tail.length ≤ Config.queueRoom ∧ l.out.tail.Pairwise fun a b => a.cls ≤ b.cls := by
  obtain ⟨hlen, hord⟩ := h
  refine ⟨(List.tail_sublist _).length_le.trans hlen, ?_⟩
  simpa only [Link.waitingOut, hs] using hord

variable (s)

theorem State.keepsQueues_lineIdle (hl : s.loaded = true) : s.KeepsQueues s.lineIdle := by
  intro h
  unfold State.lineIdle
  split
  next hb => exact h.onLine hl (by simp [hb]) (by simp) rfl
  next hb => exact h.onLine hl (by simp [hb]) (by simp) rfl
  all_goals exact h

theorem State.keepsQueues_hearStart (hl : s.loaded = true) : s.KeepsQueues s.hearStart := by
  intro h
  unfold State.hearStart
  split
  next hb => exact h.onLine hl (by simp [hb]) (by simp) rfl
  all_goals exact h

theorem State.keepsQueues_accessBoundary (hl : s.loaded = true) (n : Nat) : s.KeepsQueues (s.accessBoundary n) := by
  intro h
  unfold State.accessBoundary
  split
  next hb _ _ =>
    split
    · exact State.queueLaw_of_line hl (by simp [hb]) h.ordered h.inboundRoom h.clashCount
    · exact h.onLine hl (by simp [hb]) (by simp [State.beginSend]) rfl
  · exact h

/-- After a clash the telegram stands as the oldest of its class, or has been withdrawn (R209). -/
theorem State.keepsQueues_clash (hl : s.loaded = true) : s.KeepsQueues s.clash := by
  intro h
  unfold State.clash
  split
  next e rest hline hout =>
    have htail := h.ordered.behindSend hline
    rw [hout] at htail
    obtain ⟨-, hrest⟩ := htail
    have hlen : rest.length + 1 ≤ Config.queueRoom := by simpa [hout] using h.ordered.1
    have hclash : min (s.link.clashes + 1) 255 ≤ 255 := Nat.min_le_right _ _
    split
    · have hgone : State.queueLaw { s with link := s.link.clashed rest, supply := s.supplyClashed e.tg.kind } :=
        State.queueLaw_of_line hl (by simp [Link.clashed]) ⟨Nat.le_of_succ_le hlen, hrest⟩ h.inboundRoom hclash
      have hfilled : State.Tidy { s with link := s.link.clashed rest, supply := s.supplyClashed e.tg.kind }
          { s with link := (s.link.clashed rest).fillPlace s.isStopped, supply := s.supplyClashed e.tg.kind } :=
        .of_link (Link.tidy_fillPlace _ _) rfl
      exact (hfilled.trans (State.tidy_starts _)).queueLaw hgone
    · refine State.queueLaw_of_line hl (by simp [Link.clashed]) ⟨?_, pairwise_insertOldest hrest⟩ h.inboundRoom hclash
      rw [← length_insertOldest e rest] at hlen
      exact hlen
  · exact h

theorem State.tidy_sendReport (e : OutEntry) (refused : Bool) : s.Tidy (s.sendReport e refused) := by
  unfold State.sendReport
  split
  · exact .of_same (by simp [State.linked])
  split
  · exact .of_same (by simp [State.linked])
  split
  · exact (s.tidy_claimReadback refused).trans (State.tidy_starts _)
  split
  · exact State.Tidy.trans (t := s.doneReadback) (.of_same (by simp [State.linked])) (State.tidy_starts _)
  · exact .refl s

/-- The end of a send takes the head from the queue, and its place goes to a held telegram (R210, R214). -/
theorem State.keepsQueues_endSendOf {o : Option OutEntry} (ho : o.isSome = true → s.link.line = .sending) (refused : Bool) :
    s.KeepsQueues (s.endSendOf o refused) := by
  intro h
  unfold State.endSendOf
  split
  next e hl =>
    have htail := h.ordered.behindSend (ho rfl)
    have hgone : State.queueLaw { s with link := { s.link with
        line := .busy, penalty := true, withdrawAsked := false, out := s.link.out.tail } } :=
      State.queueLaw_of_line hl (by simp) htail h.inboundRoom h.clashCount
    have hfilled : State.Tidy { s with link := { s.link with
        line := .busy, penalty := true, withdrawAsked := false, out := s.link.out.tail } }
        { s with link := s.link.sent s.isStopped } := .of_link (Link.tidy_fillPlace _ _) rfl
    exact (hfilled.trans (State.tidy_sendReport _ e refused)).queueLaw hgone
  · exact h

theorem Link.line_of_inSend {l : Link} (h : l.inSend.isSome = true) : l.line = .sending := by
  unfold Link.inSend at h
  split at h
  · assumption
  all_goals cases h

theorem State.keepsQueues_hearBytes (hl : s.loaded = true) (bytes : List Byte) (stopFault : Bool) :
    s.KeepsQueues (s.hearBytes bytes stopFault) := by
  intro h
  unfold State.hearBytes
  split
  next hb => exact h.onLine hl (by simp [hb]) (by simp) rfl
  all_goals exact h

/-- Only a telegram that is being received has a reception. -/
theorem State.line_of_reception {r : Reception} (h : s.reception = some r) : ∃ b f, s.link.line = .receiving b f := by
  unfold State.reception at h
  split at h
  next b f hb => exact ⟨b, f, hb⟩
  all_goals cases h

theorem State.concerns_iff (g : Telegram) : s.concerns g = true ↔
    (g.dst = s.cfg.station ∨ g.dst = 0) ∧ (g.src ≠ 0 ∧ g.src ≠ s.cfg.station ∧ g.src.toNat ≤ 31) ∧ g.kind ∈ kindTable := by
  simp [State.concerns, State.otherStation, and_assoc]

/-- A good telegram that this station does not refuse, and that is to be taken into the inbound queue, finds room there (R210). -/
theorem State.room_of_not_refused {g : Telegram} (hr : s.link.refusesGood s.cfg.station g = false) (hc : s.concerns g = true)
    (hk : classOf g.kind ≠ 0) : s.link.inbound.length < Config.queueRoom := by
  obtain ⟨hdst, ⟨h0, hown, h31⟩, hkind⟩ := (s.concerns_iff g).1 hc
  by_contra hfull
  have hrefused : s.link.refusesGood s.cfg.station g = true := by
    simpa [Link.refusesGood, hown, h31, hkind, hk, Nat.le_of_not_lt hfull] using ⟨hdst, h0⟩
  cases hrefused.symm.trans hr

/-- The acceptance slot of a telegram begins (R210). -/
theorem State.queueLaw.openSlot {s : State} (h : s.queueLaw) (hl : s.loaded = true) {r : Reception} (hr : s.reception = some r)
    {good : Option Telegram} {driven : Bool}
    (hroom : ∀ g, good = some g → driven = false → s.concerns g = true → classOf g.kind ≠ 0 →
      s.link.inbound.length < Config.queueRoom) : (s.openSlot good driven).queueLaw := by
  obtain ⟨b, f, hb⟩ := s.line_of_reception hr
  obtain ⟨hout, hwait⟩ : (s.openSlot good driven).link.ordered := h.ordered.ofQueue (by simp [hb]) rfl
  refine ⟨hout, h.inboundRoom, h.clashCount, hwait, fun hn => absurd (hl.symm.trans hn) (by simp), fun g hg => ?_⟩
  obtain ⟨hgood, hdriven⟩ : good = some g ∧ driven = false := by simpa [State.openSlot] using hg
  exact hroom g hgood hdriven

theorem State.queueLaw.closeSlot {s : State} (h : s.queueLaw) (hl : s.loaded = true) (hline : s.link.line ≠ .sending) :
    s.closeSlot.queueLaw :=
  h.onLine hl hline (by simp [State.closeSlot]) rfl

theorem State.keepsQueues_goodTelegram (hl : s.loaded = true) (e : HeardEvent) : s.KeepsQueues (s.goodTelegram e) := by
  intro h
  unfold State.goodTelegram
  split
  · exact s.keepsQueues_hearBytes hl _ _ h
  · split
    next g hr =>
      refine h.openSlot hl hr fun g' hg hd hc hk => ?_
      cases hg
      exact s.room_of_not_refused hd hc hk
    · exact h
  · split
    next g driven hline =>
      have hclosed := h.closeSlot hl (by simp [hline])
      split
      · exact hclosed
      next hd =>
        have hroom : s.closeSlot.concerns g = true → classOf g.kind ≠ 0 → s.link.inbound.length < Config.queueRoom := by
          obtain ⟨-, -, -, -, -, hslot⟩ := h
          have hdriven : driven = false := by simpa using hd
          exact hslot g (hdriven ▸ hline)
        unfold State.takeGood
        split
        · exact hclosed
        next hc =>
          split
          · refine State.Tidy.queueLaw (State.Tidy.of_when (c := s.closeSlot.tracking) ?_) hclosed
            split
            · exact State.tidy_takeSupplyClaim _ _ _
            · exact State.tidy_takeSupplyDone _ _ _
          next hk =>
            refine State.queueLaw_of_line hl (by simp [State.toInbound, Link.discardOwnerless, State.closeSlot])
              hclosed.ordered ((List.dropWhile_sublist _).length_le.trans ?_) hclosed.clashCount
            have := hroom (by simpa using hc) hk
            simp only [List.length_append, List.length_singleton]
            exact this
    · exact h

theorem State.keepsQueues_faultyTelegram (hl : s.loaded = true) (e : HeardEvent) : s.KeepsQueues (s.faultyTelegram e) := by
  intro h
  unfold State.faultyTelegram
  split
  · exact s.keepsQueues_hearBytes hl _ _ h
  · split
    next g hr => exact h.openSlot hl hr fun _ hg => by cases hg
    · exact h
  · split
    next hline => exact h.closeSlot hl (by simp [hline])
    · exact h

theorem State.keepsQueues_cold : s.KeepsQueues s.cold := fun _ =>
  ⟨Nat.zero_le _, Nat.zero_le _, Nat.zero_le _, List.Pairwise.nil, fun _ => rfl, fun _ hg => by cases hg⟩

/-- The load finds the line busy since the reset (R218). -/
theorem State.keepsQueues_load (im : List Byte) (hl : s.loaded = false) : s.KeepsQueues (s.load im) := by
  rintro ⟨hout, hroom, hcount, hwait, hbusy, -⟩
  have hnoSlot {g : Telegram} {P : Prop} (hg : s.link.line = .slot (some g) false) : P := by cases (hbusy hl).symm.trans hg
  unfold State.load
  split
  · exact ⟨hout, hroom, hcount, hwait, fun _ => hbusy hl, fun _ hg => hnoSlot hg⟩
  · exact ⟨hout, hroom, hcount, hwait, fun _ => hbusy hl, fun _ hg => hnoSlot hg⟩

end

/-! ## The law after every step -/

/-- Every command keeps the law of the queues. -/
theorem exec_keepsQueues (c : Instr) (s : State) : ∃ t, exec c s = .next t ∧ s.KeepsQueues t := by
  have tidy {t : State} (h : s.Tidy t) : s.KeepsQueues t := h.keeps
  have live {f : State → State} (h : ∀ u : State, u.Tidy (f u)) : s.KeepsQueues (s.live f) := tidy (.of_live (h s))
  have whenDo {b : Bool} {f : State → State} (h : ∀ u : State, u.Tidy (f u)) : s.KeepsQueues (s.when b f) := tidy (.of_when (h s))
  have hand {k : Byte} {f : State → Telegram → State} (h : ∀ (u : State) t, u.Tidy (f u t)) : s.KeepsQueues (s.hand k f) :=
    tidy (.of_hand h)
  have line {f : State → State} (h : ∀ u : State, u.loaded = true → u.KeepsQueues (f u)) : s.KeepsQueues (s.live f) := by
    unfold State.live
    split
    next hl => exact h s hl
    · exact id
  have same {f : State → State} (h : ∀ u, (f u).linked = u.linked) (u : State) : u.Tidy (f u) := .of_same (h u)
  cases c with
  | coldReset => exact ⟨_, rfl, s.keepsQueues_cold⟩
  | configurationLoad im =>
    refine ⟨_, rfl, ?_⟩
    unfold State.when
    split
    next h => exact s.keepsQueues_load im (by simpa using (Bool.and_eq_true_iff.1 h).2)
    · exact id
  | clearOutScan ps rs => exact ⟨_, rfl, whenDo fun u => State.Tidy.trans (t := u.scanLevels ps rs) (.of_same rfl) (State.tidy_scan _)⟩
  | occupiedEdge p =>
    refine ⟨_, rfl, whenDo fun u => ?_⟩
    have hlevel : u.Tidy (u.setLevel p true) := .of_same rfl
    dsimp only
    split
    · exact hlevel.trans ((State.tidy_occupiedEdge _ p).trans (State.tidy_settle _))
    · exact hlevel
  | emptyEdge p =>
    refine ⟨_, rfl, whenDo fun u => ?_⟩
    have hlevel : u.Tidy (u.setLevel p false) := .of_same rfl
    dsimp only
    split
    · exact hlevel.trans ((State.tidy_emptyEdge _ p).trans (State.tidy_settle _))
    · exact hlevel
  | moveStart m => exact ⟨_, rfl, live (same (by simp [State.linked]))⟩
  | idReadAnswer k a => exact ⟨_, rfl, whenDo fun u => (u.tidy_endEntryRead _).trans (State.tidy_starts _)⟩
  | entryReadTimeout => exact ⟨_, rfl, whenDo fun u => (u.tidy_endEntryRead _).trans (State.tidy_starts _)⟩
  | orphanWaitExpiry => exact ⟨_, rfl, live State.tidy_orphanExpiry⟩
  | offer => exact ⟨_, rfl, hand fun u t => (u.tidy_takeOffer t).trans (State.tidy_starts _)⟩
  | accept => exact ⟨_, rfl, hand State.tidy_takeAccept⟩
  | decline => exact ⟨_, rfl, hand fun u t => .of_same (by simp [State.linked])⟩
  | received => exact ⟨_, rfl, hand fun u t => (u.tidy_takeReceived t).trans (State.tidy_settle _)⟩
  | answerWaitExpiry => exact ⟨_, rfl, live (same (by simp [State.linked]))⟩
  | reOfferWaitExpiry => exact ⟨_, rfl, live State.tidy_reOfferExpiry⟩
  | upstreamTransferTimeout => exact ⟨_, rfl, live State.tidy_transferExpiry⟩
  | downstreamTransferTimeout i => exact ⟨_, rfl, whenDo fun u => u.tidy_expireArrival i⟩
  | receivedRepost => exact ⟨_, rfl, live State.tidy_repost⟩
  | recipePart => exact ⟨_, rfl, hand State.tidy_takeRecipePart⟩
  | recipeActivate => exact ⟨_, rfl, hand State.tidy_takeActivate⟩
  | recipeDrop => exact ⟨_, rfl, hand State.tidy_takeDrop⟩
  | transportEncoderCount dir datum => exact ⟨_, rfl, whenDo (same (by simp [State.linked]))⟩
  | claimRequest => exact ⟨_, rfl, live State.tidy_tryBoardClaim⟩
  | passStart => exact ⟨_, rfl, live State.tidy_tryPass⟩
  | sprayEncoderCount dir rising n =>
    refine ⟨_, rfl, live fun u => ?_⟩
    have hmoved : u.Tidy { u with spray := { u.spray with tenths := u.spray.tenths + n } } := u.tidy_withSpray _
    dsimp only
    split
    · exact hmoved.trans (State.tidy_sprayCount _ dir)
    · exact hmoved
  | passStallTimeout => exact ⟨_, rfl, whenDo State.tidy_abortPass⟩
  | speedWindowEnd => exact ⟨_, rfl, live fun u => u.tidy_withSpray _⟩
  | purgeClaimRequest => exact ⟨_, rfl, live State.tidy_tryPurgeClaim⟩
  | purgeTimerExpiry => exact ⟨_, rfl, whenDo fun u => u.tidy_purgeEnd.trans (State.tidy_starts _)⟩
  | supplyClaim b p => exact ⟨_, rfl, whenDo fun u => u.tidy_takeSupplyClaim b p⟩
  | supplyDone b p => exact ⟨_, rfl, whenDo fun u => u.tidy_takeSupplyDone b p⟩
  | ownClaimReadback b =>
    refine ⟨_, rfl, s.keepsQueues_endSendOf (fun h => Link.line_of_inSend ?_) b⟩
    obtain ⟨e, he⟩ := Option.isSome_iff_exists.1 h
    exact Option.isSome_iff_exists.2 ⟨e, (Option.filter_eq_some_iff.1 he).1⟩
  | ownDoneReadback b =>
    refine ⟨_, rfl, s.keepsQueues_endSendOf (fun h => Link.line_of_inSend ?_) b⟩
    obtain ⟨e, he⟩ := Option.isSome_iff_exists.1 h
    exact Option.isSome_iff_exists.2 ⟨e, (Option.filter_eq_some_iff.1 he).1⟩
  | supplyTick => exact ⟨_, rfl, live fun u => u.tidy_viewAged _⟩
  | claimEntryExpiry b => exact ⟨_, rfl, live fun u => u.tidy_viewAged _⟩
  | claimGranted => exact ⟨_, rfl, live State.tidy_afterView⟩
  | learningTimeEnd => exact ⟨_, rfl, whenDo fun u => (u.tidy_withSupply _).trans (State.tidy_afterView _)⟩
  | reClaimTimerExpiry => exact ⟨_, rfl, whenDo fun u => .of_posted rfl⟩
  | cureTick => exact ⟨_, rfl, live (same (by simp [State.linked]))⟩
  | potLifeExpiry => exact ⟨_, rfl, live (same fun _ => rfl)⟩
  | dwellExpiry => exact ⟨_, rfl, whenDo (same (by simp [State.linked]))⟩
  | indexStart => exact ⟨_, rfl, live (same (by simp [State.linked]))⟩
  | indexDone =>
    refine ⟨_, rfl, whenDo fun u => ?_⟩
    have hrise : u.Tidy u.indexDoneRise := .of_same rfl
    dsimp only
    split
    · exact hrise.trans ((State.tidy_endIndex _).trans (State.tidy_settle _))
    · exact hrise
  | indexTimeout => exact ⟨_, rfl, whenDo State.tidy_indexTimeout⟩
  | probeReadDone z k a => exact ⟨_, rfl, whenDo fun u => u.tidy_endRead _⟩
  | probeReadTimeout => exact ⟨_, rfl, live fun u => u.tidy_endRead _⟩
  | diversionStart => exact ⟨_, rfl, live (same (by simp [State.linked]))⟩
  | rackOccupiedEdge r => exact ⟨_, rfl, live fun u => u.tidy_rackChange r true⟩
  | rackEmptyEdge r => exact ⟨_, rfl, live fun u => u.tidy_rackChange r false⟩
  | release => exact ⟨_, rfl, hand State.tidy_takeRelease⟩
  | lotHold => exact ⟨_, rfl, hand fun u t => (u.tidy_takeLotHold t).trans (State.tidy_starts _)⟩
  | lotLift => exact ⟨_, rfl, hand fun u t => .of_same (by simp [State.linked])⟩
  | watchClear => exact ⟨_, rfl, hand fun u t => .of_same (by simp [State.linked])⟩
  | statusQuery => exact ⟨_, rfl, hand State.tidy_takeStatusQuery⟩
  | guardOpening => exact ⟨_, rfl, live fun u => State.Tidy.trans (t := u.setGuard true) (.of_same rfl) (State.tidy_guardOpens _)⟩
  | guardClosing => exact ⟨_, rfl, live (same fun u => by dsimp only; split <;> rfl)⟩
  | settleTimeExpiry => exact ⟨_, rfl, whenDo State.tidy_endHold⟩
  | guardFirstLevel b =>
    refine ⟨_, rfl, whenDo fun u => ?_⟩
    have hlevel : u.Tidy (u.setGuard b) := .of_same rfl
    dsimp only
    split
    · exact hlevel.trans (State.tidy_guardOpens _)
    · exact hlevel
  | linkIdle => exact ⟨_, rfl, line State.keepsQueues_lineIdle⟩
  | sendStart n => exact ⟨_, rfl, line fun u hl => u.keepsQueues_accessBoundary hl n⟩
  | clash => exact ⟨_, rfl, line State.keepsQueues_clash⟩
  | sendEnd b => exact ⟨_, rfl, s.keepsQueues_endSendOf Link.line_of_inSend b⟩
  | telegramTaken e => exact ⟨_, rfl, line fun u hl => u.keepsQueues_goodTelegram hl e⟩
  | faultyTelegram e => exact ⟨_, rfl, line fun u hl => u.keepsQueues_faultyTelegram hl e⟩
  | telegramAbandoned =>
    refine ⟨_, rfl, fun h => ?_⟩
    unfold State.when
    split
    next hc =>
      simp only [Bool.and_eq_true, beq_iff_eq] at hc
      obtain ⟨hl, hr⟩ := hc
      obtain ⟨b, f, hb⟩ := s.line_of_reception hr
      exact h.onLine hl (by simp [hb]) (by simp) rfl
    · exact h
  | heldTelegramEntered => exact ⟨_, rfl, live State.tidy_enterHeld⟩
  | cellSecondsTick => exact ⟨_, rfl, tidy (.of_same rfl)⟩
  | maskChannelEdge k b => exact ⟨_, rfl, live (same fun _ => rfl)⟩
  | startBitHeard => exact ⟨_, rfl, line State.keepsQueues_hearStart⟩

/-- Settles O57: every command keeps the law of the queues, and so does a millisecond. -/
theorem queuesKeepRoomAndOrder : Obligations.QueuesKeepRoomAndOrder := by
  intro s t hs h
  unfold step at h
  split at h
  · cases h
    exact s.tidy_idleMs.queueLaw hs
  next c rest _ =>
    obtain ⟨u, hu, hkeeps⟩ := exec_keepsQueues c { s with pending := rest }
    cases hu.symm.trans h
    exact hkeeps hs

end Sys2Proof.Machine

end

section

namespace Sys2Proof.Machine

/-! ## What every command answers and leaves (R218, R219, R221, R223) -/

/-- What the commands leave that are neither a reset, a load nor the tick of the seconds. -/
def State.kept (s : State) : Seconds × List Instr × Bool × CellCfg × Nat := (s.seconds, s.fixed)

/-- An event that a cell takes from its load on, and that leaves the queue of commands, the load and the seconds. -/
def State.Takes (s t : State) : Prop := t.kept = s.kept ∧ (s.loaded = false → t = s)

section
variable {s : State}

theorem State.Takes.of_live {f : State → State} (h : ∀ u : State, (f u).kept = u.kept) : s.Takes (s.live f) := by
  unfold State.live
  split
  next hl => exact ⟨h s, fun hn => absurd (hl.symm.trans hn) (by simp)⟩
  · exact ⟨rfl, fun _ => rfl⟩

theorem State.Takes.of_when {b : Bool} {f : State → State} (h : ∀ u : State, (f u).kept = u.kept)
    (hb : s.loaded = false → b = false) : s.Takes (s.when b f) := by
  unfold State.when
  split
  next hy => exact ⟨h s, fun hn => absurd ((hb hn).symm.trans hy) (by simp)⟩
  · exact ⟨rfl, fun _ => rfl⟩

theorem State.Takes.of_hand {kind : Byte} {f : State → Telegram → State} (h : ∀ (u : State) t, (f u t).kept = u.kept) :
    s.Takes (s.hand kind f) := by
  unfold State.hand
  split
  next hl _ => exact ⟨h _ _, fun hn => absurd (hl.symm.trans hn) (by simp)⟩
  · exact ⟨rfl, fun _ => rfl⟩

theorem State.takes_endSendOf (o : Option OutEntry) (refused : Bool) : s.Takes (s.endSendOf o refused) :=
  ⟨by simp [State.kept, State.fixed], fun hn => by simp [State.endSendOf, hn]⟩

/-- A command other than a reset, a load and the tick of the seconds. -/
def ordinary (c : Instr) : Prop := c ≠ .coldReset ∧ c ≠ .cellSecondsTick ∧ ∀ im, c ≠ .configurationLoad im

/-- Each command with its wrapper: the loaded cell, the event's own cause, or the head of the inbound queue. -/
theorem exec_takes {c : Instr} (hc : ordinary c) (s : State) : ∃ t, exec c s = .next t ∧ s.Takes t := by
  obtain ⟨hreset, htick, hload⟩ := hc
  cases c with
  | coldReset => exact absurd rfl hreset
  | cellSecondsTick => exact absurd rfl htick
  | configurationLoad im => exact absurd rfl (hload im)
  | clearOutScan | downstreamTransferTimeout | transportEncoderCount | passStallTimeout | purgeTimerExpiry | supplyClaim
  | supplyDone | learningTimeEnd | reClaimTimerExpiry | dwellExpiry | indexTimeout | probeReadDone | idReadAnswer
  | entryReadTimeout | settleTimeExpiry | telegramAbandoned =>
    exact ⟨_, rfl, .of_when (fun u => by simp [State.kept, State.fixed]) fun hl => by simp [hl, State.tracking]⟩
  | occupiedEdge | emptyEdge | indexDone | guardFirstLevel =>
    exact ⟨_, rfl, .of_when (fun u => by dsimp only; split <;> simp [State.kept, State.fixed]) fun hl => by simp [hl]⟩
  | moveStart | orphanWaitExpiry | answerWaitExpiry | reOfferWaitExpiry | upstreamTransferTimeout | receivedRepost
  | claimRequest | passStart | speedWindowEnd | purgeClaimRequest | supplyTick | claimEntryExpiry | claimGranted | cureTick
  | potLifeExpiry | indexStart | probeReadTimeout | diversionStart | rackOccupiedEdge | rackEmptyEdge | guardOpening | linkIdle
  | sendStart | clash | telegramTaken | faultyTelegram | heldTelegramEntered | maskChannelEdge | startBitHeard =>
    exact ⟨_, rfl, .of_live fun u => by simp [State.kept, State.fixed]⟩
  | sprayEncoderCount | guardClosing =>
    exact ⟨_, rfl, .of_live fun u => by dsimp only; split <;> simp [State.kept, State.fixed]⟩
  | offer | accept | decline | received | recipePart | recipeActivate | recipeDrop | release | lotHold | lotLift | watchClear
  | statusQuery => exact ⟨_, rfl, .of_hand fun u t => by simp [State.kept, State.fixed]⟩
  | sendEnd | ownClaimReadback | ownDoneReadback => exact ⟨_, rfl, s.takes_endSendOf _ _⟩

/-- What `kept` spells out. -/
theorem State.Takes.frame {t : State} (h : s.Takes t) : t.seconds = s.seconds ∧ t.fixed = s.fixed :=
  Prod.mk.injEq .. ▸ h.1

theorem State.fixed_iff {t : State} : t.fixed = s.fixed ↔
    t.pending = s.pending ∧ t.loaded = s.loaded ∧ t.cfg = s.cfg ∧ t.secondsMs = s.secondsMs := by
  simp only [State.fixed, Prod.mk.injEq]

/-- The load takes values alone. -/
theorem exec_configurationLoad (im : List Byte) (s : State) :
    exec (.configurationLoad im) s = .next (if s.cell = .start ∧ s.loaded = false then s.load im else s) := by
  show Host.Outcome.next (s.when _ _) = _
  unfold State.when
  simp only [Bool.and_eq_true, beq_iff_eq, Bool.not_eq_true']

theorem State.load_frame (im : List Byte) (s : State) :
    (s.load im).pending = s.pending ∧ (s.load im).seconds = s.seconds := by
  unfold State.load
  split <;> exact ⟨rfl, rfl⟩

/-! ### A cell that is not loaded (R218, R219, R223) -/

theorem Filter.cold_cold (f : Filter) : f.cold.cold = f.cold := rfl

theorem Inputs.cold_cold (i : Inputs) : i.cold.cold = i.cold := by
  have hpos : (i.pos.mapPos fun _ f => f.cold).mapPos (fun _ f => f.cold) = i.pos.mapPos fun _ f => f.cold :=
    PerPos.ext_get fun p => by simp [Filter.cold_cold]
  have hvec {n : Nat} (v : Vector Filter n) :
      (v.mapIdx fun _ f => f.cold).mapIdx (fun _ f => f.cold) = v.mapIdx fun _ f => f.cold := by
    ext1
    simp [Filter.cold_cold]
  simp only [Inputs.cold, hpos, hvec, Filter.cold_cold]

/-- A second cold reset changes nothing. -/
theorem State.cold_cold (s : State) : s.cold.cold = s.cold := by
  simp only [State.cold, Inputs.cold_cold]

/-- A state is as cold reset leaves it, but for its cell state and its seconds. -/
def State.blank (s : State) : Prop := s = { s.cold with cell := s.cell, seconds := s.seconds, secondsMs := s.secondsMs }

theorem State.blank_cold (s : State) : s.cold.blank := by
  unfold State.blank
  rw [State.cold_cold]

/-- The queue of commands, the cell state and the seconds go on in a blank state. -/
theorem State.blank.goesOn (h : s.blank) (p : List Instr) (c : CellState) (n : Seconds) (m : Nat) :
    State.blank { s with pending := p, cell := c, seconds := n, secondsMs := m } := by
  unfold State.blank at h ⊢
  exact congrArg (fun u : State => { u with pending := p, cell := c, seconds := n, secondsMs := m }) h

/-- A cell that is not loaded stays as cold reset leaves it (R218, R219, R223). -/
theorem blankLaw_step {s t : State} (hs : s.blankLaw) (h : step s = .next t) : t.blankLaw := by
  intro ht
  unfold step at h
  split at h
  · cases h
    have hl : s.loaded = false := s.tidy_idleMs.loaded ▸ ht
    obtain ⟨hcell, hblank⟩ := hs hl
    have hidle : s.idleMs = s.secondsMsDown := by simp [State.idleMs, hl]
    rw [hidle]
    unfold State.secondsMsDown
    split
    · exact ⟨hcell, State.blank.goesOn hblank s.pending s.cell s.seconds (s.secondsMs + 1)⟩
    · exact ⟨hcell, State.blank.goesOn hblank (s.pending ++ [Instr.cellSecondsTick]) s.cell s.seconds 0⟩
  next c rest _ =>
    by_cases hc : ordinary c
    · obtain ⟨u, hu, htake⟩ := exec_takes hc { s with pending := rest }
      cases hu.symm.trans h
      obtain ⟨-, hfixed⟩ := htake.frame
      obtain ⟨-, hloaded, -, -⟩ := State.fixed_iff.1 hfixed
      have hl : s.loaded = false := hloaded.symm.trans ht
      obtain ⟨hcell, hblank⟩ := hs hl
      rw [htake.2 hl]
      exact ⟨hcell, State.blank.goesOn hblank rest s.cell s.seconds s.secondsMs⟩
    · unfold ordinary at hc
      by_cases hreset : c = .coldReset
      · subst hreset
        cases h
        exact ⟨.inl rfl, State.blank_cold _⟩
      by_cases htick : c = .cellSecondsTick
      · subst htick
        cases h
        obtain ⟨hcell, hblank⟩ := hs ht
        exact ⟨hcell, State.blank.goesOn hblank rest s.cell (s.seconds + 1) s.secondsMs⟩
      obtain ⟨im, rfl⟩ : ∃ im, c = .configurationLoad im := by
        by_contra hn
        exact hc ⟨hreset, htick, fun im he => hn ⟨im, he⟩⟩
      rw [exec_configurationLoad] at h
      cases h
      split at ht
      next hcause =>
        obtain ⟨-, hblank⟩ := hs hcause.2
        rw [if_pos hcause]
        unfold State.load at ht ⊢
        split at ht
        · cases ht
        next hbad =>
          rw [if_neg hbad]
          exact ⟨.inr rfl, State.blank.goesOn hblank rest .configFault s.seconds s.secondsMs⟩
      next hno =>
        obtain ⟨hcell, hblank⟩ := hs ht
        rw [if_neg hno]
        exact ⟨hcell, State.blank.goesOn hblank rest s.cell s.seconds s.secondsMs⟩

/-- Settles O2: the ordinary commands by their wrappers, and the reset, the load and the tick of the seconds one by one. -/
theorem everyCommandAnswersNext : Obligations.EveryCommandAnswersNext := by
  refine ⟨fun c s => ?_, fun s => rfl, fun c s hl hreset htick hload => ?_, fun c s t hc hl hreset h => ?_,
    fun s t => blankLaw_step⟩
  · by_cases hc : ordinary c
    · obtain ⟨t, ht, htake⟩ := exec_takes hc s
      obtain ⟨hseconds, hfixed⟩ := htake.frame
      exact ⟨t, ht, (State.fixed_iff.1 hfixed).1, fun _ _ => hseconds, fun _ _ => hfixed⟩
    · cases c with
      | coldReset => exact ⟨_, rfl, rfl, fun h => absurd rfl h, fun h => absurd rfl h⟩
      | cellSecondsTick => exact ⟨_, rfl, rfl, fun _ h => absurd rfl h, fun _ _ => rfl⟩
      | configurationLoad im =>
        refine ⟨_, exec_configurationLoad im s, ?_, fun _ _ => ?_, fun _ h => absurd rfl (h im)⟩
        · split
          · exact (s.load_frame im).1
          · rfl
        · split
          · exact (s.load_frame im).2
          · rfl
      | _ => exact absurd ⟨by simp, by simp, by simp⟩ hc
  · obtain ⟨t, ht, -, hsame⟩ := exec_takes ⟨hreset, htick, hload⟩ s
    rw [ht, hsame hl]
  · by_cases htick : c = .cellSecondsTick
    · subst htick
      cases h
      exact ⟨hc, hl⟩
    by_cases hload : ∃ im, c = .configurationLoad im
    · obtain ⟨im, rfl⟩ := hload
      rw [exec_configurationLoad, if_neg (by simp [hc])] at h
      cases h
      exact ⟨hc, hl⟩
    · obtain ⟨u, hu, -, hsame⟩ := exec_takes ⟨hreset, htick, fun im he => hload ⟨im, he⟩⟩ s
      cases hu.symm.trans h
      rw [hsame hl]
      exact ⟨hc, hl⟩

end

end Sys2Proof.Machine

end

section

namespace Sys2Proof.Machine

/-! ## The configuration image (R219, section 11.8) -/

section
variable {im : List Byte}

/-- An image of the whole length is read as it is. -/
theorem imageRead_of_length (h : im.length = 97) : imageRead im = im := by
  simp [imageRead, Config.imageBytes, h]

theorem configImageOk_iff (im : List Byte) : configImageOk im = true ↔
    byteAt im 0 = 0xB7 ∧ byteAt im 1 = 0x31 ∧ byteAt im 2 = 0x01 ∧ (halfAt im 3).toNat = 90 ∧
      (crc16 (im.take 95)).toNat = (halfAt im 95).toNat ∧ 1 ≤ (byteAt im 5).toNat ∧ (byteAt im 5).toNat ≤ 31 := by
  have hlen : halfAt im 3 = 90 ↔ (halfAt im 3).toNat = 90 := by rw [← BitVec.toNat_inj]; rfl
  simp only [configImageOk, Bool.and_eq_true, decide_eq_true_eq, and_assoc, hlen, BitVec.toNat_inj]

theorem zoneIndex_ofIndex {n : Nat} (h : n ≤ 2) : zoneIndex (Zone.ofIndex n) = n := by
  obtain rfl | rfl | rfl : n = 0 ∨ n = 1 ∨ n = 2 := by omega
  all_goals rfl

/-- A slot's zone is among those configured (R129). -/
theorem zoneIndex_cleanZoneCode {zoneCount : Nat} (h : zoneCount ≤ 3) (b : Byte) :
    zoneIndex (cleanZoneCode zoneCount b) = min b.toNat (zoneCount - 1) := zoneIndex_ofIndex (by omega)

/-- The zone of a slot is read from the byte of its place (R129). -/
theorem slotZone_configOf {p : Position} {z : Zone} (h : slotZoneOf (configOf im).slotZone p = some z) :
    zoneIndex z = min (byteAt im (39 + positionBit p)).toNat ((configOf im).zoneCount - 1) := by
  have hcount : (configOf im).zoneCount ≤ 3 := Nat.min_le_right _ _
  cases p with
  | entry | transport | spray | gate | exit => cases h
  | tunnel0 | tunnel1 | tunnel2 | tunnel3 | tunnel4 | tunnel5 =>
    cases h
    exact zoneIndex_cleanZoneCode hcount _

/-- The purge set keeps the valves below the valve count (R219). -/
theorem getLsbD_purgeSet {j : Nat} (hj : j < 16) : (configOf im).purgeSet.getLsbD j =
    ((halfAt im 36).getLsbD j && decide (j < (configOf im).valveCount)) := by
  show (halfAt im 36 &&& BitVec.ofNat 16 (2 ^ (configOf im).valveCount - 1)).getLsbD j = _
  rw [BitVec.getLsbD_and, BitVec.getLsbD_ofNat, Nat.testBit_two_pow_sub_one, decide_eq_true hj, Bool.true_and]

theorem Source.ofCode_eq : ∀ n, Source.ofCode n = match n with
    | 1 => .cleanExit | 2 => .clipped | 3 => .filmMargin | 4 => .cureMargin | 5 => .jetDots | 6 => .holdPlaced | _ => .off
  | 0 | 1 | 2 | 3 | 4 | 5 | 6 | _ + 7 => rfl

theorem WatchAction.ofCode_eq : ∀ n, WatchAction.ofCode n = match n with
    | 1 => .notice | 2 => .audit | 3 => .purge | _ => .none
  | 0 | 1 | 2 | 3 | _ + 4 => rfl

/-- Each counter's values stand in 10 bytes of their own. -/
theorem watch_configOf (im : List Byte) (k : Fin 4) : (configOf im).watch[k] = watchCfgAt im (55 + 10 * k.val) := by
  obtain rfl | rfl | rfl | rfl : k = 0 ∨ k = 1 ∨ k = 2 ∨ k = 3 := by omega
  all_goals rfl

/-- A counter is loaded with its reset value, clear and not armed (R191). -/
theorem loadedWatch_get (c : CellCfg) (k : Fin 4) :
    (loadedWatch c)[k] = { count := c.watch[k].reload, flag := false, armed := false, edgeMark := false } := by
  simp [loadedWatch]

end

/-- Settles O5: each value of a good image from its bytes with its clamp, and the image that is refused. -/
theorem configurationLoadTakesImage : Obligations.ConfigurationLoadTakesImage := by
  intro s im hlen b h near good
  have hhalf (i : Nat) : (halfAt im i).toNat = h i := halfAt_toNat im i
  have hclamp {lo hi : Nat} (hle : lo ≤ hi) (n : Nat) : clamp lo hi n = near lo hi n := clamp_eq hle n
  have hclampHalf {lo hi : Nat} (hle : lo ≤ hi) (i : Nat) : clamp lo hi (halfAt im i).toNat = near lo hi (h i) := by
    rw [hclamp hle, hhalf]
  have hcap (hi n : Nat) : min n hi = near 0 hi n := by
    unfold near
    split
    · omega
    · split <;> omega
  have hgood : configImageOk (imageRead im) = true ↔ good := by
    rw [imageRead_of_length hlen, configImageOk_iff, hhalf, hhalf]
  have htwo (i : Nat) : byteAt im i = 2 ↔ b i = 2 := BitVec.toNat_inj.symm
  refine ⟨fun hc hl hg => ⟨s.takeConfig (configOf im), ?_, ?_, rfl, rfl, rfl, rfl, hclamp (by omega) _, hclamp (by omega) _, rfl,
    hclamp (by omega) _, hclampHalf (by omega) _, hclampHalf (by omega) _, hclamp (by omega) _, hclamp (by omega) _,
    hclampHalf (by omega) _, hclampHalf (by omega) _, hclamp (by omega) _, hclampHalf (by omega) _, hclampHalf (by omega) _,
    hclampHalf (by omega) _, rfl, hclampHalf (by omega) _, hcap _ _, hcap _ _, rfl, fun j hj => ?_, hclamp (by omega) _, rfl,
    hclamp (by omega) _, hcap _ _, hclamp (by omega) _, fun p z hz => slotZone_configOf hz, hclampHalf (by omega) _,
    hclamp (by omega) _, ?_, ?_, fun k => ⟨?_, fun i hi => ?_⟩⟩, fun hc hl hg => ?_, fun h => ?_⟩
  · rw [exec_configurationLoad, if_pos ⟨hc, hl⟩, State.load, if_pos (hgood.2 hg), imageRead_of_length hlen]
  · have hlearning : learningTimer (configOf im) = if b 41 = 0 then none else some (near 0 60 (b 41) * 1000) := by
      rw [← hcap]
      show (if min (b 41) 60 = 0 then none else some (min (b 41) 60 * 1000)) = _
      congr 1
      simp
    have hshort : decide ((configOf im).barToStop < (configOf im).largestLength) =
        decide (near 0 8191 (h 19) < near 0 8191 (h 21)) := by
      rw [← hclampHalf (by omega), ← hclampHalf (by omega)]
      rfl
    rw [← hlearning, ← hshort]
    rfl
  · rw [← hclamp (by omega)]
    exact getLsbD_purgeSet hj
  · exact (hcap _ _).trans (congrArg _ (hhalf 52))
  · show cleanNearFull (b 54) = _
    unfold cleanNearFull near
    split
    · rfl
    · split
      · omega
      · split <;> omega
  · show (loadedWatch (configOf im))[k] = _
    rw [loadedWatch_get, watch_configOf]
    show WatchCounter.mk (halfAt im (55 + 10 * k.val + 1)) _ _ _ = _
    rw [Nat.add_right_comm]
  · subst hi
    show (configOf im).watch[k].reload = _ ∧ (configOf im).watch[k].source = _ ∧ (configOf im).watch[k].threshold = _ ∧
      (configOf im).watch[k].compare = _ ∧ (configOf im).watch[k].mode = _ ∧ (configOf im).watch[k].action = _
    rw [watch_configOf]
    refine ⟨rfl, Source.ofCode_eq _, ?_, if_congr (htwo _) rfl rfl, if_congr (htwo _) rfl rfl, WatchAction.ofCode_eq _⟩
    show clampInt _ _ _ = _
    unfold clampInt
    omega
  · rw [exec_configurationLoad, if_pos ⟨hc, hl⟩, State.load, if_neg (mt hgood.1 hg)]
  · rw [exec_configurationLoad, if_neg]
    rintro ⟨hc, hl⟩
    rcases h with h | h
    · exact h hc
    · exact absurd (hl.symm.trans h) (by decide)

end Sys2Proof.Machine

end

section

namespace Sys2Proof.Machine

/-! ## Where a posted telegram goes (R213) -/

section
variable {l : Link} {e y : OutEntry} {q before after : List OutEntry}

/-- The place of the youngest of a class: behind those of its class and lower. -/
theorem insertYoungest_eq (e : OutEntry) (q : List OutEntry) :
    insertYoungest e q = q.takeWhile (fun x => decide (x.cls ≤ e.cls)) ++ e :: q.dropWhile fun x => decide (x.cls ≤ e.cls) := by
  induction q with
  | nil => rfl
  | cons a t ih =>
    unfold insertYoungest
    split
    next h => simp [h, ih]
    next h => simp [h]

/-- The place of the oldest of a class: behind those of lower class alone (R209). -/
theorem insertOldest_eq (e : OutEntry) (q : List OutEntry) :
    insertOldest e q = q.takeWhile (fun x => decide (x.cls < e.cls)) ++ e :: q.dropWhile fun x => decide (x.cls < e.cls) := by
  induction q with
  | nil => rfl
  | cons a t ih =>
    unfold insertOldest
    split
    next h => simp [h, ih]
    next h => simp [h]

/-- The part of a list that a test passes from its head on, and the rest behind it. -/
theorem takeWhile_dropWhile_split {α : Type} (p : α → Prop) [DecidablePred p] (q : List α) :
    q = q.takeWhile (fun x => decide (p x)) ++ q.dropWhile (fun x => decide (p x)) ∧
      (∀ x ∈ q.takeWhile (fun x => decide (p x)), p x) ∧
      ∀ x, (q.dropWhile fun x => decide (p x)).head? = some x → ¬ p x := by
  refine ⟨List.takeWhile_append_dropWhile.symm, fun x hx => by simpa using List.mem_takeWhile_imp hx, fun x hx => ?_⟩
  have := List.head?_dropWhile_not (fun x => decide (p x)) q
  rw [hx] at this
  simpa using this

/-- The youngest class-2 telegram is the one displaced. -/
theorem dropYoungest_of_last (hy : y.cls = 2) (ha : ∀ x ∈ after, x.cls ≠ 2) :
    dropYoungest (before ++ y :: after) = some (before ++ after) := by
  induction before with
  | nil => simp [dropYoungest, (dropYoungest_eq_none after).2 ha, hy]
  | cons b t ih => rw [List.cons_append, dropYoungest, ih]; rfl

/-- The head in its send stays the head. -/
theorem Link.inSend_withWaitingOut_of_ne_nil (h : l.out ≠ []) (q : List OutEntry) : (l.withWaitingOut q).inSend = l.inSend := by
  unfold Link.withWaitingOut Link.inSend
  cases l.line with
  | sending =>
    obtain ⟨a, t, ht⟩ := List.exists_cons_of_ne_nil h
    simp [ht]
  | busy | idle | receiving _ _ | slot _ _ => rfl

theorem Link.out_withWaitingOut_ne_nil (h : 2 ≤ l.out.length) (hq : q.length + 1 = l.waitingOut.length) :
    (l.withWaitingOut q).out ≠ [] := by
  have hlen := l.length_withWaitingOut q
  have := l.length_out
  intro hn
  rw [hn, List.length_nil] at hlen
  omega

theorem Link.inSend_post_of_ne_nil (h : l.out ≠ []) (e : OutEntry) : (l.post e).inSend = l.inSend := by
  unfold Link.post
  split
  · exact Link.inSend_withWaitingOut_of_ne_nil h _
  next hfull =>
    split
    · rfl
    split
    next q hq =>
      obtain ⟨-, hlen⟩ := dropYoungest_sublist hq
      have hroom : Config.queueRoom ≤ l.out.length := Nat.le_of_not_lt hfull
      have hne := Link.out_withWaitingOut_ne_nil (l := l) (Nat.le_trans (by decide) hroom) hlen
      exact (Link.inSend_withWaitingOut_of_ne_nil hne _).trans (Link.inSend_withWaitingOut_of_ne_nil h q)
    · rfl

theorem Link.post_of_room (h : l.out.length < 8) (e : OutEntry) : l.post e = l.enter e := if_pos h

theorem Link.not_room (h : 8 ≤ l.out.length) : ¬ l.out.length < Config.queueRoom := Nat.not_lt.2 h

theorem Link.post_lost (h : 8 ≤ l.out.length) (he : e.cls = 2) : l.post e = { l with noticeLost := true } := by
  rw [Link.post, if_neg (Link.not_room h), if_pos he]

theorem Link.post_displaces (h : 8 ≤ l.out.length) (he : e.cls ≠ 2) (hw : l.waitingOut = before ++ y :: after) (hy : y.cls = 2)
    (ha : ∀ x ∈ after, x.cls ≠ 2) :
    l.post e = { (l.withWaitingOut (before ++ after)).enter e with noticeLost := true } := by
  rw [Link.post, if_neg (Link.not_room h), if_neg he, hw, dropYoungest_of_last hy ha]

theorem Link.post_held (h : 8 ≤ l.out.length) (he : e.cls ≠ 2) (hw : ∀ x ∈ l.waitingOut, x.cls ≠ 2) :
    l.post e = { l with held := l.held ++ [e] } := by
  rw [Link.post, if_neg (Link.not_room h), if_neg he, (dropYoungest_eq_none _).2 hw]

end

/-! ## The place that falls free (R214) -/

/-- A link after a place of it has fallen free: the held telegram that may enter, of lowest class and held longest, is posted; with none
that may, the place is owed to what is held. -/
def Link.Offered (may : OutEntry → Prop) (base t : Link) : Prop :=
  ((∀ x ∈ base.held, ¬ may x) → t = { base with owed := base.owed || !base.held.isEmpty }) ∧
    ∀ before e after, base.held = before ++ e :: after → may e → (∀ x ∈ before, may x → e.cls < x.cls) →
      (∀ x ∈ after, may x → e.cls ≤ x.cls) → t = Link.post { base with held := before ++ after } e

section
variable {l : Link} {stopped : Bool} {may : OutEntry → Prop} {before after : List OutEntry} {e : OutEntry}

theorem mayEnter_iff (stopped : Bool) (x : OutEntry) : mayEnter stopped x = true ↔ ¬ (stopped = true ∧ x.tg.kind = kindOffer) := by
  cases stopped <;> simp [mayEnter]

/-- The held telegram that comes first among those that may enter. -/
theorem takeHeld_first (hmay : ∀ x, mayEnter stopped x = true ↔ may x) (he : may e)
    (hb : ∀ x ∈ before, may x → e.cls < x.cls) (ha : ∀ x ∈ after, may x → e.cls ≤ x.cls) :
    takeHeld stopped (before ++ e :: after) = some (e, before ++ after) :=
  takeHeld_eq_some stopped ((hmay e).2 he) (fun x hx h => hb x hx ((hmay x).1 h)) fun x hx h => ha x hx ((hmay x).1 h)

theorem takeHeld_none (hmay : ∀ x, mayEnter stopped x = true ↔ may x) {held : List OutEntry} (h : ∀ x ∈ held, ¬ may x) :
    takeHeld stopped held = none :=
  takeHeld_eq_none stopped fun x hx => by
    rw [← Bool.not_eq_true, hmay]
    exact h x hx

/-- Filling a place that stands free, or for which nothing is held. -/
theorem Link.offered_fillPlace (hmay : ∀ x, mayEnter stopped x = true ↔ may x) (hroom : l.out.length < 8 ∨ l.held = []) :
    Link.Offered may l (l.fillPlace stopped) := by
  refine ⟨fun hn => ?_, fun before e after hh he hb ha => ?_⟩
  · rw [Link.fillPlace, takeHeld_none hmay hn]
  · have hlt : l.out.length < 8 := hroom.resolve_right (by simp [hh])
    rw [Link.fillPlace, hh, takeHeld_first hmay he hb ha]
    exact (if_pos hlt).trans (Link.post_of_room (l := { l with held := before ++ after }) hlt e).symm

/-! ## A withdrawal (R214) -/

theorem Link.inSend_toList (l : Link) : l.inSend.toList = if l.line = .sending then l.out.take 1 else [] := by
  unfold Link.inSend
  cases l.line with
  | sending => cases l.out <;> rfl
  | busy | idle | receiving _ _ | slot _ _ => rfl

theorem Link.waitingOut_eq (l : Link) : l.waitingOut = if l.line = .sending then l.out.drop 1 else l.out := by
  unfold Link.waitingOut
  cases l.line with
  | sending => exact List.drop_one.symm
  | busy | idle | receiving _ _ | slot _ _ => rfl

/-- A link without the telegrams that a withdrawal names, before the places that they leave are filled. -/
def Link.withdrawn (l : Link) (mine : OutEntry → Bool) : Link :=
  { l.withWaitingOut (l.waitingOut.filter fun e => !mine e) with
    held := l.held.filter fun e => !mine e
    owed := l.owed && (l.held.filter fun e => !mine e).any fun e => e.tg.kind == kindOffer
    withdrawAsked := l.withdrawAsked || l.inSend.toList.any mine }

theorem Link.withdraw_eq (l : Link) (stopped : Bool) (mine : OutEntry → Bool) :
    l.withdraw stopped mine =
      if ∃ x ∈ l.waitingOut, mine x = true then (l.withdrawn mine).fillPlace stopped else l.withdrawn mine := by
  have hany : l.inSend.any mine = l.inSend.toList.any mine := by cases l.inSend <;> simp
  have hleft : (l.waitingOut.filter fun e => !mine e).length < l.waitingOut.length ↔ ∃ x ∈ l.waitingOut, mine x = true := by
    rw [List.length_filter_lt_length_iff_exists]
    simp
  unfold Link.withdraw
  dsimp only
  rw [hany, if_congr hleft rfl rfl]
  rfl

theorem Link.room_of_withdrawn {mine : OutEntry → Bool} (hlen : l.out.length ≤ 8) (h : ∃ x ∈ l.waitingOut, mine x = true) :
    (l.withdrawn mine).out.length < 8 := by
  have hleft : (l.waitingOut.filter fun e => !mine e).length < l.waitingOut.length := by
    rw [List.length_filter_lt_length_iff_exists]
    simpa using h
  have hout : (l.withdrawn mine).out.length = _ := l.length_withWaitingOut (l.waitingOut.filter fun e => !mine e)
  have := l.length_out
  omega

/-! ## HELD_TELEGRAM_ENTERED (R213, R214) -/

theorem State.exec_heldTelegramEntered {s : State} (hl : s.loaded = true) :
    exec .heldTelegramEntered s = .next { s with link := s.link.offerHeld s.isStopped } :=
  congrArg Host.Outcome.next (State.live_of_loaded hl _)

theorem State.isStopped_iff (s : State) : s.isStopped = true ↔ s.cell = .stopped := by simp [State.isStopped]

/-- The held telegram that comes first is posted where a place can be had, and stays held where none can. -/
theorem Link.offerHeld_of_first (hmay : ∀ x, mayEnter stopped x = true ↔ may x) (hh : l.held = before ++ e :: after) (he : may e)
    (hb : ∀ x ∈ before, may x → e.cls < x.cls) (ha : ∀ x ∈ after, may x → e.cls ≤ x.cls) :
    l.offerHeld stopped = if l.canOffer stopped then Link.post { l with held := before ++ after, owed := l.owed && stopped } e
      else { l with owed := l.owed && stopped } := by
  rw [Link.offerHeld, hh, takeHeld_first hmay he hb ha]

end

/-- Settles O52: a posting by the room and the class, HELD_TELEGRAM_ENTERED, the end of a send and a withdrawal. -/
theorem postedAndHeldTelegrams : Obligations.PostedAndHeldTelegrams := by
  refine ⟨⟨fun l e => ⟨fun h => Link.inSend_post_of_ne_nil h e, (l.post_frame e).1, fun h => ?_, Link.post_lost,
    fun before y after h he hw hy ha => Link.post_displaces h he hw hy ha, Link.post_held⟩, fun s hl => ?_⟩, fun l stopped hlen => ?_⟩
  · obtain ⟨hsplit, hbefore, hafter⟩ := takeWhile_dropWhile_split (fun x : OutEntry => x.cls ≤ e.cls) l.waitingOut
    refine ⟨_, _, hsplit, hbefore, fun x hx => Nat.lt_of_not_le (hafter x hx), ?_⟩
    rw [Link.post_of_room h, Link.enter, insertYoungest_eq]
  · intro may kept takes
    have hmay (x : OutEntry) : mayEnter s.isStopped x = true ↔ may x := by rw [mayEnter_iff, s.isStopped_iff]
    have htakes : s.link.canOffer s.isStopped = true ↔ takes := by
      rw [Link.canOffer_iff, ← Bool.not_eq_true, s.isStopped_iff]
    rw [State.exec_heldTelegramEntered hl]
    refine ⟨fun before e after hh he hb ha => ?_, fun hn => ?_⟩
    · rw [Link.offerHeld_of_first hmay hh he hb ha]
      exact ⟨fun ht => by rw [if_pos (htakes.2 ht)], fun ht => by rw [if_neg (mt htakes.1 ht)]⟩
    · rw [Link.offerHeld, takeHeld_none hmay hn]
  · intro may offered
    have hmay := mayEnter_iff stopped
    refine ⟨fun e rest ho => ?_, ?_⟩
    · have hroom : rest.length < 8 := by simpa [ho] using hlen
      rw [Link.sent, ho]
      exact Link.offered_fillPlace hmay (.inl hroom)
    · intro mine inSend waits base
      have hbase : l.withdrawn mine = base := by
        rw [Link.withdrawn, Link.withWaitingOut, l.inSend_toList, l.waitingOut_eq]
      have hwaits : l.waitingOut = waits := l.waitingOut_eq
      rw [l.withdraw_eq, ← hbase, ← hwaits]
      refine ⟨fun hn => if_neg ?_, fun hy => ?_⟩
      · rintro ⟨x, hx, hm⟩
        exact absurd (hm.symm.trans (hn x hx)) (by decide)
      · rw [if_pos hy]
        exact Link.offered_fillPlace hmay (.inl (Link.room_of_withdrawn hlen hy))

end Sys2Proof.Machine

end

section

namespace Sys2Proof.Machine

/-! ## Idle, start bits and the access slots (R206 to R208) -/

section
variable {s : State} {e : OutEntry} {rest : List OutEntry} {n : Nat}

theorem State.exec_linkIdle (hl : s.loaded = true) : exec .linkIdle s = .next s.lineIdle :=
  congrArg Host.Outcome.next (State.live_of_loaded hl _)

theorem State.exec_startBitHeard (hl : s.loaded = true) : exec .startBitHeard s = .next s.hearStart :=
  congrArg Host.Outcome.next (State.live_of_loaded hl _)

theorem State.exec_sendStart (hl : s.loaded = true) (slot : Nat) : exec (.sendStart slot) s = .next (s.accessBoundary slot) :=
  congrArg Host.Outcome.next (State.live_of_loaded hl _)

theorem State.exec_clash (hl : s.loaded = true) : exec .clash s = .next s.clash :=
  congrArg Host.Outcome.next (State.live_of_loaded hl _)

theorem State.lineIdle_of_waiting (h : s.link.line = .busy ∨ ∃ b f, s.link.line = .receiving b f) :
    s.lineIdle = { s with link := { s.link with line := .idle, access := some 0 } } := by
  rcases h with h | ⟨b, f, h⟩ <;> simp [State.lineIdle, h]

/-- Only a line that is idle lets a start bit or an access slot begin something. -/
theorem State.hearStart_of_not_idle (h : s.link.line ≠ .idle) : s.hearStart = s := by
  unfold State.hearStart
  split
  next hi => exact absurd hi h
  all_goals rfl

theorem State.accessBoundary_of_not_idle (h : s.link.line ≠ .idle) (slot : Nat) : s.accessBoundary slot = s := by
  unfold State.accessBoundary
  split
  next hi _ _ => exact absurd hi h
  · rfl

/-- At an access-slot boundary the head is sent, or the count goes on. -/
theorem State.accessBoundary_eq (hi : s.link.line = .idle) (ha : s.link.access = some n) (ho : s.link.out = e :: rest)
    (slot : Nat) :
    s.accessBoundary slot = if max n slot < accessPosition s.cfg.station s.link.penalty e then
      { s with link := { s.link with access := some (min (max n slot) 127) } } else s.beginSend e := by
  unfold State.accessBoundary
  rw [hi, ha, ho]

theorem State.beginSend_eq (s : State) (e : OutEntry) : s.beginSend e = { s with
    link := { s.link with line := .sending, access := none, withdrawAsked := false }
    supply := { s.supply with
      own := if e.tg.kind = kindSupplyClaim ∧ s.supply.own = .queued then .sending else s.supply.own } } := by
  unfold State.beginSend
  split <;> rfl

theorem State.sentBytes_beginSend (ho : s.link.out = e :: rest) : (s.beginSend e).sentBytes = some (telegramBytes e.tg) := by
  simp [State.sentBytes, State.beginSend, Link.inSend, ho]

/-! ## Clash (R209) and the end of a send (R210, R214) -/

theorem State.clash_of_not_sending (h : s.link.line ≠ .sending) : s.clash = s := by
  unfold State.clash
  split
  next hs _ => exact absurd hs h
  · rfl

theorem State.clash_kept (hs : s.link.line = .sending) (ho : s.link.out = e :: rest) (hw : s.link.withdrawAsked = false) :
    s.clash = { s with link := s.link.clashed (insertOldest e rest), supply := s.supplyClashed e.tg.kind } := by
  simp [State.clash, hs, ho, hw]

theorem State.clash_withdrawn (hs : s.link.line = .sending) (ho : s.link.out = e :: rest) (hw : s.link.withdrawAsked = true) :
    s.clash = State.starts { s with
      link := (s.link.clashed rest).fillPlace s.isStopped, supply := s.supplyClashed e.tg.kind } := by
  simp [State.clash, hs, ho, hw]

/-- The report of a telegram whose block does not act on it (R214). -/
theorem State.exec_sendEnd_unreported (hl : s.loaded = true) (hs : s.link.line = .sending) (ho : s.link.out = e :: rest)
    (hoffer : e.tg.kind ≠ kindOffer) (hreceived : e.tg.kind ≠ kindReceived) (hclaim : e.tg.kind ≠ kindSupplyClaim)
    (hdone : e.tg.kind ≠ kindSupplyDone) (refused : Bool) :
    exec (.sendEnd refused) s = .next { s with link := s.link.sent s.isStopped } := by
  have hsend : s.link.inSend = some e := by simp [Link.inSend, hs, ho]
  show Host.Outcome.next (s.endSendOf s.link.inSend refused) = _
  rw [hsend]
  simp [State.endSendOf, hl, State.endSend, State.sendReport, hoffer, hreceived, hclaim, hdone]

/-! ## Bytes that arrive (R207) -/

theorem State.exec_telegramTaken (hl : s.loaded = true) (ev : HeardEvent) :
    exec (.telegramTaken ev) s = .next (s.goodTelegram ev) := congrArg Host.Outcome.next (State.live_of_loaded hl _)

theorem State.exec_faultyTelegram (hl : s.loaded = true) (ev : HeardEvent) :
    exec (.faultyTelegram ev) s = .next (s.faultyTelegram ev) := congrArg Host.Outcome.next (State.live_of_loaded hl _)

/-- Both commands of the receiver put the bytes that arrive behind those before. -/
theorem State.exec_arrive {heard : List Byte} {fault : Bool} (hl : s.loaded = true) (hr : s.link.line = .receiving heard fault)
    (bytes : List Byte) (stopFault : Bool) {c : Instr}
    (hc : c = .telegramTaken (.arrive bytes stopFault) ∨ c = .faultyTelegram (.arrive bytes stopFault)) :
    exec c s = .next { s with link := { s.link with line := .receiving (heard ++ bytes) (fault || stopFault) } } := by
  have hbytes : s.hearBytes bytes stopFault =
      { s with link := { s.link with line := .receiving (heard ++ bytes) (fault || stopFault) } } := by
    rw [State.hearBytes, hr]
  rcases hc with rfl | rfl
  · rw [State.exec_telegramTaken hl, ← hbytes]
    rfl
  · rw [State.exec_faultyTelegram hl, ← hbytes]
    rfl

theorem State.reception_of_receiving {heard : List Byte} {fault : Bool} (hr : s.link.line = .receiving heard fault) :
    s.reception = receive heard fault := by rw [State.reception, hr]

/-- Bytes that make no whole telegram, begin with no delimiter or name too long a payload. -/
theorem receive_abandoned {bytes : List Byte} (stopFault : Bool)
    (h : bytes.length < 7 ∨ byteAt bytes 0 ≠ 0x5A ∨ 64 < (byteAt bytes 4).toNat ∨ bytes.length < (byteAt bytes 4).toNat + 7) :
    receive bytes stopFault = some .abandoned := by
  unfold receive
  split
  next d dst src kind len rest =>
    refine if_pos ?_
    have hbad : d ≠ 0x5A ∨ 64 < len.toNat ∨ rest.length < len.toNat + 2 := by
      simp only [List.length_cons, byteAt, List.getD_cons_zero, List.getD_cons_succ] at h
      exact h.elim (fun h => .inr (.inr (by omega))) fun h => h.imp_right fun h => h.imp_right fun h => by omega
    exact hbad
  · rfl

theorem State.exec_telegramAbandoned (hl : s.loaded = true) (hr : s.reception = some .abandoned) :
    exec .telegramAbandoned s = .next { s with link := { s.link with line := .busy } } := by
  have hwhen : (s.loaded && s.reception == some .abandoned) = true := by simp [hl, hr]
  exact congrArg Host.Outcome.next (if_pos hwhen)

/-! ## The acceptance slot (R210, R211) -/

variable {g : Telegram}

theorem classOf_ne_zero (kind : Byte) : classOf kind ≠ 0 ↔ 64 ≤ kind.toNat := by
  unfold classOf
  omega

theorem Link.refusesGood_iff (l : Link) (own : Byte) (g : Telegram) : l.refusesGood own g = true ↔
    ((g.dst = own ∨ g.dst = 0) ∧ g.src ≠ 0 ∧ g.src ≠ own ∧ g.src.toNat ≤ 31 ∧ g.kind ∈ kindTable) ∧
      64 ≤ g.kind.toNat ∧ 8 ≤ l.inbound.length := by
  rw [← classOf_ne_zero]
  simp only [Link.refusesGood, Bool.and_eq_true, Bool.or_eq_true, beq_iff_eq, bne_iff_ne, decide_eq_true_eq,
    List.contains_iff_mem]
  unfold Config.queueRoom
  tauto

theorem refusesFaulty_iff (own : Byte) (g : Telegram) : refusesFaulty own g = true ↔
    (g.dst = own ∨ g.dst = 0) ∧ g.src ≠ 0 ∧ g.src ≠ own ∧ g.src.toNat ≤ 31 ∧ g.kind ∈ kindTable := by
  simp only [refusesFaulty, Bool.and_eq_true, Bool.or_eq_true, beq_iff_eq, bne_iff_ne, decide_eq_true_eq, List.contains_iff_mem]
  tauto

theorem State.goodTelegram_slotBegins (hr : s.reception = some (.good g)) :
    s.goodTelegram .slotBegins = s.openSlot (some g) (s.link.refusesGood s.cfg.station g) := by
  rw [State.goodTelegram, hr]

theorem State.faultyTelegram_slotBegins (hr : s.reception = some (.faulty g)) :
    s.faultyTelegram .slotBegins = s.openSlot none (refusesFaulty s.cfg.station g) := by
  rw [State.faultyTelegram, hr]

theorem State.faultyTelegram_slotEnds {driven : Bool} (hs : s.link.line = .slot none driven) :
    s.faultyTelegram .slotEnds = s.closeSlot := by
  rw [State.faultyTelegram, hs]

theorem State.goodTelegram_slotEnds {driven : Bool} (hs : s.link.line = .slot (some g) driven) :
    s.goodTelegram .slotEnds = if driven then s.closeSlot else s.closeSlot.takeGood g := by
  rw [State.goodTelegram, hs]

theorem State.takeGood_of_not_concerns (h : ¬ s.concerns g = true) : s.takeGood g = s := by
  simp [State.takeGood, h]

/-- A telegram of class 0 is for the supply view, as the command of its kind. -/
theorem State.takeGood_claim (h : s.concerns g = true) (hk : g.kind = kindSupplyClaim) :
    Host.Outcome.next (s.takeGood g) = exec (.supplyClaim g.src g.payload) s := by
  have hcls : classOf kindSupplyClaim = 0 := by decide
  simp only [State.takeGood, h, hk, hcls, State.toView]
  rfl

theorem State.takeGood_done (h : s.concerns g = true) (hk : g.kind = kindSupplyDone) :
    Host.Outcome.next (s.takeGood g) = exec (.supplyDone g.src g.payload) s := by
  have hcls : classOf kindSupplyDone = 0 := by decide
  have hne : kindSupplyDone ≠ kindSupplyClaim := by decide
  simp only [State.takeGood, h, hk, hcls, State.toView, if_neg hne]
  rfl

/-- The kinds of the table but the two of the supply are of class 1 or 2. -/
theorem classOf_of_not_supply {kind : Byte} (h : kind ∈ kindTable) (hclaim : kind ≠ kindSupplyClaim)
    (hdone : kind ≠ kindSupplyDone) :
    classOf kind ≠ 0 := by
  have hall : ∀ k ∈ kindTable, k ≠ kindSupplyClaim → k ≠ kindSupplyDone → classOf k ≠ 0 := by decide
  exact hall kind h hclaim hdone

/-- Behind a head that waits every telegram waits; an ownerless one is discarded at the head (R212). -/
theorem dropWhile_append_singleton {l : List Telegram} (h : ∀ x, l.head? = some x → ownerless x.kind = false) (g : Telegram) :
    (l ++ [g]).dropWhile (fun t => ownerless t.kind) = if l = [] ∧ ownerless g.kind = true then [] else l ++ [g] := by
  cases l with
  | nil => cases ho : ownerless g.kind <;> simp [ho]
  | cons x t => simp [h x rfl]

theorem State.takeGood_inbound (h : s.concerns g = true) (hk : classOf g.kind ≠ 0) :
    s.takeGood g = { s with link := { s.link with
      inbound := (s.link.inbound ++ [g]).dropWhile fun t => ownerless t.kind } } := by
  simp [State.takeGood, h, hk, State.toInbound, Link.discardOwnerless]

end

/-! ## The head of the inbound queue (R212), and the CRC-16 (R207) -/

theorem Link.popInbound_eq {l : Link} {g : Telegram} {rest : List Telegram} (h : l.inbound = g :: rest) :
    l.popInbound = { l with
      inbound := rest.dropWhile fun x => decide (x.kind = 0x84 ∨ x.kind = 0x86 ∨ x.kind = 0x89 ∨ x.kind = 0x8A) } := by
  have howner : (fun x : Telegram => ownerless x.kind) =
      fun x => decide (x.kind = 0x84 ∨ x.kind = 0x86 ∨ x.kind = 0x89 ∨ x.kind = 0x8A) := by
    funext x
    rw [Bool.eq_iff_iff]
    simp only [ownerless, Bool.or_eq_true, beq_iff_eq, decide_eq_true_eq, or_assoc]
    exact Iff.rfl
  rw [← howner]
  simp [Link.popInbound, Link.discardOwnerless, h]

/-- One shift of the CRC register (R207). -/
def crcShift (r : Half) : Half := if r.msb then (r <<< 1) ^^^ 0x1021#16 else r <<< 1

theorem crcShifts_eq (n : Nat) (r : Half) : crcShifts n r = (List.range n).foldl (fun r _ => crcShift r) r := by
  have hiterate : ∀ r, crcShifts n r = crcShift^[n] r := by
    induction n with
    | zero => exact fun _ => rfl
    | succ n ih => exact fun r => ih (crcShift r)
  rw [hiterate, List.foldl_const, List.length_range]

/-- A byte more is fed in behind those before. -/
theorem crc16_append (heard : List Byte) (b : Byte) :
    crc16 (heard ++ [b]) = crcShifts 8 (crc16 heard ^^^ (b ++ 0#8 : BitVec 16)) := List.foldl_append

/-- Settles O53: the events of the line one by one, the head of the inbound queue, the CRC, and the telegrams of other stations. -/
theorem lineEventsAndTelegrams : Obligations.LineEventsAndTelegrams := by
  refine ⟨fun s hl => ?_, fun l g rest h => Link.popInbound_eq h, fun heard b => ⟨rfl, ?_⟩, fun s g hl hlen => ?_⟩
  · intro may offered
    have hmay (x : OutEntry) : mayEnter s.isStopped x = true ↔ may x := by rw [mayEnter_iff, s.isStopped_iff]
    refine ⟨fun h => ?_, fun good d hs => ⟨?_, ?_⟩, fun hi => ?_, fun hn => ⟨?_, fun slot => ?_⟩,
      fun e rest n slot hi ha ho => ?_, fun hn => ?_, fun e rest hs ho => ?_, fun e rest refused hs ho hoffer hreceived hclaim hdone hroom => ?_⟩
    · rw [State.exec_linkIdle hl, State.lineIdle_of_waiting h]
    · rw [State.exec_linkIdle hl, State.lineIdle, hs]
    · rw [State.slotPin, hs]
    · rw [State.exec_startBitHeard hl, State.hearStart, hi]
    · rw [State.exec_startBitHeard hl, State.hearStart_of_not_idle hn]
    · rw [State.exec_sendStart hl, State.accessBoundary_of_not_idle hn]
    · intro position
      have hposition : accessPosition s.cfg.station s.link.penalty e = position := rfl
      rw [State.exec_sendStart hl, State.accessBoundary_eq hi ha ho, hposition]
      exact ⟨fun hp => ⟨_, by rw [if_neg (Nat.not_lt.2 hp)], s.beginSend_eq e, State.sentBytes_beginSend ho⟩,
        fun hp => by rw [if_pos hp]⟩
    · rw [State.exec_clash hl, State.clash_of_not_sending hn]
    · intro after clashed
      have hafter : s.supplyClashed e.tg.kind = after := by
        unfold State.supplyClashed Supply.clashed Supply.noClaim
        cases ho : s.supply.own <;> simp [after, ho]
      rw [State.exec_clash hl, ← hafter]
      refine ⟨fun hw => ?_, fun hw hroom => ⟨_, Link.offered_fillPlace hmay hroom, by rw [State.clash_withdrawn hs ho hw]; rfl⟩⟩
      obtain ⟨hsplit, hbefore, hbehind⟩ := takeWhile_dropWhile_split (fun x : OutEntry => x.cls < e.cls) rest
      refine ⟨_, _, hsplit, hbefore, fun x hx => Nat.le_of_not_lt (hbehind x hx), ?_⟩
      rw [State.clash_kept hs ho hw, insertOldest_eq]
      rfl
    · refine ⟨_, Link.offered_fillPlace hmay hroom, ?_⟩
      rw [State.exec_sendEnd_unreported hl hs ho hoffer hreceived hclaim hdone, Link.sent, ho]
      rfl
  · rw [crc16_append, crcShifts_eq]
    rfl
  · intro body here slot ended
    have hgood : s.link.refusesGood s.cfg.station g = decide (here ∧ 64 ≤ g.kind.toNat ∧ 8 ≤ s.link.inbound.length) := by
      rw [Bool.eq_iff_iff, Link.refusesGood_iff, decide_eq_true_eq]
    have hfaulty : refusesFaulty s.cfg.station g = decide here := by rw [Bool.eq_iff_iff, refusesFaulty_iff, decide_eq_true_eq]
    have hconcerns : ended.concerns g = true ↔ here := by
      rw [State.concerns_iff]
      simp only [and_assoc]
      exact Iff.rfl
    refine ⟨rfl, fun heard fault bytes stopFault c hr hc => State.exec_arrive hl hr bytes stopFault hc, fun hr => ?_,
      fun crc stopFault hr hbad => ?_, fun bytes stopFault hr hbad => ?_, fun hs => ?_, fun hs => ?_, fun hs => ?_⟩
    · have hrec : s.reception = some (.good g) := by
        rw [State.reception_of_receiving hr]
        exact (receive_framed g hlen _ false).trans (if_neg (by simp [body, crcPart]))
      rw [State.exec_telegramTaken hl, State.goodTelegram_slotBegins hrec, hgood]
      rfl
    · have hrec : s.reception = some (.faulty g) := by
        rw [State.reception_of_receiving hr]
        exact (receive_framed g hlen crc stopFault).trans (if_pos (hbad.imp_right Ne.symm))
      rw [State.exec_faultyTelegram hl, State.faultyTelegram_slotBegins hrec, hfaulty]
      rfl
    · refine State.exec_telegramAbandoned hl ?_
      rw [State.reception_of_receiving hr, receive_abandoned stopFault hbad]
    · rw [State.exec_faultyTelegram hl]
      rcases hs with hs | hs <;> rw [State.faultyTelegram_slotEnds hs] <;> rfl
    · rw [State.exec_telegramTaken hl, State.goodTelegram_slotEnds hs]
      rfl
    · rw [State.exec_telegramTaken hl, State.goodTelegram_slotEnds hs]
      refine ⟨fun hn => ?_, fun hh hk => State.takeGood_claim (hconcerns.2 hh) hk,
        fun hh hk => State.takeGood_done (hconcerns.2 hh) hk, fun hh hclaim hdone hhead => ?_⟩
      · exact congrArg Host.Outcome.next (State.takeGood_of_not_concerns (mt hconcerns.1 hn))
      · have ⟨_, _, _, _, hkind⟩ := hh
        rw [← dropWhile_append_singleton hhead]
        exact congrArg Host.Outcome.next (State.takeGood_inbound (hconcerns.2 hh) (classOf_of_not_supply hkind hclaim hdone))

end Sys2Proof.Machine

end

section

namespace Sys2Proof.Machine

/-! ## Fields of a page (section 11.6) -/

/-- Sixteen flags in two bytes, the first in bit 0 of the second byte. -/
theorem getLsbD_flagBytes (bits : List Bool) {j : Nat} (hj : j < 16) :
    (flagByte (bits.drop 8) ++ flagByte (bits.take 8) : Half).getLsbD j = bits.getD j false := by
  rw [BitVec.getLsbD_append]
  split
  next h => rw [getLsbD_flagByte _ h, List.getD_eq_getElem?_getD, List.getElem?_take_of_lt h, List.getD_eq_getElem?_getD]
  next h =>
    rw [getLsbD_flagByte _ (by omega), List.getD_eq_getElem?_getD, List.getElem?_drop, List.getD_eq_getElem?_getD,
      Nat.add_sub_cancel' (by omega)]

section
variable {α : Type} {n : Nat}

theorem getD_map_toList (v : Vector α n) (f : α → Bool) (i : Fin n) : (v.toList.map f).getD i.val false = f v[i] := by
  simp [List.getD]

theorem byteAt_append_right {l : List Byte} (h : l.length = n) (m : List Byte) (i : Nat) :
    byteAt (l ++ m) (n + i) = byteAt m i := by
  rw [byteAt, byteAt, List.getD_append_right _ _ _ _ (by omega), h, Nat.add_sub_cancel_left]

theorem halfAt_append_right {l : List Byte} (h : l.length = n) (m : List Byte) (i : Nat) :
    halfAt (l ++ m) (n + i) = halfAt m i :=
  congrArg₂ (· ++ ·) (byteAt_append_right h m i) (byteAt_append_right h m (i + 1))

theorem byteAt_map_toList (v : Vector α n) (f : α → Byte) (m : List Byte) (i : Fin n) :
    byteAt (v.toList.map f ++ m) i.val = f v[i] := by
  rw [byteAt, List.getD_append _ _ _ _ (by simp)]
  simp [List.getD]

/-- Fields of two bytes one behind the other. -/
theorem halfAt_flatMap_be16 (l : List α) (f : α → Half) (m : List Byte) {i : Nat} (hi : i < l.length) :
    halfAt (l.flatMap (fun a => be16 (f a)) ++ m) (2 * i) = f l[i] := by
  induction l generalizing i with
  | nil => simp at hi
  | cons a l ih =>
    rw [List.flatMap_cons, List.append_assoc]
    cases i with
    | zero => exact halfAt_be16 [] (f a)
    | succ i =>
      rw [Nat.mul_succ, Nat.add_comm, halfAt_append_right (be16_length _), ih (Nat.lt_of_succ_lt_succ hi)]
      rfl

theorem halfAt_flatMap_toList (v : Vector α n) (f : α → Half) (m : List Byte) (i : Fin n) :
    halfAt (v.toList.flatMap (fun a => be16 (f a)) ++ m) (2 * i.val) = f v[i] := by
  rw [halfAt_flatMap_be16 _ _ _ (by simp)]
  simp

theorem length_flatMap_toList (v : Vector α n) (f : α → Half) : (v.toList.flatMap fun a => be16 (f a)).length = 2 * n := by
  simp [be16_length, Nat.mul_comm]

theorem length_map_toList (v : Vector α n) (f : α → Byte) : (v.toList.map f).length = n := by simp

end

/-! ## The query (R215, R217) -/

section
variable {s : State} {g : Telegram} {rest : List Telegram}

theorem State.exec_statusQuery (hl : s.loaded = true) (hg : s.link.inbound = g :: rest) (hk : g.kind = kindStatusQuery) :
    exec .statusQuery s = .next (State.takeStatusQuery { s with link := s.link.popInbound } g) :=
  congrArg Host.Outcome.next (State.hand_untracked State.takeStatusQuery hl hg hk rfl)

/-- Only a payload of one byte, with the number of a page, is answered. -/
theorem State.takeStatusQuery_discarded (h : g.payload.length ≠ 1 ∨ 2 ≤ (byteAt g.payload 0).toNat) :
    s.takeStatusQuery g = s := by
  unfold State.takeStatusQuery
  split
  next hp => simp [hp, byteAt] at h
  next hp => simp [hp, byteAt] at h
  next => rfl

theorem State.takeStatusQuery_full (hp : g.payload = [0]) (hfull : 8 ≤ s.link.out.length) :
    s.takeStatusQuery g = s.post g.src kindStatus s.statusCell := by
  have hroom : ¬ s.link.hasRoom = true := fun h => absurd (of_decide_eq_true h) (Nat.not_lt.2 hfull)
  rw [State.takeStatusQuery, hp]
  exact if_neg hroom

theorem State.takeStatusQuery_entered (hp : g.payload = [0]) (hlt : s.link.out.length < 8) :
    s.takeStatusQuery g = { s with link := (s.post g.src kindStatus s.statusCell).link.clearFlags } := by
  have hroom : s.link.hasRoom = true := decide_eq_true hlt
  rw [State.takeStatusQuery, hp]
  exact if_pos hroom

theorem State.takeStatusQuery_store (hp : g.payload = [1]) :
    s.takeStatusQuery g = s.post g.src kindStatus s.statusStore := by
  rw [State.takeStatusQuery, hp]
  rfl

end

/-! ## Page 0 -/

/-- A zone's value as one field: 8000h when absent. -/
def State.zoneField (s : State) (z : Zone) : Half :=
  if s.fitted z then ((s.tunnel.zones.get z).value.map (BitVec.ofInt 16)).getD 0x8000 else 0x8000

/-- The thirty bytes of page 0 before the counts. -/
def State.cellHead (s : State) : List Byte :=
  [0, s.cell.code, flagByte [s.link.noticeLost, s.link.assemblyBroken, s.link.barShort], byteOf s.link.clashes, byteOf s.boardCount,
      flagByte ((s.table.toList.map Option.isSome).drop 8), flagByte ((s.table.toList.map Option.isSome).take 8),
      byteOf s.holds.list.length, s.runState.code, s.tunnel.phase.code] ++
    half16 s.dwellShown ++ half16 s.tunnel.extensionUsed ++
    [byteOf (slotPositions.filter fun p => !s.isFree p).length,
      byteOf (s.zoneCode .a + 4 * s.zoneCode .b + 16 * s.zoneCode .c)] ++
    be16 (s.zoneField .a) ++ be16 (s.zoneField .b) ++ be16 (s.zoneField .c) ++
    [byteOf s.supply.view.length, s.supply.own.code, (s.entriesAhead.map byteOf).getD 0xFF,
      flagByte [s.ownSerial.isSome, s.supply.holder == some .purge, s.supply.learning.isSome]] ++
    optWord s.ownSerial

/-- The two bytes of flags behind the counts, and the ids of the filters. -/
def State.cellTail (s : State) : List Byte :=
  flagByte (s.watchFlags ++ s.watch.toList.map (·.armed)) :: flagByte (s.holds.filters.toList.map Option.isSome) ::
    s.holds.filters.toList.map filterIdByte

section
variable (s : State)

theorem State.zoneValue_eq (z : Zone) : s.zoneValue z = be16 (s.zoneField z) := by
  have habsent : be16 0x8000 = [0x80, 0x00] := by decide
  unfold State.zoneValue State.zoneField
  cases hfit : s.fitted z with
  | false => exact habsent.symm
  | true =>
    cases hv : (s.tunnel.zones.get z).value with
    | none => exact habsent.symm
    | some v => rfl

theorem State.statusCell_eq :
    s.statusCell = s.cellHead ++ (s.watch.toList.flatMap (fun w => be16 w.count) ++ s.cellTail) := by
  simp only [State.statusCell, State.cellHead, State.cellTail, State.positionBits, State.zoneValue_eq, List.append_assoc,
    List.cons_append, List.nil_append]

theorem State.cellHead_length : s.cellHead.length = 30 := rfl

theorem State.statusCell_length : s.statusCell.length = 48 := by
  rw [State.statusCell_eq, List.length_append, List.length_append, State.cellHead_length, length_flatMap_toList]
  simp [State.cellTail]

section
variable {i : Nat}

theorem State.byteAt_cellHead (hi : i < 30) : byteAt s.statusCell i = byteAt s.cellHead i := by
  rw [State.statusCell_eq, byteAt, byteAt, List.getD_append _ _ _ _ hi]

theorem State.halfAt_cellHead (hi : i < 29) : halfAt s.statusCell i = halfAt s.cellHead i :=
  congrArg₂ (· ++ ·) (s.byteAt_cellHead (by omega)) (s.byteAt_cellHead (by omega))

theorem State.wordAt_cellHead (hi : i < 27) : wordAt s.statusCell i = wordAt s.cellHead i :=
  congrArg₂ (· ++ ·) (s.halfAt_cellHead (by omega)) (s.halfAt_cellHead (by omega))

theorem State.byteAt_cellTail (i : Nat) : byteAt s.statusCell (38 + i) = byteAt s.cellTail i := by
  rw [State.statusCell_eq, show 38 + i = 30 + (2 * 4 + i) by omega, byteAt_append_right s.cellHead_length,
    byteAt_append_right (length_flatMap_toList s.watch _)]

theorem State.halfAt_count (i : Fin 4) : halfAt s.statusCell (30 + 2 * i.val) = s.watch[i].count := by
  rw [State.statusCell_eq, halfAt_append_right s.cellHead_length]
  exact halfAt_flatMap_toList s.watch _ _ i

end

theorem State.cellCode_eq : s.cell.code =
    (match s.cell with | .configFault => 0 | .start => 1 | .clearOut => 2 | .run => 3 | .stopped => 4) := by
  cases s.cell <;> rfl

theorem State.boardCount_eq : s.boardCount = (positions.filter fun p => (s.table.get p).isSome).length := by
  rw [State.boardCount, PerPos.toList, List.filter_map, List.length_map]
  rfl

theorem State.slotCount_eq : (slotPositions.filter fun p => !s.isFree p).length =
    (slotPositions.filter fun p => (s.table.get p).isSome).length := by
  simp [State.isFree]

theorem State.getLsbD_positionField (p : Position) : (halfAt s.statusCell 5).getLsbD (positionBit p) = (s.table.get p).isSome := by
  have hfield := getLsbD_flagBytes (s.table.toList.map Option.isSome) (show positionBit p < 16 by cases p <;> decide)
  rw [State.halfAt_cellHead _ (by decide)]
  exact hfield.trans (by cases p <;> rfl)

theorem State.runStateCode_eq : s.runState.code = (if s.tunnel.fault = true then 2
    else if (s.cell = .clearOut ∨ s.cell = .run) ∧ s.tracker.hold = false then 1 else 0) := by
  unfold State.runState
  cases s.tunnel.fault <;> cases s.tracker.hold <;> cases s.cell <;> rfl

theorem State.phaseCode_eq :
    s.tunnel.phase.code = (match s.tunnel.phase with | .dwell => 0 | .indexPending => 1 | .indexing => 2) := by
  cases s.tunnel.phase <;> rfl

theorem State.ownCode_eq : s.supply.own.code = (match s.supply.own with
    | .none => 0 | .queued => 1 | .sending => 2 | .waiting => 3 | .granted => 4 | .refusedWait => 5 | .ending => 6) := by
  cases s.supply.own <;> rfl

theorem State.dwellShown_of_dwell (h : s.tunnel.phase = .dwell) : s.dwellShown = s.tunnel.dwell := by rw [State.dwellShown, h]

theorem State.dwellShown_of_not_dwell (h : s.tunnel.phase ≠ .dwell) : s.dwellShown = 0 := by
  unfold State.dwellShown
  split
  next hd => exact absurd hd h
  all_goals rfl

/-! ### The zones -/

theorem State.zoneCode_eq (z : Zone) : s.zoneCode z = if s.cfg.zoneCount ≤ zoneIndex z then 3 else
    match s.tunnel.zones.get z with
    | { value := none, miss := _ } => 0
    | { value := some _, miss := n } => if n = 0 then 2 else 1 := by
  simp only [State.zoneCode, State.fitted, decide_eq_true_eq, ← Nat.not_lt, ite_not]
  congr 1
  obtain ⟨value, miss⟩ := s.tunnel.zones.get z
  cases value with
  | none => rfl
  | some v => cases miss <;> rfl

theorem State.zoneCode_lt (z : Zone) : s.zoneCode z < 4 := by
  unfold State.zoneCode
  split
  · cases (s.tunnel.zones.get z).status <;> decide
  · decide

/-- Each zone has two bits of the status byte. -/
theorem State.zoneCode_of_byte (z : Zone) :
    (byteOf (s.zoneCode .a + 4 * s.zoneCode .b + 16 * s.zoneCode .c)).toNat / 4 ^ zoneIndex z % 4 = s.zoneCode z := by
  have ha := s.zoneCode_lt .a
  have hb := s.zoneCode_lt .b
  have hc := s.zoneCode_lt .c
  rw [byteOf, BitVec.toNat_ofNat]
  cases z <;> simp only [zoneIndex] <;> omega

theorem State.halfAt_zoneField (z : Zone) : halfAt s.statusCell (16 + 2 * zoneIndex z) = s.zoneField z := by
  rw [State.halfAt_cellHead _ (by cases z <;> decide)]
  cases z <;> exact halfAt_be16 [] _

/-- A zone without a value, and a zone not fitted, show 8000h. -/
theorem State.zoneField_absent {z : Zone} (h : s.zoneCode z = 0 ∨ s.zoneCode z = 3) : s.zoneField z = 0x8000 := by
  unfold State.zoneCode at h
  unfold State.zoneField
  split at h
  next hfit =>
    have hnone : (s.tunnel.zones.get z).value = none := by
      revert h
      unfold ZoneState.status
      split
      next hv => exact fun _ => hv
      next => split <;> simp [ZoneStatus.code]
    rw [if_pos hfit, hnone]
    rfl
  next hfit => exact if_neg hfit

theorem State.zoneField_present {z : Zone} {v : Int} (hfit : zoneIndex z < s.cfg.zoneCount)
    (hv : (s.tunnel.zones.get z).value = some v) : s.zoneField z = BitVec.ofInt 16 v := by
  rw [State.zoneField, if_pos (show s.fitted z = true from decide_eq_true hfit), hv]
  rfl

/-! ### The own entry and the counters -/

variable {s} in
theorem State.ownSerial_absent (h : ∀ e ∈ s.supply.view, e.station ≠ s.cfg.station) : s.ownSerial = none := by
  have hfind : s.supply.view.find? (fun e => e.station == s.cfg.station) = none :=
    List.find?_eq_none.2 fun e he => by simpa using h e he
  rw [State.ownSerial, hfind]
  rfl

variable {s} in
theorem State.ownSerial_of_split {before behind : List ClaimEntry} {e : ClaimEntry} (hv : s.supply.view = before ++ e :: behind)
    (he : e.station = s.cfg.station) (hbefore : ∀ x ∈ before, x.station ≠ s.cfg.station) : s.ownSerial = e.serial := by
  have hfind : s.supply.view.find? (fun e => e.station == s.cfg.station) = some e :=
    List.find?_eq_some_iff_append.2 ⟨by simpa using he, before, behind, hv, fun x hx => by simpa using hbefore x hx⟩
  rw [State.ownSerial, hfind]
  rfl

theorem State.getLsbD_supplyFlags {i : Nat} (hi : i < 8) : (byteAt s.statusCell 25).getLsbD i =
    [s.ownSerial.isSome, s.supply.holder == some .purge, s.supply.learning.isSome].getD i false := by
  rw [State.byteAt_cellHead _ (by decide)]
  exact getLsbD_flagByte _ hi

theorem State.wordAt_ownSerial : wordAt s.statusCell 26 = s.ownSerial.getD 0 :=
  (s.wordAt_cellHead (by decide)).trans (wordAt_be32 _)

theorem State.getLsbD_flag (i : Fin 4) : (byteAt s.statusCell 38).getLsbD i.val = s.watch[i].flag := by
  rw [State.byteAt_cellTail _ 0]
  refine (getLsbD_flagByte _ (by omega)).trans ?_
  rw [List.getD_append _ _ _ _ (by simp [State.watchFlags])]
  exact getD_map_toList s.watch _ i

theorem State.getLsbD_armed (i : Fin 4) : (byteAt s.statusCell 38).getLsbD (4 + i.val) = s.watch[i].armed := by
  have hflags : s.watchFlags.length = 4 := by simp [State.watchFlags]
  rw [State.byteAt_cellTail _ 0]
  refine (getLsbD_flagByte _ (by omega)).trans ?_
  rw [List.getD_append_right _ _ _ _ (by omega), hflags, Nat.add_sub_cancel_left]
  exact getD_map_toList s.watch _ i

theorem State.getLsbD_filterFlags (k : Fin 8) : (byteAt s.statusCell 39).getLsbD k.val = s.holds.filters[k].isSome := by
  rw [State.byteAt_cellTail _ 1]
  exact (getLsbD_flagByte _ k.isLt).trans (getD_map_toList s.holds.filters _ k)

theorem State.byteAt_filterId (k : Fin 8) : byteAt s.statusCell (40 + k.val) = filterIdByte s.holds.filters[k] := by
  rw [show 40 + k.val = 38 + (2 + k.val) by omega, State.byteAt_cellTail]
  exact (byteAt_append_right (l := [_, _]) rfl _ _).trans (by simpa using byteAt_map_toList s.holds.filters filterIdByte [] k)

/-! ## Page 1 -/

theorem length_assemblerBytes (a : Assembler) : (assemblerBytes a).length = 2 := by cases a <;> rfl

/-- Page 1 as a record CRC's field each for the active and the staged references, the counts between and the rest behind. -/
theorem State.statusStore_eq : s.statusStore =
    [1, flagByte (s.store.slots.toList.map fun k => k.active.isSome),
        flagByte (s.store.slots.toList.map fun k => k.staged.isSome)] ++
      (s.store.slots.toList.flatMap (fun k => be16 ((k.active.bind s.store.crcOf).getD 0)) ++
        (s.store.slots.toList.map (fun k => byteOf ((k.active.map s.refCount).getD 0)) ++
          (s.store.slots.toList.flatMap (fun k => be16 ((k.staged.bind s.store.crcOf).getD 0)) ++
            (byteOf s.store.countRetiring :: byteOf s.store.countFree :: assemblerBytes s.store.assembler)))) := by
  simp only [State.statusStore, State.crcBytes, List.append_assoc, List.cons_append, List.nil_append]

theorem State.statusStore_length : s.statusStore.length = 47 := by
  simp only [State.statusStore_eq, List.length_append, length_flatMap_toList, length_map_toList, List.length_cons, List.length_nil,
    length_assemblerBytes]

theorem State.getLsbD_activeFlags (k : Fin 8) : (byteAt s.statusStore 1).getLsbD k.val = s.store.slots[k].active.isSome :=
  (getLsbD_flagByte _ k.isLt).trans (getD_map_toList s.store.slots _ k)

theorem State.getLsbD_stagedFlags (k : Fin 8) : (byteAt s.statusStore 2).getLsbD k.val = s.store.slots[k].staged.isSome :=
  (getLsbD_flagByte _ k.isLt).trans (getD_map_toList s.store.slots _ k)

theorem State.halfAt_activeCrc (k : Fin 8) :
    halfAt s.statusStore (3 + 2 * k.val) = (s.store.slots[k].active.bind s.store.crcOf).getD 0 := by
  rw [State.statusStore_eq, halfAt_append_right (n := 3) rfl]
  exact halfAt_flatMap_toList s.store.slots _ _ k

theorem State.byteAt_references (k : Fin 8) :
    byteAt s.statusStore (19 + k.val) = byteOf ((s.store.slots[k].active.map s.refCount).getD 0) := by
  rw [State.statusStore_eq, show 19 + k.val = 3 + (2 * 8 + k.val) by omega, byteAt_append_right (n := 3) rfl,
    byteAt_append_right (length_flatMap_toList s.store.slots _)]
  exact byteAt_map_toList s.store.slots _ _ k

theorem State.halfAt_stagedCrc (k : Fin 8) :
    halfAt s.statusStore (27 + 2 * k.val) = (s.store.slots[k].staged.bind s.store.crcOf).getD 0 := by
  rw [State.statusStore_eq, show 27 + 2 * k.val = 3 + (2 * 8 + (8 + 2 * k.val)) by omega, halfAt_append_right (n := 3) rfl,
    halfAt_append_right (length_flatMap_toList s.store.slots _), halfAt_append_right (length_map_toList s.store.slots _)]
  exact halfAt_flatMap_toList s.store.slots _ _ k

/-- The bytes of page 1 behind the staged CRCs. -/
theorem State.byteAt_storeTail (j : Nat) : byteAt s.statusStore (43 + j) =
    byteAt (byteOf s.store.countRetiring :: byteOf s.store.countFree :: assemblerBytes s.store.assembler) j := by
  rw [State.statusStore_eq, show 43 + j = 3 + (2 * 8 + (8 + (2 * 8 + j))) by omega, byteAt_append_right (n := 3) rfl,
    byteAt_append_right (length_flatMap_toList s.store.slots _), byteAt_append_right (length_map_toList s.store.slots _),
    byteAt_append_right (length_flatMap_toList s.store.slots _)]

theorem State.halfAt_assembler_idle (h : s.store.assembler = .idle) : halfAt s.statusStore 45 = 0 := by
  rw [halfAt, State.byteAt_storeTail _ 2, State.byteAt_storeTail _ 3, h]
  exact (by decide : (0#8 ++ 0#8 : Half) = 0)

theorem State.byteAt_assembling {k : Fin 8} {n : Nat} {data : List Byte} (h : s.store.assembler = .assembling k n data) :
    byteAt s.statusStore 45 = 0x80 ||| byteOf k.val ∧ byteAt s.statusStore 46 = byteOf n := by
  rw [State.byteAt_storeTail _ 2, State.byteAt_storeTail _ 3, h]
  exact ⟨rfl, rfl⟩

end

/-- Settles O54: the query's three cases, then the fields of the two pages in the order of their bytes. -/
theorem statusAnswered : Obligations.StatusAnswered := by
  intro s g rest hl hg hk popped
  rw [State.exec_statusQuery hl hg hk]
  refine ⟨fun h => congrArg Host.Outcome.next (State.takeStatusQuery_discarded h), fun hp => ?_, fun hp => ?_⟩
  · have hhead {i : Nat} (hi : i < 30) : byteAt popped.statusCell i = byteAt popped.cellHead i := popped.byteAt_cellHead hi
    have hhalf {i : Nat} (hi : i < 29) : halfAt popped.statusCell i = halfAt popped.cellHead i := popped.halfAt_cellHead hi
    have hdwell : halfAt popped.statusCell 10 = BitVec.ofNat 16 popped.dwellShown := (hhalf (by decide)).trans (halfAt_be16 [] _)
    have hahead : byteAt popped.statusCell 24 = (popped.entriesAhead.map byteOf).getD 0xFF := hhead (by decide)
    refine ⟨popped.statusCell, popped.statusCell_length,
      fun hfull => congrArg Host.Outcome.next (State.takeStatusQuery_full (s := popped) hp hfull),
      fun hlt => congrArg Host.Outcome.next (State.takeStatusQuery_entered (s := popped) hp hlt),
      hhead (by decide), (hhead (by decide)).trans popped.cellCode_eq, ?_, ?_, ?_, hhead (by decide),
      (hhead (by decide)).trans (congrArg byteOf popped.boardCount_eq), popped.getLsbD_positionField, hhead (by decide),
      (hhead (by decide)).trans popped.runStateCode_eq, (hhead (by decide)).trans popped.phaseCode_eq,
      fun h => hdwell.trans (congrArg (BitVec.ofNat 16) (popped.dwellShown_of_dwell h)),
      fun h => hdwell.trans (congrArg (BitVec.ofNat 16) (popped.dwellShown_of_not_dwell h)),
      (hhalf (by decide)).trans (halfAt_be16 [] _), (hhead (by decide)).trans (congrArg byteOf popped.slotCount_eq), fun z => ?_,
      hhead (by decide), (hhead (by decide)).trans popped.ownCode_eq, fun h => ?_, fun n h => ?_,
      popped.getLsbD_supplyFlags (by decide), popped.getLsbD_supplyFlags (by decide), fun h => ?_,
      fun before e behind hv he hbefore => ?_, fun i => ⟨popped.halfAt_count i, popped.getLsbD_flag i, popped.getLsbD_armed i⟩,
      fun k => ⟨popped.getLsbD_filterFlags k, popped.byteAt_filterId k⟩⟩
    iterate 3
      · rw [hhead (by decide)]
        exact getLsbD_flagByte _ (by decide)
    · intro code
      have hcode : popped.zoneCode z = code := popped.zoneCode_eq z
      rw [hhead (by decide), popped.halfAt_zoneField z, ← hcode]
      exact ⟨popped.zoneCode_of_byte z, popped.zoneField_absent, fun v hfit hv => popped.zoneField_present hfit hv⟩
    · rw [hahead, show popped.entriesAhead = none from h]
      rfl
    · rw [hahead, show popped.entriesAhead = some n from h]
      rfl
    · have hserial : popped.ownSerial = none := State.ownSerial_absent h
      rw [popped.getLsbD_supplyFlags (by decide), popped.wordAt_ownSerial, hserial]
      exact ⟨rfl, rfl⟩
    · have hserial : popped.ownSerial = e.serial := State.ownSerial_of_split hv he hbefore
      rw [popped.getLsbD_supplyFlags (by decide), popped.wordAt_ownSerial, hserial]
      exact ⟨rfl, rfl⟩
  · refine ⟨popped.statusStore, popped.statusStore_length,
      congrArg Host.Outcome.next (State.takeStatusQuery_store (s := popped) hp), rfl,
      fun k => ⟨popped.getLsbD_activeFlags k, popped.getLsbD_stagedFlags k, fun i rc ha hr => ⟨?_, ?_⟩, fun i rc hs hr => ?_⟩,
      popped.byteAt_storeTail 0, popped.byteAt_storeTail 1, fun h => popped.halfAt_assembler_idle h,
      fun k n data h => popped.byteAt_assembling h⟩
    · rw [popped.halfAt_activeCrc k, show popped.store.slots[k].active = some i from ha]
      exact Store.crcOf_eq (by rw [show popped.store.records[i] = .active rc from hr]; rfl)
    · rw [popped.byteAt_references k, show popped.store.slots[k].active = some i from ha]
      rfl
    · rw [popped.halfAt_stagedCrc k, show popped.store.slots[k].staged = some i from hs]
      exact Store.crcOf_eq (by rw [show popped.store.records[i] = .staged rc from hr]; rfl)

end Sys2Proof.Machine

end
